-- ==== Sys2Proof/Word.lean ====
section
/-! DEFINITION. The word types of the KS-16 manual, and the moves of an SPI master. -/

namespace Sys2Proof

/-- One byte on the station line or the host port. -/
abbrev Byte := BitVec 8

/-- A 48-bit time in microseconds: stamps, network time, the horizon, CT (R11). Stamps compare as
unsigned integers. -/
abbrev Stamp := BitVec 48

/-- A 16-bit own sequence or note number (R12, R14, R15). -/
abbrev Seq := BitVec 16

/-- A 16-bit count: a saturating counter, an edge count, a round number. -/
abbrev Count := BitVec 16

/-- The sixteen field inputs IN0 to IN15. -/
abbrev Line16 := BitVec 16

/-- A valid station address: the value `p` stands for address `p + 1`, so the range is exactly
1 to 24 (R44, R167). -/
abbrev Station := Fin 24

/-- What the host does next while SEL is low (R180, R182): SCK rises with SDI at a level, SCK falls, a
microsecond passes, or SEL rises. -/
inductive HostMove where
  | rise (sdi : Bool)
  | fall
  | pause
  | lift
  deriving DecidableEq, Repr

end Sys2Proof
end

