-- ==== Sys2Proof/Syntax.lean ====
section
/-! DEFINITION. The commands of the station: one constructor per row of spec/opcode_table.json. -/

namespace Sys2Proof

/-- The commands and events the station takes, each whole and indivisible. The operands are the
model's reading of what each row's rule needs (assumption log 8). A frame's `raw` is all its bytes
from the arbitration byte to the second CRC byte (R203). -/
inductive Instr where
  /-- R166: RST goes low or power is applied. -/
  | deviceReset
  /-- R167: device reset ends and the straps read ADR4..ADR0 and BR1..BR0. -/
  | resetRelease (adr : BitVec 5) (br : BitVec 2)
  /-- R180: SEL falls; `moves` is what the host then does with SCK, SDI and SEL. With none given, rows tell
  what the host port reads (assumption log 14). -/
  | selFall (moves : List HostMove := [])
  /-- R182: SEL rises. -/
  | selRise
  /-- R185: the command byte STATUS is whole. -/
  | status
  /-- R186: the last byte of a STATUS response leaves. -/
  | statusResponseEnd
  /-- R169: the last byte of a CONFIGURE record is whole; `record` is all of it. -/
  | configure (record : List Byte)
  /-- R170: the command byte START is whole. -/
  | start
  /-- R189: the operand byte of READ is whole. -/
  | read (n : Byte)
  /-- R37: the last byte of a host record leaves. -/
  | recordConsumed
  /-- R191: the command byte PEERS is whole. -/
  | peers
  /-- R192: the command byte INPUTS is whole. -/
  | inputs
  /-- R193: the operand byte of MARK is whole. -/
  | mark (tag : Byte)
  /-- R177: the command byte REJOIN is whole. -/
  | rejoin
  /-- R195: the command byte CLEAR COUNTS is whole. -/
  | clearCounts
  /-- R183: a command byte that names no command is whole. -/
  | badCommand (byte : Byte)
  /-- R117: the pin of an input changes to `level`; when it stands there already, the present count of the
  local counter reads it (assumption log 15). -/
  | pinChange (input : Fin 16) (level : Bool)
  /-- R118: a sample tick falls. -/
  | sampleTick
  /-- R124: the hold-off timer of an input runs out. -/
  | holdoffExpiry (input : Fin 16)
  /-- R122: the chatter window timer of an input runs out. -/
  | chatterWindowExpiry (input : Fin 16)
  /-- R126: the quiet timer of an input runs out. -/
  | quietTimerExpiry (input : Fin 16)
  /-- R31: a release tick falls. -/
  | releaseTick
  /-- R143: the released run reaches 12 bit times. -/
  | idleGap
  /-- R153: the released run reaches 24 bit times. -/
  | holdBackClear
  /-- R144: the driven run passes 100 bit times. -/
  | lineStuck
  /-- R53: a HELLO frame reaches its declared end. -/
  | helloReceived (raw : List Byte)
  /-- R65: a TIME frame reaches its declared end. -/
  | timeReceived (raw : List Byte)
  /-- R57: an EVENT frame reaches its declared end. -/
  | eventReceived (raw : List Byte)
  /-- R89: a REPAIR_REQ frame reaches its declared end. -/
  | repairReqReceived (raw : List Byte)
  /-- R90: a REPAIR_DATA frame reaches its declared end. -/
  | repairDataReceived (raw : List Byte)
  /-- R81: a REPAIR_NONE frame reaches its declared end. -/
  | repairNoneReceived (raw : List Byte)
  /-- R50: the silence timer of a peer runs out. -/
  | silenceExpiry (peer : Station)
  /-- R78: the repair timers of one or more entries of a peer run out. -/
  | repairTimerExpiry (peer : Station)
  /-- R86: the proxy delay of an entry runs out. -/
  | proxyDelayExpiry (subject : Station) (seq : Seq)
  /-- R98: the round timer runs out. -/
  | roundEnd
  /-- R110: a slew tick falls. -/
  | slewTick
  /-- R172: the join timer runs out. -/
  | joinTimerExpiry
  /-- R147: the station begins a frame. -/
  | frameBegin
  /-- R149: driven is read where released was sent during arbitration. -/
  | arbitrationLoss
  /-- R150: a bit reads back otherwise than it was sent. -/
  | bitError
  /-- R152: the last CRC bit of this station's frame reads back as sent. -/
  | frameComplete
  /-- R141, R143: other stations drive the line, from released to driven, and leave it at `levels` at the bit
  times that follow; in IDLE it is the start of a frame. With no levels given, rows tell what the receiver
  reads (assumption log 6). -/
  | startOfFrame (levels : List Bool := [])
  /-- R149: the arbitration byte reads back as sent through its stop bit. -/
  | arbitrationWon
  /-- R144: the first released bit is read after a stuck line. -/
  | lineStuckClear
  /-- R159: the stop bit of `byte` reads driven. -/
  | framingFault (byte : Byte)
  /-- R155: a body length above 57 is read. -/
  | bodyLengthAbove57 (len : Byte)
  /-- R158: a frame that fails its CRC or a content check reaches its declared end. -/
  | crcError (raw : List Byte)
  /-- R181: the command byte of READ, MARK or CONFIGURE is whole; any other byte is its own row (R206,
  assumption log 8). -/
  | commandByte (byte : Byte)
  /-- R181: the last byte of a response leaves. -/
  | responseEnd
  deriving DecidableEq, Repr

end Sys2Proof
end

