-- ==== Sys2Proof/Decode.lean ====
section
/-! DEFINITION. Reading a command from a word, and the command a host byte names. -/

namespace Sys2Proof

/-- The command a word spells by the bits of spec/opcode_table.json. The table gives bits for no
row (every row's "fields" is empty and none has "fixed"), so no word spells a command (assumption
log 19). The command bytes of the host port are read by `commandOf`, the other bytes of chapter 11 in
Machine/Formats.lean and Machine/Operands.lean. -/
def decodeTableWord (_nbits _w : Nat) : Option Instr := none

/-- The nine commands of the host port (R206). -/
inductive CommandName where
  | status | configure | start | read | peers | inputs | mark | rejoin | clearCounts
  deriving DecidableEq, Repr

/-- R206: the command a command byte names; 00h and 0Ah to FFh name none (R183). -/
def commandOf (byte : Byte) : Option CommandName :=
  if byte = 0x01 then some .status
  else if byte = 0x02 then some .configure
  else if byte = 0x03 then some .start
  else if byte = 0x04 then some .read
  else if byte = 0x05 then some .peers
  else if byte = 0x06 then some .inputs
  else if byte = 0x07 then some .mark
  else if byte = 0x08 then some .rejoin
  else if byte = 0x09 then some .clearCounts
  else none

end Sys2Proof
end

