-- ==== Sys2Proof/Config.lean ====
section
/-! DEFINITION. What the part fixes (the capacities and intervals of the manual), and the one free value. -/

namespace Sys2Proof.Config

/-- Records the Event Journal holds, settling and released together (R16). -/
def journalCapacity : Nat := 512

/-- Records the Outbound Queue holds (R130). -/
def queueCapacity : Nat := 32

/-- Records the Retained History holds (R138). -/
def historyCapacity : Nat := 64

/-- Entries of one missing set (R61). -/
def missingCapacity : Nat := 8

/-- Answers in the origin answer list (R84). -/
def originCapacity : Nat := 4

/-- Entries in the proxy answer list (R86). -/
def proxyCapacity : Nat := 8

/-- Records in one EVENT or REPAIR_DATA frame (R145). -/
def frameRecords : Nat := 4

/-- Sequences in one REPAIR_REQ or REPAIR_NONE frame (R145). -/
def frameSequences : Nat := 8

/-- Records one READ may ask for (R189). -/
def readLimit : Nat := 16

/-- Consecutive bit-error aborts that put the station into QUIET (R151). -/
def failureLimit : Nat := 16

/-- Microseconds by which the own term trails network time (R27). -/
def ownLag : Nat := 200

/-- Local time between release ticks in microseconds (R31). -/
def releasePeriod : Nat := 1000

/-- Local time between slew ticks in microseconds (R110). -/
def slewPeriod : Nat := 100

/-- Local time between sample ticks in microseconds (R118). -/
def samplePeriod : Nat := 100

/-- Bit times of one byte on the line (R142). -/
def byteBits : Nat := 10

/-- Bit times of released line that make an idle gap (R142). -/
def idleGapBits : Nat := 12

/-- Bit times of released line that clear hold-back (R153). -/
def holdBackBits : Nat := 24

/-- Bit times of driven line past which the line is stuck (R144). -/
def stuckBits : Nat := 100

/-- Largest body length of a frame (R145). -/
def bodyLimit : Nat := 57

/-- Adjustment up to which the lock run grows, in microseconds (R105). -/
def lockWindow : Nat := 50

/-- Uncapped adjustment above which the release run grows, in microseconds (R106). -/
def releaseWindow : Nat := 1000

/-- Lock run count that makes LOCKED (R105). -/
def lockRuns : Nat := 2

/-- Release run count that leaves LOCKED (R106). -/
def releaseRuns : Nat := 3

/-- Rounds without a peer candidate that make FREE (R105, R106). -/
def holdoverLimit : Nat := 8

/-- The free choice of order among events of the station that fall at one instant (R26, R127,
R178: "either may come first"). Nothing is known of it: a claim holds whichever order it gives.
Assumption log 3. -/
opaque tieChoice : Nat → Nat

end Sys2Proof.Config
end

