-- ==== Sys2Proof/Machine/Record.lean ====
section
/-! DEFINITION. Records, notes and frames as data (chapters 1 and 7). -/

namespace Sys2Proof.Machine

open Sys2Proof

/-- State of a Timebase; the quality field of a record (R3, R95). -/
inductive TimeState where
  | free | acquire | locked
  deriving DecidableEq, Repr

/-- Why a run of sequences was declared lost (R8). -/
inductive GapCause where
  | expired | exhausted | overrun | restart
  deriving DecidableEq, Repr

/-- The kind of a record with the detail fields of that kind (R1, R5 to R9). -/
inductive Detail where
  /-- R5. -/
  | edge (input : Fin 16) (level : Bool) (deferred : Bool) (count : Count) (snapshot : Line16)
  /-- R6. -/
  | chatter (input : Fin 16) (count : Count) (snapshot : Line16)
  /-- R6. -/
  | resume (input : Fin 16) (level : Bool) (count : Count) (snapshot : Line16)
  /-- R7. -/
  | loss (count : Count)
  /-- R7. -/
  | mark (tag : Byte) (snapshot : Line16)
  /-- R8. -/
  | gap (subject : Station) (first : Seq) (count : Count) (cause : GapCause)
  /-- R9. -/
  | peerUp (subject : Station) (restart : Bool) (mismatch : Bool)
  /-- R9: `next` is absent while the entry's next sequence is unknown. -/
  | peerDown (subject : Station) (next : Option Seq)
  /-- R9: the signed amount, held in two's complement. -/
  | timestep (amount : BitVec 48)
  /-- R9. -/
  | overflow (count : Count) (first last : Stamp)
  deriving DecidableEq, Repr

/-- One record (R1) without the journal flags. The origin is 0 for a note and the address, 1 to 24,
for a network record (R2). -/
structure Record where
  origin : Fin 25
  seq : Seq
  stamp : Stamp
  quality : TimeState
  detail : Detail
  deriving DecidableEq, Repr

/-- A record as the journal holds it, with its two flags (R10). -/
structure Held where
  record : Record
  late : Bool
  repaired : Bool
  deriving DecidableEq, Repr

/-- The body of a frame of each kind (R145, R203). -/
inductive Frame where
  | hello (next : Seq) (restart : Bool) (si : BitVec 16)
  | time (sender settled : Stamp) (next : Seq) (si : BitVec 16) (state : TimeState)
  | repairReq (subject : Station) (proxy : Bool) (seqs : List Seq)
  | repairData (subject : Station) (records : List Record)
  | repairNone (subject : Station) (seqs : List Seq)
  | event (records : List Record)
  deriving DecidableEq, Repr

end Sys2Proof.Machine
end

