-- ==== Sys2Proof/Machine/Arith.lean ====
section
/-! DEFINITION. The comparisons and the arithmetic that every chapter uses on stamps, sequences, keys
and counts (R8, R11, R12, R13, R103). -/

namespace Sys2Proof.Machine

open Sys2Proof

/-- R12: `a` is after `b`. -/
def seqAfter (a b : Seq) : Bool :=
  1 ≤ (a - b).toNat && (a - b).toNat ≤ 32767

/-- R12: `a` is before `b`. -/
def seqBefore (a b : Seq) : Bool :=
  32769 ≤ (a - b).toNat

/-- R12: `n` sequences from `a` on, modulo 65536. -/
def seqRange (a : Seq) : Nat → List Seq
  | 0 => []
  | n + 1 => a :: seqRange (a + 1) n

/-- R12: every sequence from `a` up to the one before `b`. -/
def seqsUpTo (a b : Seq) : List Seq :=
  seqRange a (b - a).toNat

/-- R8: the maximal runs of consecutive sequences of a list in sequence order, each as its first
sequence and its length. -/
def seqRuns : List Seq → List (Seq × Nat)
  | [] => []
  | a :: rest =>
    match seqRuns rest with
    | (b, n) :: more => if b = a + 1 then (a, n + 1) :: more else (a, 1) :: (b, n) :: more
    | [] => [(a, 1)]

/-- A 16-bit count rises by 1 and saturates at 65535 (00_scope section 5, R164). -/
def satInc (c : Count) : Count :=
  if c.toNat < 65535 then c + 1 else c

/-- A number as a 16-bit count that saturates at 65535 (00_scope section 5). -/
def satCount (n : Nat) : Count :=
  BitVec.ofNat 16 (min n 65535)

/-- R11: the signed difference of two 48-bit values, from −2^47 to 2^47 − 1. -/
def signedDiff (a b : Stamp) : Int :=
  (a - b).toInt

/-- R11: the earlier of two stamps. -/
def earlier (a b : Stamp) : Stamp :=
  if b < a then b else a

/-- R11: the later of two stamps. -/
def later (a b : Stamp) : Stamp :=
  if a < b then b else a

/-- R2: EDGE, CHATTER, RESUME, LOSS and MARK are network kinds; the others are notes. -/
def Detail.isNetwork : Detail → Bool
  | .edge .. => true
  | .chatter .. => true
  | .resume .. => true
  | .loss .. => true
  | .mark .. => true
  | .gap .. => false
  | .peerUp .. => false
  | .peerDown .. => false
  | .timestep .. => false
  | .overflow .. => false

/-- R2: the record is of a network kind. -/
def Record.isNetwork (r : Record) : Bool :=
  r.detail.isNetwork

/-- R13: the key of `a` is smaller than the key of `b`. -/
def keyLt (a b : Record) : Bool :=
  a.stamp < b.stamp ||
    (a.stamp == b.stamp &&
      (a.origin < b.origin || (a.origin == b.origin && a.seq < b.seq)))

/-- R4: a 16-bit word with bit `i` set to `b`. -/
def withBit (w : Line16) (i : Nat) (b : Bool) : Line16 :=
  if b then w ||| (1#16 <<< i) else w &&& ~~~(1#16 <<< i)

/-- The address of a station as an origin (R2). -/
def originOf (p : Station) : Fin 25 :=
  p.succ

/-- The station a 5-bit address names, when it is valid (R167). -/
def stationOf (adr : BitVec 5) : Option Station :=
  if h : 1 ≤ adr.toNat ∧ adr.toNat ≤ 24 then some ⟨adr.toNat - 1, by omega⟩ else none

/-- R103: the highest of a list of values, 0 for none. -/
def highest : List Int → Int
  | [] => 0
  | v :: vs => vs.foldl max v

/-- R103: the lowest of a list of values, 0 for none. -/
def lowest : List Int → Int
  | [] => 0
  | v :: vs => vs.foldl min v

/-- R103: with 4 or more values, one equal to the highest and one equal to the lowest go. -/
def trimmed (vs : List Int) : List Int :=
  if 4 ≤ vs.length then (vs.erase (highest vs)).erase (lowest vs) else vs

/-- R103: the adjustment, the sum of the remaining values over their number, truncated toward zero. -/
def adjustment (vs : List Int) : Int :=
  (trimmed vs).sum.tdiv (trimmed vs).length

/-- A value held within `-cap` and `cap` (R106). -/
def clampTo (cap : Int) (a : Int) : Int :=
  max (-cap) (min cap a)

/-- `n` values of a list in a free order (R26, R127): each next one is picked by the opaque
`Config.tieChoice`; a list of one value needs no choice (assumption log 3). -/
def arrange {α : Type} : Nat → Nat → List α → List α
  | 0, _, xs => xs
  | _ + 1, _, [] => []
  | _ + 1, _, [x] => [x]
  | n + 1, k, x :: y :: zs =>
    let j := Config.tieChoice k % (zs.length + 2)
    ((x :: y :: zs)[j]?).toList ++ arrange n (k + 1) ((x :: y :: zs).eraseIdx j)

/-- One of a list of values in a free choice; the only one needs no choice. -/
def pickOne {α : Type} (k : Nat) : List α → Option α
  | [] => none
  | [x] => some x
  | x :: y :: zs => (x :: y :: zs)[Config.tieChoice k % (zs.length + 2)]?

end Sys2Proof.Machine
end

