-- ==== Sys2Proof/Machine/State.lean ====
section
/-! DEFINITION. The whole state of the station, block by block as 00_scope.md section 3 lists them,
and its value after device reset. A timer is `none` while stopped and `some n` while it runs with
`n` microseconds of local time left; `some 0` has run out and its expiry is due now. -/

namespace Sys2Proof.Machine

open Sys2Proof

/-- Life-cycle state (chapter 8). -/
inductive Lifecycle where
  | unconfigured | joining | running | quiet
  deriving DecidableEq, Repr

/-- QUIET cause (R175). -/
inductive QuietCause where
  | noCause | clash | lineFault
  deriving DecidableEq, Repr

/-- Strapped bit rate (R167). -/
inductive BitRate where
  | kbit125 | kbit250 | kbit500 | kbit1000
  deriving DecidableEq, Repr

/-- Edge mode of an input (R115). -/
inductive EdgeMode where
  | off | rising | falling | both
  deriving DecidableEq, Repr

/-- Qualification of an input (R115). -/
inductive Qualification where
  | direct | qualified
  deriving DecidableEq, Repr

/-- The five configuration fields of one input (R115). -/
structure InputConfig where
  mode : EdgeMode
  qualification : Qualification
  holdoff : Nat
  chatterLimit : Nat
  chatterWindow : Nat
  deriving DecidableEq, Repr

/-- The configuration record (R168). -/
structure ConfigRecord where
  si : Nat
  m : Nat
  ri : Nat
  retries : Nat
  lineDelay : Nat
  threshold : Nat
  inputs : Vector InputConfig 16
  deriving DecidableEq, Repr

/-- Station Control (chapter 8). -/
structure Control where
  lifecycle : Lifecycle
  cause : QuietCause
  joinTimer : Option Nat
  address : BitVec 5
  bitRate : BitRate
  config : ConfigRecord
  inForce : Bool
  restartPending : Bool
  deriving DecidableEq, Repr

/-- State of an input (chapter 6). -/
inductive InputState where
  | disabled | armed | holdoff | suspended
  deriving DecidableEq, Repr

/-- An open candidate of a QUALIFIED input: its level with the network time, time state and snapshot
of its first sample (R118). -/
structure Candidate where
  level : Bool
  time : Stamp
  quality : TimeState
  snapshot : Line16
  deriving DecidableEq, Repr

/-- An open chatter window (R122). -/
structure ChatterWindow where
  count : Nat
  left : Nat
  deriving DecidableEq, Repr

/-- One input of the Capture Unit (chapter 6). `countTaken` says that the present count of the local counter
has been a qualified transition of this DIRECT input, which is read once at each count (R117). -/
structure Input where
  state : InputState
  level : Bool
  candidate : Option Candidate
  edgeCount : Count
  holdoffRef : Option Bool
  holdoffTimer : Option Nat
  window : Option ChatterWindow
  quietTimer : Option Nat
  countTaken : Bool
  deriving DecidableEq, Repr

/-- The Outbound Queue (R130). -/
structure Outbound where
  records : List Record
  nextSeq : Seq
  lost : Count
  deriving DecidableEq, Repr

/-- Receiver state (R143): WAIT, IDLE, RECEIVING. -/
inductive Receiver where
  | waiting | idle | receiving
  deriving DecidableEq, Repr

/-- Transmitter state (section 7.3). -/
inductive Transmitter where
  | free | arbitrating | sending
  deriving DecidableEq, Repr

/-- Which block supplied the prepared frame and what its completion will take (R148, R152). -/
inductive Source where
  | hello (restart : Bool)
  | time
  | originAnswer
  | proxyAnswer (subject : Station) (seqs : List Seq)
  | repairReq (subject : Station) (seqs : List Seq)
  | event (count : Nat)
  deriving DecidableEq, Repr

/-- The one frame being sent, with the content fixed at its SOF (R147, R154). -/
structure Prepared where
  source : Source
  frame : Frame
  deriving DecidableEq, Repr

/-- The Line Controller (chapter 7). The runs count the bits of the line as last read, and `bitPhase` counts
microseconds into the present bit time (R141, R142). `bytes` holds the bytes read of the frame in
reception and `bits` the bits read of the byte after them (R143); `echo` says that the frame is this
station's own (R160). `sent` counts the bits of the prepared frame that were read back as sent, and
`misread` says that the bit after them was read back otherwise (R149, R150). `driving` says that a frame of
this station has completed and its last CRC bit, a 0, is driven to the end of its bit time (R142, R152). -/
structure LineControl where
  rx : Receiver
  releasedRun : Nat
  drivenRun : Nat
  bitPhase : Nat
  bits : List Bool
  bytes : List Byte
  echo : Bool
  tx : Transmitter
  prepared : Option Prepared
  sent : Nat
  misread : Bool
  driving : Bool
  helloOwed : Bool
  holdBack : Bool
  failures : Nat
  stuck : Bool
  deriving DecidableEq, Repr

/-- The station line outside this station (R141). `level` is the level at which the other stations leave it
in the present bit time, released `true` or driven `false`, `coming` their levels at the bit times after
it, and the last one stays. While `untold` holds, the outside tells by rows alone what the receiver reads
(assumption log 6). -/
structure Medium where
  level : Bool
  coming : List Bool
  untold : Bool
  deriving DecidableEq, Repr

/-- The eight counters (R164). -/
structure Counters where
  crcErrors : Count
  truncated : Count
  formatErrors : Count
  duplicates : Count
  bitErrors : Count
  arbitrationLosses : Count
  journalDrops : Count
  lateRecords : Count
  deriving DecidableEq, Repr

/-- The Timebase (chapter 5). `sofCounter` is the local counter recorded at the last SOF (R99). -/
structure Timebase where
  localCounter : BitVec 48
  correction : BitVec 48
  timeState : TimeState
  roundTimer : Option Nat
  round : Count
  timeOwed : Bool
  slewRemainder : Int
  lockRun : Nat
  releaseRun : Nat
  holdover : Nat
  freshness : Vector Nat 24
  sofCounter : BitVec 48
  deriving DecidableEq, Repr

/-- Microseconds of local time to the next release, slew and sample tick; 0 when the tick is due now
(R31, R110, R118). -/
structure Ticks where
  release : Nat
  slew : Nat
  sample : Nat
  deriving DecidableEq, Repr

/-- State of a Peer Table entry (R44, R45). -/
inductive PeerState where
  | absent | active | silent | self
  deriving DecidableEq, Repr

/-- Base and next sequence of an entry, known together (R44). -/
structure Numbering where
  base : Seq
  next : Seq
  deriving DecidableEq, Repr

/-- A stored offset, signed in two's complement, with its round number (R44, R67). -/
structure Offset where
  value : BitVec 48
  round : Count
  deriving DecidableEq, Repr

/-- One entry of the Peer Table (R44). -/
structure PeerEntry where
  state : PeerState
  numbering : Option Numbering
  ct : Stamp
  lastHeard : Option Stamp
  silenceTimer : Option Nat
  offset : Option Offset
  timeState : Option TimeState
  mismatch : Bool
  deriving DecidableEq, Repr

/-- Timer of a missing entry (R71): due for `age` microseconds, or timing with `left` to run. -/
inductive RepairTimer where
  | due (age : Nat)
  | timing (left : Nat)
  deriving DecidableEq, Repr

/-- One entry of a missing set (R71). -/
structure Missing where
  seq : Seq
  tries : Nat
  timer : RepairTimer
  heard : Bool
  deriving DecidableEq, Repr

/-- One proxy answer entry (R86); its timer is the proxy delay, then due. -/
structure ProxyEntry where
  subject : Station
  seq : Seq
  timer : RepairTimer
  deriving DecidableEq, Repr

/-- The Repair Unit (chapter 4). An origin answer is the list of its frames still to be sent (R84). -/
structure RepairUnit where
  missing : Vector (List Missing) 24
  originAnswers : List (List Frame)
  proxy : List ProxyEntry
  deriving DecidableEq, Repr

/-- The Event Journal (chapter 2). -/
structure Journal where
  settling : List Held
  released : List Held
  horizon : Stamp
  noteCounter : Seq
  pendingDrops : Count
  firstDrop : Option Stamp
  lastDrop : Option Stamp
  deriving DecidableEq, Repr

/-- Transaction state of the Host Port (R181). -/
inductive Transaction where
  | idle | command | operands | response | trailing
  deriving DecidableEq, Repr

/-- The three commands that have operands (R181). -/
inductive OperandCommand where
  | configure | read | mark
  deriving DecidableEq, Repr

/-- The nine commands with their operands (R181). -/
inductive HostCommand where
  | status
  | configure (record : List Byte)
  | start
  | read (n : Byte)
  | peers
  | inputs
  | mark (tag : Byte)
  | rejoin
  | clearCounts
  deriving DecidableEq, Repr

/-- The report a STATUS fixes at its taking (R185). -/
structure StatusReport where
  lifecycle : Lifecycle
  cause : QuietCause
  timeState : TimeState
  networkTime : Stamp
  horizon : Stamp
  released : Nat
  settling : Nat
  queued : Nat
  lost : Count
  stuck : Bool
  quietFlag : Bool
  dropFlag : Bool
  counters : Counters
  deriving DecidableEq, Repr

/-- The Host Port (chapter 9). `bits` holds the bits sampled of the present byte period, and `out` the bits
of the byte being sent that have not left the pin, the one at the pin first (R180); `operands` holds the
operand bytes received of a command not yet taken, and `left` counts the bytes of the response that have
left (R181). `response` is every byte fixed so far for SDO in state RESPONSE; `sending` says that a host
record of a READ is being sent (R36, R189). -/
structure HostPort where
  txn : Transaction
  bits : List Bool
  out : List Bool
  operands : List Byte
  left : Nat
  operandsOf : Option OperandCommand
  taken : Option HostCommand
  response : List Byte
  report : Option StatusReport
  sending : Bool
  delivered : Nat
  quietFlag : Bool
  dropFlag : Bool
  irq : Bool
  deriving DecidableEq, Repr

/-- The wires from the host beside SEL (R180): the levels of SCK and SDI, and what the host does next. -/
structure HostWires where
  sck : Bool
  sdi : Bool
  coming : List HostMove
  deriving DecidableEq, Repr

/-- The station. `pins`, `selLow`, `wires` and `medium` are what the outside puts at the input pins.
`pending` is the queue of commands that wait, first in first out. `choices` counts the free choices of
order taken so far (assumption log 3). -/
structure State where
  inReset : Bool
  pins : Line16
  selLow : Bool
  wires : HostWires
  medium : Medium
  control : Control
  inputs : Vector Input 16
  outbound : Outbound
  history : List Record
  line : LineControl
  counters : Counters
  timebase : Timebase
  ticks : Ticks
  peers : Vector PeerEntry 24
  repair : RepairUnit
  journal : Journal
  host : HostPort
  pending : List Instr
  choices : Nat
  deriving DecidableEq, Repr

/-- Why the station stops with a fault: never. The manual describes no event that stops it, so this
type has no constructor (INVENTORY.md, Faults). -/
inductive Fault where
  deriving DecidableEq, Repr

/-- Why a command has no meaning. Nothing raises it: every row of the table has its meaning. -/
inductive Refusal where
  /-- A row of the table whose meaning is not written yet; safe. No arm of `exec` answers it. -/
  | notModelled (mnemonic : String)
  deriving DecidableEq, Repr

/-- The defaults of one input (R115). -/
def InputConfig.default : InputConfig :=
  { mode := .off, qualification := .direct, holdoff := 0, chatterLimit := 0, chatterWindow := 10 }

/-- The default configuration record (R168). -/
def ConfigRecord.default : ConfigRecord :=
  { si := 100, m := 3, ri := 20, retries := 3, lineDelay := 0, threshold := 1,
    inputs := Vector.replicate 16 InputConfig.default }

/-- Station Control after device reset (chapter 8). DESIGN CHOICE, unsafe: address 0 and the slowest
bit rate stand until RESET_RELEASE samples the straps (assumption log 4). -/
def Control.reset : Control :=
  { lifecycle := .unconfigured, cause := .noCause, joinTimer := none, address := 0,
    bitRate := .kbit125, config := ConfigRecord.default, inForce := false, restartPending := true }

/-- An input after device reset (chapter 6). -/
def Input.reset : Input :=
  { state := .disabled, level := false, candidate := none, edgeCount := 0, holdoffRef := none,
    holdoffTimer := none, window := none, quietTimer := none, countTaken := false }

/-- The Outbound Queue after device reset (R130). -/
def Outbound.reset : Outbound := { records := [], nextSeq := 0, lost := 0 }

/-- The Line Controller after device reset (chapter 7, R165). -/
def LineControl.reset : LineControl :=
  { rx := .waiting, releasedRun := 0, drivenRun := 0, bitPhase := 0, bits := [], bytes := [],
    echo := false, tx := .free, prepared := none, sent := 0, misread := false,
    driving := false, helloOwed := false, holdBack := false, failures := 0, stuck := false }

/-- The line released by every other station, until they drive it. -/
def Medium.released : Medium := { level := true, coming := [], untold := false }

/-- The counters after device reset, and after CLEAR COUNTS (R164, R195). -/
def Counters.zero : Counters :=
  { crcErrors := 0, truncated := 0, formatErrors := 0, duplicates := 0, bitErrors := 0,
    arbitrationLosses := 0, journalDrops := 0, lateRecords := 0 }

/-- The Timebase after device reset (chapter 5). DESIGN CHOICE, unsafe: the recorded SOF counter,
which nothing reads before the first SOF, is 0 (assumption log 17). -/
def Timebase.reset : Timebase :=
  { localCounter := 0, correction := 0, timeState := .free, roundTimer := none, round := 0,
    timeOwed := false, slewRemainder := 0, lockRun := 0, releaseRun := 0, holdover := 0,
    freshness := Vector.replicate 24 0, sofCounter := 0 }

/-- The ticks are counted from device reset (R31, R110, R118). -/
def Ticks.reset : Ticks :=
  { release := Config.releasePeriod, slew := Config.slewPeriod, sample := Config.samplePeriod }

/-- A Peer Table entry after device reset (R44). -/
def PeerEntry.reset : PeerEntry :=
  { state := .absent, numbering := none, ct := 0, lastHeard := none, silenceTimer := none,
    offset := none, timeState := none, mismatch := false }

/-- The Repair Unit after device reset (R92). -/
def RepairUnit.reset : RepairUnit :=
  { missing := Vector.replicate 24 [], originAnswers := [], proxy := [] }

/-- The Event Journal after device reset (R43). -/
def Journal.reset : Journal :=
  { settling := [], released := [], horizon := 0, noteCounter := 0, pendingDrops := 0,
    firstDrop := none, lastDrop := none }

/-- The Host Port after device reset (R198). -/
def HostPort.reset : HostPort :=
  { txn := .idle, bits := [], out := [], operands := [], left := 0, operandsOf := none, taken := none,
    response := [], report := none, sending := false, delivered := 0, quietFlag := false,
    dropFlag := false, irq := false }

/-- The wires from a host that moves none: SCK rests low (R180). -/
def HostWires.atRest : HostWires := { sck := false, sdi := false, coming := [] }

/-- The station held in device reset, every item at its value after device reset (R166). DESIGN
CHOICE, unsafe: the pins and the host's wires read low, SEL is high and the line is released (assumption
log 5), and the count of free choices starts at 0 (assumption log 3). RESET_RELEASE is the first command
that runs (assumption log 4). -/
def State.reset : State :=
  { inReset := true, pins := 0, selLow := false, wires := HostWires.atRest, medium := Medium.released,
    control := Control.reset,
    inputs := Vector.replicate 16 Input.reset, outbound := Outbound.reset, history := [],
    line := LineControl.reset, counters := Counters.zero, timebase := Timebase.reset,
    ticks := Ticks.reset, peers := Vector.replicate 24 PeerEntry.reset, repair := RepairUnit.reset,
    journal := Journal.reset, host := HostPort.reset, pending := [], choices := 0 }

end Sys2Proof.Machine
end

