-- ==== Sys2Proof/WellFormed.lean ====
section
/-! DEFINITION. Which commands have operands that their row can carry (assumption log 8). -/

namespace Sys2Proof

/-- The bytes of a frame whose declared end is reached: the three header bytes, as many body bytes
as the third states, at most 57, and two CRC bytes (R145, R155). -/
def frameWhole (raw : List Byte) : Bool :=
  match raw with
  | _ :: _ :: len :: rest => len.toNat ≤ Config.bodyLimit && rest.length == len.toNat + 2
  | _ => false

/-- A whole frame whose kind byte is `kind` (R203). -/
def frameOfKind (kind : Byte) (raw : List Byte) : Bool :=
  frameWhole raw && raw[1]? == some kind

/-- Bytes in a configuration record (R207). -/
def configBytes : Nat := 87

/-- The command bytes of READ, MARK and CONFIGURE, the commands with operands (R181, R206). -/
def hasOperands (byte : Byte) : Bool :=
  commandOf byte == some .configure || commandOf byte == some .read || commandOf byte == some .mark

/-- A command byte that names none of the nine commands (R183, R206). -/
def namesNoCommand (byte : Byte) : Bool :=
  (commandOf byte).isNone

/-- A command whose operands its row can carry. -/
def Instr.wellFormed : Instr → Bool
  | .configure record => record.length == configBytes
  | .badCommand byte => namesNoCommand byte
  | .commandByte byte => hasOperands byte
  | .helloReceived raw => frameOfKind 0x01 raw
  | .timeReceived raw => frameOfKind 0x02 raw
  | .repairReqReceived raw => frameOfKind 0x03 raw
  | .repairDataReceived raw => frameOfKind 0x04 raw
  | .repairNoneReceived raw => frameOfKind 0x05 raw
  | .eventReceived raw => frameOfKind 0x06 raw
  | .crcError raw => frameWhole raw
  | .bodyLengthAbove57 len => Config.bodyLimit < len.toNat
  | .deviceReset => true
  | .resetRelease _ _ => true
  | .selFall _ => true
  | .selRise => true
  | .status => true
  | .statusResponseEnd => true
  | .start => true
  | .read _ => true
  | .recordConsumed => true
  | .peers => true
  | .inputs => true
  | .mark _ => true
  | .rejoin => true
  | .clearCounts => true
  | .pinChange _ _ => true
  | .sampleTick => true
  | .holdoffExpiry _ => true
  | .chatterWindowExpiry _ => true
  | .quietTimerExpiry _ => true
  | .releaseTick => true
  | .idleGap => true
  | .holdBackClear => true
  | .lineStuck => true
  | .silenceExpiry _ => true
  | .repairTimerExpiry _ => true
  | .proxyDelayExpiry _ _ => true
  | .roundEnd => true
  | .slewTick => true
  | .joinTimerExpiry => true
  | .frameBegin => true
  | .arbitrationLoss => true
  | .bitError => true
  | .frameComplete => true
  | .startOfFrame _ => true
  | .arbitrationWon => true
  | .lineStuckClear => true
  | .framingFault _ => true
  | .responseEnd => true

end Sys2Proof
end

