-- ==== Sys2Proof/Machine/Formats.lean ====
section
/-! DEFINITION. The byte layouts of chapter 11 for the station line and for host records: fields, the bits
of a byte on the line, line records, host records, frames, the CRC, and the checks of a received frame
(R142, R156 to R159, R202 to R205). -/

namespace Sys2Proof.Machine

open Sys2Proof

/-! ### Fields (R202) -/

/-- R202: 16 bits, most significant byte first. -/
def bytes16 (w : BitVec 16) : List Byte :=
  [w.extractLsb' 8 8, w.extractLsb' 0 8]

/-- R202: 48 bits, most significant byte first. -/
def bytes48 (w : BitVec 48) : List Byte :=
  [w.extractLsb' 40 8, w.extractLsb' 32 8, w.extractLsb' 24 8, w.extractLsb' 16 8,
    w.extractLsb' 8 8, w.extractLsb' 0 8]

/-- R202: two bytes as 16 bits. -/
def word16 (a b : Byte) : BitVec 16 :=
  a ++ b

/-- R202: six bytes as 48 bits. -/
def word48 (a b c d e f : Byte) : BitVec 48 :=
  a ++ b ++ c ++ d ++ e ++ f

/-- R202: a flag takes one byte. -/
def flagByte (b : Bool) : Byte :=
  if b then 0x01 else 0x00

/-- R202: any other flag value is a format error. -/
def flagOf (b : Byte) : Option Bool :=
  if b = 0x00 then some false else if b = 0x01 then some true else none

/-- R202. -/
def TimeState.code : TimeState → BitVec 2
  | .free => 0
  | .acquire => 1
  | .locked => 2

/-- R202. -/
def timeStateOf (c : Byte) : Option TimeState :=
  if c = 0x00 then some .free else if c = 0x01 then some .acquire
  else if c = 0x02 then some .locked else none

/-- R202. -/
def Detail.code : Detail → BitVec 4
  | .edge .. => 1
  | .chatter .. => 2
  | .resume .. => 3
  | .loss .. => 4
  | .mark .. => 5
  | .gap .. => 6
  | .peerUp .. => 7
  | .peerDown .. => 8
  | .timestep .. => 9
  | .overflow .. => 10

/-- R202. -/
def GapCause.code : GapCause → Byte
  | .expired => 0x00
  | .exhausted => 0x01
  | .overrun => 0x02
  | .restart => 0x03

/-- The address of a station as a byte. -/
def stationByte (p : Station) : Byte :=
  BitVec.ofNat 8 (p.val + 1)

/-- The station a subject byte names, 1 to 24 (R159). -/
def subjectOf (b : Byte) : Option Station :=
  if h : 1 ≤ b.toNat ∧ b.toNat ≤ 24 then some ⟨b.toNat - 1, by omega⟩ else none

/-! ### Bits on the line (R141, R142) -/

/-- R142: the eight data bits of a byte, most significant first, released `true` and driven `false`. -/
def dataBits (b : Byte) : List Bool :=
  [b.getLsbD 7, b.getLsbD 6, b.getLsbD 5, b.getLsbD 4, b.getLsbD 3, b.getLsbD 2, b.getLsbD 1,
    b.getLsbD 0]

/-- R142: a byte on the line: a driven start bit, the data bits, a released stop bit. -/
def byteBits (b : Byte) : List Bool :=
  false :: dataBits b ++ [true]

/-- R142: the bytes of a frame follow one another with no space between them. -/
def lineBits (bs : List Byte) : List Bool :=
  bs.flatMap byteBits

/-- R142: the byte whose data bits these are, most significant first. -/
def byteOfBits (bits : List Bool) : Byte :=
  bits.foldl (fun b x => (b <<< 1) ||| BitVec.setWidth 8 (BitVec.ofBool x)) 0#8

/-! ### Records (R204) -/

/-- R204: the input byte: the input in bits 3 to 0, a level in bit 4, deferred in bit 5. -/
def inputByte (input : Fin 16) (level deferred : Bool) : Byte :=
  BitVec.ofNat 8 (input.val + (if level then 16 else 0) + (if deferred then 32 else 0))

/-- R204: the input a byte names in bits 3 to 0. -/
def inputOf (b : Byte) : Fin 16 :=
  ⟨b.toNat % 16, Nat.mod_lt _ (by decide)⟩

/-- R204: the age of a drop time before the note's stamp, in ms, from 0 to 65535. -/
def dropAge (stamp drop : Stamp) : Count :=
  BitVec.ofNat 16 (min ((signedDiff stamp drop).tdiv 1000).toNat 65535)

/-- R204: the detail bytes of a kind, 5 for network kinds and 6 for notes. `stamp` is the record's
own stamp, which the ages of an OVERFLOW note need. -/
def Detail.bytes (stamp : Stamp) : Detail → List Byte
  | .edge i level deferred count snap => inputByte i level deferred :: bytes16 count ++ bytes16 snap
  | .chatter i count snap => inputByte i false false :: bytes16 count ++ bytes16 snap
  | .resume i level count snap => inputByte i level false :: bytes16 count ++ bytes16 snap
  | .loss count => bytes16 count ++ [0, 0, 0]
  | .mark tag snap => tag :: bytes16 snap ++ [0, 0]
  | .gap subject first count cause =>
    stationByte subject :: bytes16 first ++ bytes16 count ++ [cause.code]
  | .peerUp subject restart mismatch =>
    [stationByte subject, flagByte restart, flagByte mismatch, 0, 0, 0]
  | .peerDown subject next =>
    [stationByte subject, flagByte next.isSome] ++ bytes16 (next.getD 0) ++ [0, 0]
  | .timestep amount => bytes48 amount
  | .overflow count first last =>
    bytes16 count ++ bytes16 (dropAge stamp first) ++ bytes16 (dropAge stamp last)

/-- R204: the byte of kind, quality and, in a host record, LATE and REPAIRED. -/
def kindByte (r : Record) (late repaired : Bool) : Byte :=
  BitVec.ofBool late ++ BitVec.ofBool repaired ++ r.quality.code ++ r.detail.code

/-- R204: the 14-byte line record of a network record. -/
def encodeLineRecord (r : Record) : List Byte :=
  kindByte r false false :: bytes16 r.seq ++ bytes48 r.stamp ++ r.detail.bytes r.stamp

/-- R204: the 16-byte host record of a held record. -/
def encodeHostRecord (h : Held) : List Byte :=
  BitVec.ofNat 8 h.record.origin.val :: kindByte h.record h.late h.repaired ::
    bytes16 h.record.seq ++ bytes48 h.record.stamp ++ h.record.detail.bytes h.record.stamp ++
    (if h.record.isNetwork then [0] else [])

/-- R204: the detail of a network kind from its kind code and five detail bytes; other kinds and a
LOSS count of 0 are format errors (R159). -/
def detailOf (kind : BitVec 4) (a b c d e : Byte) : Option Detail :=
  if kind = 1 then
    some (.edge (inputOf a) (a.getLsbD 4) (a.getLsbD 5) (word16 b c) (word16 d e))
  else if kind = 2 then some (.chatter (inputOf a) (word16 b c) (word16 d e))
  else if kind = 3 then some (.resume (inputOf a) (a.getLsbD 4) (word16 b c) (word16 d e))
  else if kind = 4 then (if word16 a b = 0 then none else some (.loss (word16 a b)))
  else if kind = 5 then some (.mark a (word16 b c))
  else none

/-- R204: a received line record of an origin. -/
def parseLineRecord (origin : Fin 25) : List Byte → Option Record
  | [k, s1, s2, t1, t2, t3, t4, t5, t6, a, b, c, d, e] =>
    match timeStateOf (BitVec.setWidth 8 (k.extractLsb' 4 2)), detailOf (k.extractLsb' 0 4) a b c d e with
    | some q, some detail =>
      some { origin := origin, seq := word16 s1 s2, stamp := word48 t1 t2 t3 t4 t5 t6,
             quality := q, detail := detail }
    | _, _ => none
  | _ => none

/-- Bytes of a line record (R204). -/
def lineRecordBytes : Nat := 14

/-- R203: `n` line records that fill a body. -/
def parseRecords (origin : Fin 25) : Nat → List Byte → Option (List Record)
  | 0, bs => if bs.isEmpty then some [] else none
  | n + 1, bs =>
    match parseLineRecord origin (bs.take lineRecordBytes),
        parseRecords origin n (bs.drop lineRecordBytes) with
    | some r, some rs => some (r :: rs)
    | _, _ => none

/-- R203: 1 to 4 whole line records. -/
def recordsOf (origin : Fin 25) (bs : List Byte) : Option (List Record) :=
  let n := bs.length / lineRecordBytes
  if 1 ≤ n && n ≤ Config.frameRecords then parseRecords origin n bs else none

/-- R203: `n` sequences that fill the rest of a body. -/
def parseSeqs : Nat → List Byte → Option (List Seq)
  | 0, [] => some []
  | n + 1, a :: b :: rest => (parseSeqs n rest).map (word16 a b :: ·)
  | _, _ => none

/-- R159, R203: a sequence count of 1 to 8 and so many sequences, none named twice. -/
def seqsOf : List Byte → Option (List Seq)
  | count :: rest =>
    match parseSeqs count.toNat rest with
    | some qs =>
      if 1 ≤ count.toNat && count.toNat ≤ Config.frameSequences && decide qs.Nodup then some qs
      else none
    | none => none
  | [] => none

/-- R159: an SI is a multiple of 10 from 10 to 1000 ms. -/
def siInRange (si : BitVec 16) : Bool :=
  10 ≤ si.toNat && si.toNat ≤ 1000 && si.toNat % 10 == 0

/-! ### Frames (R203) -/

/-- R203: the body of a frame. -/
def Frame.body : Frame → List Byte
  | .hello next restart si => bytes16 next ++ [flagByte restart] ++ bytes16 si
  | .time sender settled next si state =>
    bytes48 sender ++ bytes48 settled ++ bytes16 next ++ bytes16 si ++
      [BitVec.setWidth 8 state.code]
  | .repairReq subject proxy seqs =>
    [stationByte subject, flagByte proxy, BitVec.ofNat 8 seqs.length] ++ seqs.flatMap bytes16
  | .repairData subject rs => stationByte subject :: rs.flatMap encodeLineRecord
  | .repairNone subject seqs =>
    [stationByte subject, BitVec.ofNat 8 seqs.length] ++ seqs.flatMap bytes16
  | .event rs => rs.flatMap encodeLineRecord

/-- R203: the kind value. -/
def Frame.kind : Frame → Byte
  | .hello .. => 0x01
  | .time .. => 0x02
  | .repairReq .. => 0x03
  | .repairData .. => 0x04
  | .repairNone .. => 0x05
  | .event .. => 0x06

/-- R145, R203: the class of a kind value. -/
def kindClass (kind : Byte) : Option (BitVec 3) :=
  if kind = 0x01 then some 0 else if kind = 0x02 then some 0
  else if kind = 0x03 then some 1 else if kind = 0x04 then some 1 else if kind = 0x05 then some 1
  else if kind = 0x06 then some 2
  else none

/-- R145: the arbitration byte, class × 32 + origin. -/
def arbitrationByte (sender : Fin 25) (f : Frame) : Byte :=
  ((kindClass f.kind).getD 0) ++ BitVec.ofNat 5 sender.val

/-- R205: one bit enters the CRC register. -/
def crcBit (r : BitVec 16) (b : Bool) : BitVec 16 :=
  if r.msb != b then (r <<< 1) ^^^ 0x1021#16 else r <<< 1

/-- R205: one byte enters the CRC register, most significant bit first. -/
def crcByte (r : BitVec 16) (b : Byte) : BitVec 16 :=
  (dataBits b).foldl crcBit r

/-- R146, R205: the CRC of the bytes from the arbitration byte to the last body byte. -/
def crcOf (bs : List Byte) : BitVec 16 :=
  bs.foldl crcByte 0xFFFF#16

/-- R203: the bytes of a frame before its CRC. -/
def frameHead (sender : Fin 25) (f : Frame) : List Byte :=
  arbitrationByte sender f :: f.kind :: BitVec.ofNat 8 f.body.length :: f.body

/-- R203: all bytes of a frame on the line. -/
def encodeFrame (sender : Fin 25) (f : Frame) : List Byte :=
  frameHead sender f ++ bytes16 (crcOf (frameHead sender f))

/-- R203: the body of each kind; `none` is a format error. -/
def parseBody (sender : Station) (kind : Byte) (body : List Byte) : Option Frame :=
  if kind = 0x01 then
    (match body with
    | [n1, n2, r, i1, i2] =>
      match flagOf r with
      | some restart =>
        if siInRange (word16 i1 i2) then some (.hello (word16 n1 n2) restart (word16 i1 i2))
        else none
      | none => none
    | _ => none)
  else if kind = 0x02 then
    (match body with
    | [a1, a2, a3, a4, a5, a6, b1, b2, b3, b4, b5, b6, n1, n2, i1, i2, t] =>
      match timeStateOf t with
      | some state =>
        if siInRange (word16 i1 i2) then
          some (.time (word48 a1 a2 a3 a4 a5 a6) (word48 b1 b2 b3 b4 b5 b6) (word16 n1 n2)
            (word16 i1 i2) state)
        else none
      | none => none
    | _ => none)
  else if kind = 0x03 then
    (match body with
    | p :: flag :: rest =>
      match subjectOf p, flagOf flag, seqsOf rest with
      | some subject, some proxy, some seqs => some (.repairReq subject proxy seqs)
      | _, _, _ => none
    | _ => none)
  else if kind = 0x04 then
    (match body with
    | p :: rest =>
      match subjectOf p with
      | some subject => (recordsOf (originOf subject) rest).map (.repairData subject)
      | none => none
    | _ => none)
  else if kind = 0x05 then
    (match body with
    | p :: rest =>
      match subjectOf p, seqsOf rest with
      | some subject, some seqs => some (.repairNone subject seqs)
      | _, _ => none
    | _ => none)
  else if kind = 0x06 then (recordsOf (originOf sender) body).map .event
  else none

/-- What the checks of R158 and R159 make of a whole frame. -/
inductive FrameCheck where
  | crcError
  | formatError
  | valid (sender : Station) (frame : Frame)
  deriving DecidableEq, Repr

/-- R159: the content checks of a frame whose CRC has matched. -/
def checkContent (arb kind : Byte) (body : List Byte) : FrameCheck :=
  match stationOf (arb.setWidth 5) with
  | none => .formatError
  | some sender =>
    if kindClass kind = some (arb.extractLsb' 5 3) then
      (match parseBody sender kind body with
      | some f => .valid sender f
      | none => .formatError)
    else .formatError

/-- R156: at the declared end the CRC comes first, then the content. -/
def checkFrame (raw : List Byte) : FrameCheck :=
  let n := raw.length - 2
  if bytes16 (crcOf (raw.take n)) = raw.drop n then
    (match raw with
    | arb :: kind :: _ :: rest => checkContent arb kind (rest.take (rest.length - 2))
    | _ => .formatError)
  else .crcError

end Sys2Proof.Machine
end

