-- ==== Sys2Proof/Machine/Ops.lean ====
section
/-! DEFINITION. Named reads and writes of State, network time, and the answers of a command. -/

namespace Sys2Proof.Machine

open Sys2Proof

/-! ### Reads and writes of the tables -/

/-- One input of the Capture Unit. -/
def State.input (s : State) (i : Fin 16) : Input :=
  s.inputs[i.val]

/-- Replace one input. -/
def State.setInput (s : State) (i : Fin 16) (x : Input) : State :=
  { s with inputs := s.inputs.set i.val x }

/-- The configuration of one input (R115). -/
def State.inputConfig (s : State) (i : Fin 16) : InputConfig :=
  s.control.config.inputs[i.val]

/-- The level at one input pin. -/
def State.pin (s : State) (i : Fin 16) : Bool :=
  s.pins.getLsbD i.val

/-- One Peer Table entry (R44). -/
def State.peer (s : State) (p : Station) : PeerEntry :=
  s.peers[p.val]

/-- Replace one Peer Table entry. -/
def State.setPeer (s : State) (p : Station) (e : PeerEntry) : State :=
  { s with peers := s.peers.set p.val e }

/-- The missing set of one peer (R71). -/
def State.missing (s : State) (p : Station) : List Missing :=
  s.repair.missing[p.val]

/-- Replace the missing set of one peer. -/
def State.setMissing (s : State) (p : Station) (set : List Missing) : State :=
  { s with repair := { s.repair with missing := s.repair.missing.set p.val set } }

/-- The sample freshness of one peer (R101). -/
def State.fresh (s : State) (p : Station) : Nat :=
  s.timebase.freshness[p.val]

/-! ### Own address, time and state -/

/-- The own station, when the sampled address is valid (R167). -/
def State.own (s : State) : Option Station :=
  stationOf s.control.address

/-- The origin of own network records (R2). With an invalid address no own record is made, since
START is refused (assumption log 21). -/
def State.ownOrigin (s : State) : Fin 25 :=
  match s.own with
  | some p => originOf p
  | none => 0

/-- R94: network time, the local counter plus the correction modulo 2^48. -/
def State.now (s : State) : Stamp :=
  s.timebase.localCounter + s.timebase.correction

/-- R27: a network time less 200 µs, or 0 below 200. -/
def lagged (t : Stamp) : Stamp :=
  if t.toNat < Config.ownLag then 0 else t - BitVec.ofNat 48 Config.ownLag

/-- R27: the own term of the horizon. -/
def State.ownTerm (s : State) : Stamp :=
  lagged s.now

/-- The station is RUNNING (R174). -/
def State.running (s : State) : Bool :=
  s.control.lifecycle == .running

/-- R47: the silence limit M × SI in microseconds. -/
def State.silenceLimit (s : State) : Nat :=
  s.control.config.m * s.control.config.si * 1000

/-- Chapter 4: the repair interval in microseconds. -/
def State.repairInterval (s : State) : Nat :=
  s.control.config.ri * 1000

/-- R96: a round in microseconds. -/
def State.roundLength (s : State) : Nat :=
  s.control.config.si * 1000

/-- R170: the join listen in microseconds. -/
def State.joinLength (s : State) : Nat :=
  2 * s.control.config.si * 1000

/-- R141: the bit time in microseconds. -/
def BitRate.bitTime : BitRate → Nat
  | .kbit125 => 8
  | .kbit250 => 4
  | .kbit500 => 2
  | .kbit1000 => 1

/-- R141: the middle of a bit time, where its bit is read, in microseconds. At 1000 kbit/s it falls between
two counts of the local counter, and the read comes at the later one (DESIGN CHOICE, unsafe, assumption
log 6). -/
def BitRate.middle : BitRate → Nat
  | .kbit125 => 4
  | .kbit250 => 2
  | .kbit500 => 1
  | .kbit1000 => 1

/-- R167: the bit rate the BR straps give. -/
def bitRateOf (br : BitVec 2) : BitRate :=
  if br = 0 then .kbit125 else if br = 1 then .kbit250 else if br = 2 then .kbit500 else .kbit1000

/-! ### Timers in local time (R93) -/

/-- A timer has run out, and its expiry is due now. -/
def ranOut (t : Option Nat) : Bool :=
  t == some 0

/-- One microsecond passes for a timer. -/
def tickTimer : Option Nat → Option Nat
  | none => none
  | some n => some (n - 1)

/-- One microsecond passes for a repair timer or proxy delay; a due one grows older (R74, R88). -/
def RepairTimer.tick : RepairTimer → RepairTimer
  | .due age => .due (age + 1)
  | .timing left => .timing (left - 1)

/-- The entry waits to be asked for or sent (R71, R86). -/
def RepairTimer.isDue : RepairTimer → Bool
  | .due _ => true
  | .timing _ => false

/-- How long ago the entry became due, in microseconds; 0 while it is timing (R74, R88). -/
def RepairTimer.age : RepairTimer → Nat
  | .due age => age
  | .timing _ => 0

/-- The timer has run out, and its expiry is due now. -/
def RepairTimer.ranOut : RepairTimer → Bool
  | .due _ => false
  | .timing left => left == 0

/-! ### Answers -/

/-- The command cannot reach the station in its present state: nothing changes (assumption log 2). -/
def notTaken (s : State) : Host.Outcome State Fault Refusal :=
  .next s

end Sys2Proof.Machine
end

