-- ==== Sys2Proof/Machine/BitOps.lean ====
section
/-! DEFINITION. The line bit by bit: the pins LTX and LRX, the runs, the bits the receiver takes and the
transmitter compares, and the passing of a bit time (R141 to R143, R149, R150). -/

namespace Sys2Proof.Machine

open Sys2Proof

/-! ### The pins LTX and LRX (R141) -/

/-- R145: the bytes of the frame being sent. -/
def State.lineBytes (s : State) : Option (List Byte) :=
  s.line.prepared.map (fun f => encodeFrame s.ownOrigin f.frame)

/-- R142: the bits of the frame being sent. -/
def State.sendingBits (s : State) : List Bool :=
  (s.lineBytes.map lineBits).getD []

/-- R141: the bit of the present bit time has been read. -/
def State.bitRead (s : State) : Bool :=
  s.control.bitRate.middle ≤ s.line.bitPhase

/-- The bits of the frame being sent whose bit times are over. -/
def State.bitsOver (s : State) : Nat :=
  s.line.sent + (if s.line.misread then 1 else 0) - (if s.bitRead then 1 else 0)

/-- R141, R142, R165: LTX, the bit now being sent; while the transmitter is FREE released `true`, but for the
rest of the bit time of a driven last CRC bit. -/
def State.ltx (s : State) : Bool :=
  if s.line.tx == .free then !s.line.driving else s.sendingBits.getD s.bitsOver true

/-- R141: a bit is released when no station drives it; a driven bit overrides a released one. -/
def lineLevel (own others : Bool) : Bool :=
  own && others

/-- R141: LRX, the level of the line: this station's bit combined with those of the other stations. -/
def State.lrx (s : State) : Bool :=
  lineLevel s.ltx s.medium.level

/-! ### Reading one bit -/

/-- R142: the run of the level that is read grows by one bit time, and the other run ends. -/
def LineControl.countRun (l : LineControl) (level : Bool) : LineControl :=
  if level then { l with releasedRun := l.releasedRun + 1, drivenRun := 0 }
  else { l with releasedRun := 0, drivenRun := l.drivenRun + 1 }

/-- R143: in RECEIVING each byte is read from its start bit, for which the receiver waits, to its stop bit.
A byte whose stop bit reads driven keeps all its ten bits, the framing fault. -/
def LineControl.takeBit (l : LineControl) (level : Bool) : LineControl :=
  if l.rx != .receiving then l
  else if l.bits.length = 0 then (if level then l else { l with bits := [level] })
  else if l.bits.length < 9 then { l with bits := l.bits ++ [level] }
  else if l.bits.length = 9 then
    (if level then { l with bits := [], bytes := l.bytes ++ [byteOfBits l.bits.tail] }
    else { l with bits := l.bits ++ [level] })
  else l

/-- R149, R150: while this station sends, the bit read is compared with the bit sent. -/
def LineControl.compareBit (l : LineControl) (sent level : Bool) : LineControl :=
  if l.tx == .free then l
  else if sent == level then { l with sent := l.sent + 1 }
  else { l with misread := true }

/-- R141: one read of the line is taken by the receiver and compared by the transmitter. -/
def LineControl.readBit (l : LineControl) (sent level : Bool) : LineControl :=
  ((l.countRun level).takeBit level).compareBit sent level

/-- R143, R159: the byte whose stop bit has read driven. -/
def LineControl.faultByte (l : LineControl) : Option Byte :=
  if l.bits.length = 10 then some (byteOfBits (l.bits.tail.take 8)) else none

/-! ### The passing of a bit time -/

/-- The other stations go on to the next bit time. -/
def Medium.next (m : Medium) : Medium :=
  match m.coming with
  | [] => m
  | b :: more => { m with level := b, coming := more }

/-- While the outside tells by rows what the receiver reads, a station that is FREE has no bit to read
(assumption log 6). -/
def State.readsBits (s : State) : Bool :=
  !(s.medium.untold && s.line.tx == .free)

/-- R141: the line as the bit of the present bit time leaves it, once it is read. -/
def State.lineRead (s : State) : LineControl :=
  if s.readsBits then s.line.readBit s.ltx s.lrx else s.line

/-- R141, R142: one microsecond of the present bit time passes: its bit is read at its middle, and at its end
the next one begins. A bit still driven after the completion of its frame ends with it. -/
def State.bitClock (s : State) : State :=
  let n := s.line.bitPhase + 1
  let l := if n = s.control.bitRate.middle then s.lineRead else s.line
  if n < s.control.bitRate.bitTime then { s with line := { l with bitPhase := n } }
  else
    { s with
      line := { l with bitPhase := 0, driving := false }
      medium := if s.readsBits then s.medium.next else s.medium }

/-- R142: the released run in whole bit times that are over. -/
def State.releasedTimes (s : State) : Nat :=
  if s.bitRead then s.line.releasedRun - 1 else s.line.releasedRun

/-! ### What a row tells of bits that were not read one by one (assumption logs 6 and 18) -/

/-- The other stations drive the line, and leave it at these levels afterwards. -/
def State.othersDrive (s : State) (levels : List Bool) : State :=
  { s with medium := { level := false, coming := levels, untold := levels.isEmpty } }

/-- R141, R142: between bytes, the change of the line from released to driven is the boundary of a bit, unless
this station sends, whose own bits set it. A released bit that it cuts short does not count in the run. -/
def State.findBoundary (s : State) : State :=
  if s.line.tx == .free && s.line.bits.isEmpty && s.lrx then
    { s with line := { s.line with releasedRun := s.releasedTimes, bitPhase := 0 } }
  else s

/-- R141: how far a bit time has gone when its bit has just been read, 0 where that is its end. -/
def State.justRead (s : State) : Nat :=
  s.control.bitRate.middle % s.control.bitRate.bitTime

/-- R142: the runs once these bits have been read from a start bit on. -/
def LineControl.runOver (l : LineControl) (bits : List Bool) : LineControl :=
  bits.foldl LineControl.countRun { l with releasedRun := 0, drivenRun := 0 }

/-- Unless the receiver has read them itself, a row tells that it has just read these bits and how the other
stations leave the line. -/
def State.told (s : State) (read : Bool) (bits : List Bool) (m : Medium) : State :=
  if read then s
  else { s with line := { s.line.runOver bits with bitPhase := s.justRead, driving := false }, medium := m }

/-- Unless the station has counted its run itself, a row tells the runs, how far the bit time has gone and how
the other stations leave the line. -/
def State.toldRuns (s : State) (read : Bool) (released driven phase : Nat) (m : Medium) : State :=
  if read then s
  else
    { s with
      line := { s.line with
        releasedRun := released, drivenRun := driven, bitPhase := phase, driving := false }
      medium := m }

/-- The reading of a frame, taken back to its start of frame. -/
def LineControl.fromSof (l : LineControl) : LineControl :=
  { l with sent := 0, bits := [], bytes := [], releasedRun := 0, drivenRun := 0 }

/-- Unless as many have been read back as sent, a row tells that the first `n` bits of this station's frame
were, the last of them just now. -/
def State.sentUpTo (s : State) (n : Nat) : State :=
  if s.line.sent = n then s
  else
    let l := (s.sendingBits.take n).foldl (fun l b => l.readBit b b) s.line.fromSof
    { s with line := { l with bitPhase := s.justRead } }

end Sys2Proof.Machine
end

