-- ==== Sys2Proof/Machine/Flags.lean ====
section
/-! DEFINITION. The flags: attention flags, IRQ, and the eight counters (R164, R196, R197). -/

namespace Sys2Proof.Machine

open Sys2Proof

/-- R197: the level IRQ has by its three conditions. The threshold counts from START on. -/
def State.irqLevel (s : State) : Bool :=
  (s.control.inForce && s.control.config.threshold ≤ s.journal.released.length) ||
    s.host.quietFlag || s.host.dropFlag

/-- R197: IRQ follows its conditions in the event that changes them. -/
def State.settleIrq (s : State) : State :=
  { s with host := { s.host with irq := s.irqLevel } }

/-- The command was taken and leaves state `s`, with IRQ at its level (assumption log 20). -/
def commit (s : State) : Host.Outcome State Fault Refusal :=
  .next s.settleIrq

/-- R196: the DROP attention flag is set. -/
def State.setDropFlag (s : State) : State :=
  { s with host := { s.host with dropFlag := true } }

/-- R196: the QUIET attention flag is set. -/
def State.setQuietFlag (s : State) : State :=
  { s with host := { s.host with quietFlag := true } }

/-- R158. -/
def State.countCrc (s : State) : State :=
  { s with counters := { s.counters with crcErrors := satInc s.counters.crcErrors } }

/-- R157. -/
def State.countTruncated (s : State) : State :=
  { s with counters := { s.counters with truncated := satInc s.counters.truncated } }

/-- R159. -/
def State.countFormat (s : State) : State :=
  { s with counters := { s.counters with formatErrors := satInc s.counters.formatErrors } }

/-- R60. -/
def State.countDuplicate (s : State) : State :=
  { s with counters := { s.counters with duplicates := satInc s.counters.duplicates } }

/-- R150. -/
def State.countBitError (s : State) : State :=
  { s with counters := { s.counters with bitErrors := satInc s.counters.bitErrors } }

/-- R149. -/
def State.countArbitrationLoss (s : State) : State :=
  { s with
    counters := { s.counters with arbitrationLosses := satInc s.counters.arbitrationLosses } }

/-- R23. -/
def State.countDrop (s : State) : State :=
  { s with counters := { s.counters with journalDrops := satInc s.counters.journalDrops } }

/-- R22. -/
def State.countLate (s : State) : State :=
  { s with counters := { s.counters with lateRecords := satInc s.counters.lateRecords } }

end Sys2Proof.Machine
end

