-- ==== Sys2Proof/Machine/JournalOps.lean ====
section
/-! DEFINITION. The Event Journal: offers, drops, the horizon and release, consumption, lookup
(chapter 2). -/

namespace Sys2Proof.Machine

open Sys2Proof

/-- R16: settling and released records together. -/
def Journal.occupancy (j : Journal) : Nat :=
  j.settling.length + j.released.length

/-- R19, R41: the held record is the network record of this origin and sequence. -/
def Held.names (origin : Fin 25) (seq : Seq) (h : Held) : Bool :=
  h.record.isNetwork && h.record.origin == origin && h.record.seq == seq

/-- R41: the network record of an origin and sequence, without journal flags, when either region
holds it. -/
def Journal.lookup (j : Journal) (origin : Fin 25) (seq : Seq) : Option Record :=
  ((j.settling ++ j.released).find? (Held.names origin seq)).map (·.record)

/-- R17, R21: insertion in key order; among equal keys the record taken first stands first. -/
def insertByKey (h : Held) : List Held → List Held
  | [] => [h]
  | x :: xs => if keyLt h.record x.record then h :: x :: xs else x :: insertByKey h xs

/-- R23: the record is discarded and the drop is accounted for. -/
def State.dropRecord (s : State) : State :=
  ({ s with
    journal := { s.journal with
      pendingDrops := satInc s.journal.pendingDrops
      firstDrop := if s.journal.pendingDrops = 0 then some s.now else s.journal.firstDrop
      lastDrop := some s.now } }).countDrop.setDropFlag

/-- R22: the record joins the tail of the released region with LATE = yes. -/
def State.insertLate (s : State) (r : Record) (repaired : Bool) : State :=
  ({ s with
    journal := { s.journal with
      released := s.journal.released ++ [Held.mk r true repaired] } }).countLate

/-- R21: the record joins the settling region in key order with LATE = no. -/
def State.insertSettling (s : State) (r : Record) (repaired : Bool) : State :=
  { s with
    journal := { s.journal with
      settling := insertByKey (Held.mk r false repaired) s.journal.settling } }

/-- R20: a record is offered, and the first test that applies decides. -/
def State.offer (s : State) (r : Record) (repaired : Bool) : State :=
  if r.isNetwork && (s.journal.lookup r.origin r.seq).isSome then s.dropRecord
  else if Config.journalCapacity ≤ s.journal.occupancy then s.dropRecord
  else if r.stamp < s.journal.horizon then s.insertLate r repaired
  else s.insertSettling r repaired

/-- R15: the next note, stamped now with the present time state (R3). -/
def State.makeNote (s : State) (d : Detail) : Record :=
  { origin := 0, seq := s.journal.noteCounter, stamp := s.now, quality := s.timebase.timeState,
    detail := d }

/-- R15: the note counter rises by 1 modulo 65536. -/
def State.countNote (s : State) : State :=
  { s with journal := { s.journal with noteCounter := s.journal.noteCounter + 1 } }

/-- R15, R24: a note takes its number and is offered. -/
def State.note (s : State) (d : Detail) : State :=
  s.countNote.offer (s.makeNote d) false

/-- R28: the terms of the ACTIVE entries. -/
def State.peerTerms (s : State) : List Stamp :=
  (s.peers.toList.filter (fun e => e.state == .active)).map (·.ct)

/-- R29: the smallest of the own term and the peer terms. -/
def State.computedHorizon (s : State) : Stamp :=
  s.peerTerms.foldl earlier s.ownTerm

/-- R32: H takes its new value, and every settling record stamped before it moves, in key order, to
the tail of the released region. -/
def State.releaseTo (s : State) (h : Stamp) : State :=
  { s with
    journal := { s.journal with
      horizon := h
      settling := s.journal.settling.filter (fun x => !(x.record.stamp < h))
      released := s.journal.released ++ s.journal.settling.filter (fun x => x.record.stamp < h) } }

/-- R29: the horizon computation; H rises or keeps its value. -/
def State.computeHorizon (s : State) : State :=
  if s.journal.horizon < s.computedHorizon then s.releaseTo s.computedHorizon else s

/-- R39: the OVERFLOW note of the pending drops. -/
def Journal.overflowDetail (j : Journal) : Detail :=
  .overflow j.pendingDrops (j.firstDrop.getD 0) (j.lastDrop.getD 0)

/-- R39: the pending drop count returns to 0 and both drop times become absent. -/
def State.clearDrops (s : State) : State :=
  { s with
    journal := { s.journal with pendingDrops := 0, firstDrop := none, lastDrop := none } }

/-- R37, R39: the head of the released region is consumed; with drops pending, an OVERFLOW note is
made and offered in the same event. -/
def State.consumeHead (s : State) : State :=
  let s1 := { s with journal := { s.journal with released := s.journal.released.tail } }
  if s.journal.pendingDrops = 0 then s1 else s1.clearDrops.note s.journal.overflowDetail

end Sys2Proof.Machine
end

