-- ==== Sys2Proof/Machine/OutboundOps.lean ====
section
/-! DEFINITION. The Outbound Queue and the Retained History (sections 6.4 and 6.5). -/

namespace Sys2Proof.Machine

open Sys2Proof

/-- R14: the own network record that takes the own next sequence. -/
def State.ownRecord (s : State) (stamp : Stamp) (quality : TimeState) (d : Detail) : Record :=
  { origin := s.ownOrigin, seq := s.outbound.nextSeq, stamp := stamp, quality := quality,
    detail := d }

/-- R131: a record joins the tail of the queue, and the own next sequence rises by 1. -/
def State.enqueue (s : State) (r : Record) : State :=
  { s with
    outbound := { s.outbound with
      records := s.outbound.records ++ [r]
      nextSeq := s.outbound.nextSeq + 1 } }

/-- R14, R131: an own network record takes the own next sequence, is appended at the tail and is
offered to the journal in the same event. -/
def State.appendOwn (s : State) (stamp : Stamp) (quality : TimeState) (d : Detail) : State :=
  (s.enqueue (s.ownRecord stamp quality d)).offer (s.ownRecord stamp quality d) false

/-- R130: the queue holds fewer than 32 records. -/
def State.queueHasRoom (s : State) : Bool :=
  s.outbound.records.length < Config.queueCapacity

/-- R131, R132: a capture record is appended, or refused and counted. -/
def State.capture (s : State) (stamp : Stamp) (quality : TimeState) (d : Detail) : State :=
  if s.queueHasRoom then s.appendOwn stamp quality d
  else { s with outbound := { s.outbound with lost := satInc s.outbound.lost } }

/-- R56, R112: the sequence of the oldest queued record, or the own next sequence. -/
def Outbound.firstUnsent (q : Outbound) : Seq :=
  match q.records with
  | r :: _ => r.seq
  | [] => q.nextSeq

/-- R113: the earlier of the own term and the earliest stamp among the queued records. -/
def State.settledBefore (s : State) : Stamp :=
  (s.outbound.records.map (·.stamp)).foldl earlier s.ownTerm

/-- R138: records join the history as the newest, and only the last 64 stay. -/
def appendHistory (history sent : List Record) : List Record :=
  (history ++ sent).drop ((history ++ sent).length - Config.historyCapacity)

/-- R133: with captures lost, a LOSS record is appended and the lost count returns to 0. -/
def State.reportLoss (s : State) : State :=
  if s.outbound.lost = 0 then s
  else
    ({ s with outbound := { s.outbound with lost := 0 } }).appendOwn s.now s.timebase.timeState
      (.loss s.outbound.lost)

/-- R136: the first `n` records leave the queue and join the Retained History. -/
def State.retire (s : State) (n : Nat) : State :=
  { s with
    outbound := { s.outbound with records := s.outbound.records.drop n }
    history := appendHistory s.history (s.outbound.records.take n) }

/-- R133, R136: an EVENT frame with the first `n` records has completed. -/
def State.eventSent (s : State) (n : Nat) : State :=
  (s.retire n).reportLoss

/-- R139: the record with this sequence in the Retained History. -/
def State.retained (s : State) (seq : Seq) : Option Record :=
  s.history.find? (fun r => r.seq == seq)

end Sys2Proof.Machine
end

