-- ==== Sys2Proof/Machine/CaptureOps.lean ====
section
/-! DEFINITION. The Capture Unit (sections 6.1 to 6.3). -/

namespace Sys2Proof.Machine

open Sys2Proof

/-- R115: the level is reportable in the edge mode. -/
def EdgeMode.reports : EdgeMode → Bool → Bool
  | .off, _ => false
  | .rising, b => b
  | .falling, b => !b
  | .both, _ => true

/-- R115: the hold-off in microseconds. -/
def InputConfig.holdoffTime (c : InputConfig) : Nat :=
  c.holdoff * 100

/-- R115: the chatter window and the quiet timer in microseconds. -/
def InputConfig.windowTime (c : InputConfig) : Nat :=
  c.chatterWindow * 10000

/-- R4: the level an input shows in a snapshot. -/
def Input.shown (x : Input) : Bool :=
  x.state != .disabled && x.level

/-- R4: the qualified levels of all 16 inputs. -/
def State.snapshot (s : State) : Line16 :=
  (List.finRange 16).foldl (fun w i => withBit w i.val (s.input i).shown) 0

/-- R122: a transition is counted in the chatter window, which it opens when it is closed. With
chatter limit 0 no window opens. -/
def InputConfig.countInWindow (c : InputConfig) (w : Option ChatterWindow) : Option ChatterWindow :=
  if c.chatterLimit = 0 then w
  else match w with
    | none => some { count := 1, left := c.windowTime }
    | some v => some { v with count := v.count + 1 }

/-- R121, R123: the window's count is above the chatter limit. -/
def InputConfig.overLimit (c : InputConfig) (w : Option ChatterWindow) : Bool :=
  c.chatterLimit != 0 && (match w with
    | none => false
    | some v => c.chatterLimit < v.count)

/-- R125: a CHATTER record is made, hold-off and window end, the quiet timer starts, and the input is
SUSPENDED. `x` is the input with its transition already counted. -/
def State.suspendInput (s : State) (i : Fin 16) (x : Input) (stamp : Stamp) (quality : TimeState)
    (snap : Line16) : State :=
  (s.setInput i { x with
      state := .suspended, holdoffRef := none, holdoffTimer := none, window := none,
      quietTimer := some (s.inputConfig i).windowTime }).capture stamp quality
    (.chatter i x.edgeCount snap)

/-- R121: an EDGE with deferred = no is made, and with a hold-off above 0 the input enters HOLDOFF. -/
def State.reportEdge (s : State) (i : Fin 16) (x : Input) (stamp : Stamp) (quality : TimeState)
    (snap : Line16) : State :=
  (s.setInput i (if (s.inputConfig i).holdoff = 0 then x else
      { x with
        state := .holdoff, holdoffRef := some x.level,
        holdoffTimer := some (s.inputConfig i).holdoffTime })).capture stamp quality
    (.edge i x.level false x.edgeCount snap)

/-- R117 to R126: a qualified transition of input `i` to `level`: the level and the edge count first
(R119), then the rule of the input's state. A DISABLED input takes none. -/
def State.transition (s : State) (i : Fin 16) (level : Bool) (stamp : Stamp) (quality : TimeState)
    (snap : Line16) : State :=
  let c := s.inputConfig i
  let x := { s.input i with level := level, edgeCount := (s.input i).edgeCount + 1 }
  match x.state with
  | .disabled => s
  | .suspended => s.setInput i { x with quietTimer := some c.windowTime }
  | .armed =>
    let y := { x with window := c.countInWindow x.window }
    if c.overLimit y.window then s.suspendInput i y stamp quality snap
    else if c.mode.reports level then s.reportEdge i y stamp quality snap
    else s.setInput i y
  | .holdoff =>
    let y := { x with window := c.countInWindow x.window }
    if c.overLimit y.window then s.suspendInput i y stamp quality snap
    else s.setInput i y

/-- R117: a DIRECT input has still to be read at this count of the local counter, and its pin stands at
another level than the qualified one. -/
def State.directReadDue (s : State) (i : Fin 16) : Bool :=
  !s.inReset && (s.input i).state != .disabled && (s.inputConfig i).qualification == .direct &&
    !(s.input i).countTaken && (s.input i).level != s.pin i

/-- R117: the pin of a DIRECT input is read at this count; a level that differs from the qualified level
is a transition stamped now, and the count is taken. -/
def State.readDirect (s : State) (i : Fin 16) : State :=
  if s.directReadDue i then
    (s.setInput i { s.input i with countTaken := true }).transition i (s.pin i) s.now
      s.timebase.timeState (withBit s.snapshot i.val (s.pin i))
  else s

/-- R118: the pin of a QUALIFIED input is sampled: a candidate opens, is confirmed, or is discarded. -/
def State.sampleInput (s : State) (i : Fin 16) : State :=
  match (s.input i).candidate with
  | none =>
    if s.pin i == (s.input i).level then s
    else s.setInput i { s.input i with
      candidate := some
        { level := s.pin i, time := s.now, quality := s.timebase.timeState, snapshot := s.snapshot } }
  | some c =>
    let closed := s.setInput i { s.input i with candidate := none }
    if s.pin i == c.level then
      closed.transition i c.level c.time c.quality (withBit c.snapshot i.val c.level)
    else closed

/-- R118: the inputs a sample tick reads. -/
def State.sampledInputs (s : State) : List (Fin 16) :=
  (List.finRange 16).filter (fun i =>
    (s.input i).state != .disabled && (s.inputConfig i).qualification == .qualified)

/-- R118: every QUALIFIED input is sampled, in a free order (R120, assumption log 3). -/
def State.sampleAll (s : State) : State :=
  (arrange 16 s.choices s.sampledInputs).foldl State.sampleInput
    { s with choices := s.choices + s.sampledInputs.length }

/-- R124: the hold-off of input `i` has run out. -/
def State.endHoldoff (s : State) (i : Fin 16) : State :=
  let x := s.input i
  if x.holdoffRef != some x.level && (s.inputConfig i).mode.reports x.level then
    (s.setInput i { x with
        holdoffRef := some x.level,
        holdoffTimer := some (s.inputConfig i).holdoffTime }).capture s.now s.timebase.timeState
      (.edge i x.level true x.edgeCount s.snapshot)
  else s.setInput i { x with state := .armed, holdoffRef := none, holdoffTimer := none }

/-- R122: the chatter window of input `i` closes. -/
def State.closeWindow (s : State) (i : Fin 16) : State :=
  s.setInput i { s.input i with window := none }

/-- R126: the quiet timer of input `i` has run out: RESUME, and the input is ARMED. -/
def State.resumeInput (s : State) (i : Fin 16) : State :=
  let x := s.input i
  (s.setInput i { x with
      state := .armed, window := none, holdoffRef := none, holdoffTimer := none,
      quietTimer := none }).capture s.now s.timebase.timeState
    (.resume i x.level x.edgeCount s.snapshot)

/-- R116: an input at START: ARMED at its pin level, or DISABLED with edge mode OFF. -/
def Input.atStart (mode : EdgeMode) (pin : Bool) : Input :=
  if mode == .off then Input.reset else { Input.reset with state := .armed, level := pin }

end Sys2Proof.Machine
end

