-- ==== Sys2Proof/Machine/RepairOps.lean ====
section
/-! DEFINITION. The Repair Unit: missing sets, declarations of loss, requests, origin and proxy
answers (chapter 4). -/

namespace Sys2Proof.Machine

open Sys2Proof

/-- R71: an entry as it enters a set, due with no try spent. -/
def Missing.entered (seq : Seq) : Missing :=
  { seq := seq, tries := 0, timer := .due 0, heard := false }

/-- R76, R77: a try is spent: tries rise by 1, the timer starts at RI, heard-request becomes no. -/
def State.spendTry (s : State) (m : Missing) : Missing :=
  { m with tries := m.tries + 1, timer := .timing s.repairInterval, heard := false }

/-- R77: outside RUNNING a due entry spends its try in the event that makes it due. -/
def State.whenDue (s : State) (m : Missing) : Missing :=
  if s.running then m else s.spendTry m

/-- R72: an entry added to a set. -/
def State.newMissing (s : State) (seq : Seq) : Missing :=
  s.whenDue (Missing.entered seq)

/-- R8, R80: one GAP note for each maximal run of the declared sequences, in order. -/
def State.declareRuns (s : State) (p : Station) (cause : GapCause) (seqs : List Seq) : State :=
  (seqRuns seqs).foldl (fun t run => t.note (.gap p run.1 (satCount run.2) cause)) s

/-- R80: the entries of a set that `gone` names are removed and declared lost. -/
def State.declareLost (s : State) (p : Station) (cause : GapCause) (gone : Missing → Bool) : State :=
  (s.setMissing p ((s.missing p).filter (fun m => !gone m))).declareRuns p cause
    (((s.missing p).filter gone).map (·.seq))

/-- R61: how many of the oldest sequences do not fit when `added` more join a set. -/
def overrun (held added : Nat) : Nat :=
  held + added - Config.missingCapacity

/-- R61, R72: sequences join a set in sequence order; the oldest beyond 8 are declared lost with
cause OVERRUN. -/
def State.addMissing (s : State) (p : Station) (new : List Seq) : State :=
  let old := s.missing p
  let n := overrun old.length new.length
  (s.setMissing p (old.drop n ++ (new.drop (n - old.length)).map s.newMissing)).declareRuns p
    .overrun ((old.map (·.seq) ++ new).take n)

/-- R59, R73: a filled entry leaves its set. -/
def State.fillMissing (s : State) (p : Station) (seq : Seq) : State :=
  s.setMissing p ((s.missing p).filter (fun m => m.seq != seq))

/-- R78: an entry whose timer has run out with its retries spent. -/
def State.exhausted (s : State) (m : Missing) : Bool :=
  m.timer.ranOut && s.control.config.retries ≤ m.tries

/-- R78: an entry whose timer has run out with tries left becomes due again. -/
def State.dueAgain (s : State) (m : Missing) : Missing :=
  if m.timer.ranOut && m.tries < s.control.config.retries then
    s.whenDue { m with timer := .due 0, heard := false }
  else m

/-- R78: the entries of one peer whose timers have run out are taken as one expiry: each by its tries as they
stood when it ran out. -/
def State.expireMissing (s : State) (p : Station) : State :=
  let t := s.declareLost p .exhausted s.exhausted
  t.setMissing p ((t.missing p).map s.dueAgain)

/-- R79: a heard request holds back each timing entry it names, once for each spent try. -/
def State.holdBackEntry (s : State) (seqs : List Seq) (m : Missing) : Missing :=
  if seqs.contains m.seq && !m.timer.isDue && !m.heard then
    { m with timer := .timing s.repairInterval, heard := true }
  else m

/-- R79: suppression against the missing set of `p`. -/
def State.suppress (s : State) (p : Station) (seqs : List Seq) : State :=
  s.setMissing p ((s.missing p).map (s.holdBackEntry seqs))

/-- R81: a REPAIR_NONE from the origin `p` declares the named missing sequences lost. -/
def State.expireNamed (s : State) (p : Station) (seqs : List Seq) : State :=
  s.declareLost p .expired (fun m => seqs.contains m.seq)

/-- R83: records in groups of four, in order. -/
def inFours : Nat → List Record → List (List Record)
  | 0, _ => []
  | _ + 1, [] => []
  | n + 1, r :: rs =>
    (r :: rs).take Config.frameRecords :: inFours n ((r :: rs).drop Config.frameRecords)

/-- R83: the frames of an answer as origin `p` from the Retained History. -/
def State.originAnswer (s : State) (p : Station) (seqs : List Seq) : List Frame :=
  let held := seqs.filterMap s.retained
  let gone := seqs.filter (fun q => (s.retained q).isNone)
  (inFours held.length held).map (.repairData p) ++
    (if gone.isEmpty then [] else [.repairNone p gone])

/-- R83, R84: a request to this station as origin, in RUNNING with a place in the list. -/
def State.takeOriginRequest (s : State) (p : Station) (seqs : List Seq) : State :=
  if s.running && s.repair.originAnswers.length < Config.originCapacity then
    { s with repair := { s.repair with
        originAnswers := s.repair.originAnswers ++ [s.originAnswer p seqs] } }
  else s

/-- R86: the proxy delay, the own address × 1000 µs. -/
def State.proxyDelay (s : State) : Nat :=
  s.control.address.toNat * 1000

/-- R86: a named sequence of a proxy request. -/
def State.addProxy (s : State) (p : Station) (seq : Seq) : State :=
  if (s.journal.lookup (originOf p) seq).isSome &&
      !(s.repair.proxy.any (fun e => e.subject == p && e.seq == seq)) &&
      s.repair.proxy.length < Config.proxyCapacity then
    { s with repair := { s.repair with
        proxy := s.repair.proxy ++ [{ subject := p, seq := seq, timer := .timing s.proxyDelay }] } }
  else s

/-- R86: a request to any proxy, in RUNNING. -/
def State.takeProxyRequest (s : State) (p : Station) (seqs : List Seq) : State :=
  if s.running then seqs.foldl (fun t q => t.addProxy p q) s else s

/-- R87: pending proxy entries for the carried sequences of `p` are cancelled; R88: sent ones leave. -/
def State.dropProxy (s : State) (p : Station) (seqs : List Seq) : State :=
  { s with repair := { s.repair with
      proxy := s.repair.proxy.filter (fun e => !(e.subject == p && seqs.contains e.seq)) } }

/-- R86: the proxy delay of an entry has run out, and the entry is due. -/
def ProxyEntry.endDelay (p : Station) (seq : Seq) (e : ProxyEntry) : ProxyEntry :=
  if e.subject == p && e.seq == seq && e.timer.ranOut then { e with timer := .due 0 } else e

/-- R86: the proxy delay of the entry for `(p, seq)` has run out. -/
def State.endProxyDelay (s : State) (p : Station) (seq : Seq) : State :=
  { s with repair := { s.repair with proxy := s.repair.proxy.map (ProxyEntry.endDelay p seq) } }

/-- R89: the Repair Unit takes a REPAIR_REQ of `sender`. -/
def State.takeRequest (s : State) (sender subject : Station) (proxy : Bool) (seqs : List Seq) :
    State :=
  if subject = sender then s
  else
    let t := s.suppress subject seqs
    if t.own = some subject then t.takeOriginRequest subject seqs
    else if proxy then t.takeProxyRequest subject seqs
    else t

/-- R74: the due entries of a set, in set order. -/
def dueOf (set : List Missing) : List Missing :=
  set.filter (fun m => m.timer.isDue)

/-- R74: how long the oldest due entry of a peer's set has been due (assumption log 9). -/
def State.requestAge (s : State) (p : Station) : Option Nat :=
  (dueOf (s.missing p)).head?.map (fun m => m.timer.age)

/-- R74: of two peers the one that has waited longer, the first at equal instants. -/
def waitedLonger (best : Option (Station × Nat)) (p : Station) (age : Option Nat) :
    Option (Station × Nat) :=
  match age, best with
  | none, _ => best
  | some a, none => some (p, a)
  | some a, some (q, b) => if b < a then some (p, a) else some (q, b)

/-- R74: the peer whose request is offered to the Line Controller. -/
def State.requestPeer (s : State) : Option Station :=
  ((List.finRange 24).foldl (fun best p => waitedLonger best p (s.requestAge p)) none).map (·.1)

/-- R75: the proxy flag of a request for `p`. -/
def State.requestFlag (s : State) (p : Station) : Bool :=
  (s.peer p).state == .silent ||
    (dueOf (s.missing p)).any (fun m => m.tries + 1 == s.control.config.retries)

/-- R76: a request for `p` has completed, and the covered entries that are still due spend a try
(assumption log 24). -/
def State.requestSent (s : State) (p : Station) (seqs : List Seq) : State :=
  s.setMissing p ((s.missing p).map (fun m =>
    if seqs.contains m.seq && m.timer.isDue then s.spendTry m else m))

/-- R88: of two due entries the one that became due earlier, the first created at equal instants. -/
def dueEarlier (best : Option ProxyEntry) (e : ProxyEntry) : Option ProxyEntry :=
  if e.timer.isDue then
    match best with
    | none => some e
    | some b => if b.timer.age < e.timer.age then some e else some b
  else best

/-- R88: the entries one proxy answer takes: the due entry `e`, then the other due entries of its
subject in the order of their making, up to 4. -/
def proxyGroup (e : ProxyEntry) (list : List ProxyEntry) : List ProxyEntry :=
  e :: (list.filter (fun x => x.timer.isDue && x.subject == e.subject && x.seq != e.seq)).take
    (Config.frameRecords - 1)

/-- R88: the record of an entry, while the journal still holds it. -/
def Journal.proxyRecord (j : Journal) (e : ProxyEntry) : Option Record :=
  j.lookup (originOf e.subject) e.seq

/-- R88: the proxy answer: what stays in the list, and the subject and records of the frame. Entries
taken whose record is gone are dropped, and with none left the next due entry is tried. -/
def Journal.buildProxy (j : Journal) : Nat → List ProxyEntry →
    List ProxyEntry × Option (Station × List Record)
  | 0, list => (list, none)
  | n + 1, list =>
    match list.foldl dueEarlier none with
    | none => (list, none)
    | some e =>
      let group := proxyGroup e list
      let rest := list.filter (fun x => !(group.contains x && (j.proxyRecord x).isNone))
      match group.filterMap j.proxyRecord with
      | [] => j.buildProxy n rest
      | r :: rs => (rest, some (e.subject, r :: rs))

/-- R84: the first frame of the oldest answer has completed; an answer with no frame left leaves. -/
def answerSent : List (List Frame) → List (List Frame)
  | [] => []
  | [] :: more => more
  | [_] :: more => more
  | (_ :: g :: gs) :: more => (g :: gs) :: more

/-- R84: the next frame of the oldest answer. -/
def nextAnswer : List (List Frame) → Option Frame
  | (f :: _) :: _ => some f
  | _ => none

/-- R77: a due entry spends its try at the entry into QUIET. -/
def State.spendIfDue (s : State) (m : Missing) : Missing :=
  if m.timer.isDue then s.spendTry m else m

/-- R92: what entry into QUIET does in the Repair Unit: both answer lists empty, and every due entry
spends its try. -/
def State.quietRepair (s : State) : State :=
  { s with repair :=
      { missing := Vector.ofFn (fun p : Station => (s.missing p).map s.spendIfDue)
        originAnswers := []
        proxy := [] } }

end Sys2Proof.Machine
end

