-- ==== Sys2Proof/Machine/PeerOps.lean ====
section
/-! DEFINITION. The Peer Table: senders, restarts, classification, TIME frames (chapter 3), with the
offset sample of chapter 5. -/

namespace Sys2Proof.Machine

open Sys2Proof

/-- R68: the SI a HELLO or TIME frame carries. -/
def Frame.si : Frame → Option (BitVec 16)
  | .hello _ _ si => some si
  | .time _ _ _ si _ => some si
  | .repairReq .. => none
  | .repairData .. => none
  | .repairNone .. => none
  | .event .. => none

/-- R54: a HELLO with restart = yes, as its next sequence. -/
def Frame.restartNext : Frame → Option Seq
  | .hello next true _ => some next
  | .hello _ false _ => none
  | .time .. => none
  | .repairReq .. => none
  | .repairData .. => none
  | .repairNone .. => none
  | .event .. => none

/-- Base and next sequence both at `seq` (R48, R53, R54, R57, R64). -/
def Numbering.at (seq : Seq) : Numbering :=
  { base := seq, next := seq }

/-- R48: the numbering an ABSENT entry takes from its first frame. -/
def Frame.numbering : Frame → Option Numbering
  | .hello next _ _ => some (Numbering.at next)
  | .time _ _ next _ _ => some (Numbering.at next)
  | .event (r :: _) => some (Numbering.at r.seq)
  | .event [] => none
  | .repairReq .. => none
  | .repairData .. => none
  | .repairNone .. => none

/-- R46 step 1, R68: the mismatch value from the frame's SI. -/
def State.takeMismatch (s : State) (p : Station) (f : Frame) : State :=
  match f.si with
  | some si => s.setPeer p { s.peer p with mismatch := si.toNat != s.control.config.si }
  | none => s

/-- R48, R49, R51, R54: the entry enters ACTIVE with CT at H and its silence timer started, and a
PEER_UP note is made. -/
def State.bringActive (s : State) (p : Station) (numbering : Option Numbering) (restart : Bool) :
    State :=
  (s.setPeer p { s.peer p with
      state := .active, numbering := numbering, ct := s.journal.horizon,
      silenceTimer := some s.silenceLimit }).note (.peerUp p restart (s.peer p).mismatch)

/-- R54: a restart: what is missing is declared lost, then the numbering begins afresh. -/
def State.restartPeer (s : State) (p : Station) (next : Seq) : State :=
  (s.declareLost p .restart (fun _ => true)).bringActive p (some (Numbering.at next)) true

/-- R46 step 1: entry into ACTIVE, return from SILENT, or restart. -/
def State.enterSender (s : State) (p : Station) (f : Frame) : State :=
  match (s.peer p).state, f.restartNext with
  | .self, _ => s
  | .absent, r => s.bringActive p f.numbering r.isSome
  | .silent, some next => s.restartPeer p next
  | .active, some next => s.restartPeer p next
  | .silent, none => s.bringActive p (s.peer p).numbering false
  | .active, none => s

/-- R46 step 1, R47: last heard, and the silence timer of an ACTIVE entry. -/
def State.hearSender (s : State) (p : Station) : State :=
  s.setPeer p { s.peer p with
    lastHeard := some s.now
    silenceTimer :=
      if (s.peer p).state == .active then some s.silenceLimit else (s.peer p).silenceTimer }

/-- R46 step 1. -/
def State.takeSender (s : State) (p : Station) (f : Frame) : State :=
  ((s.takeMismatch p f).enterSender p f).hearSender p

/-- R53, R64: an unknown next sequence is set from the frame. -/
def State.learnNumbering (s : State) (p : Station) (next : Seq) : State :=
  match (s.peer p).numbering with
  | some _ => s
  | none => s.setPeer p { s.peer p with numbering := some (Numbering.at next) }

/-- Replace the numbering of an entry. -/
def State.setNumbering (s : State) (p : Station) (n : Numbering) : State :=
  s.setPeer p { s.peer p with numbering := some n }

/-- R58: the sequences a new record or a TIME frame skips become missing, and the next sequence moves
past them. -/
def State.advance (s : State) (p : Station) (n : Numbering) (upTo next : Seq) : State :=
  (s.addMissing p (seqsUpTo n.next upTo)).setNumbering p { n with next := next }

/-- R58: the sequence is the next one or after it. -/
def Numbering.isNew (n : Numbering) (seq : Seq) : Bool :=
  seq == n.next || seqAfter seq n.next

/-- R59: the sequence is in the missing set of `p`. -/
def State.isMissing (s : State) (p : Station) (seq : Seq) : Bool :=
  (s.missing p).any (fun m => m.seq == seq)

/-- R58 to R60: a record of an entry with a known next sequence is new, a fill or a duplicate. -/
def State.classify (s : State) (p : Station) (n : Numbering) (repaired : Bool) (r : Record) : State :=
  if n.isNew r.seq then (s.advance p n r.seq (r.seq + 1)).offer r repaired
  else if s.isMissing p r.seq then (s.fillMissing p r.seq).offer r repaired
  else s.countDuplicate

/-- R57: one network record of a frame, against the entry of its origin. -/
def State.takeRecord (p : Station) (repaired : Bool) (s : State) (r : Record) : State :=
  match (s.peer p).state, (s.peer p).numbering with
  | .self, _ => s.countDuplicate
  | .absent, _ => s.countDuplicate
  | .active, some n => s.classify p n repaired r
  | .silent, some n => s.classify p n repaired r
  | .active, none =>
    if repaired then s.countDuplicate
    else (s.setNumbering p (Numbering.at r.seq)).classify p (Numbering.at r.seq) repaired r
  | .silent, none => s.countDuplicate

/-- R57: the records of a frame, one after another in the order they stand. -/
def State.takeRecords (s : State) (p : Station) (repaired : Bool) (rs : List Record) : State :=
  rs.foldl (State.takeRecord p repaired) s

/-- R99, R100: the offset sample of a TIME frame with this sender time. -/
def State.sampleOf (s : State) (sender : Stamp) : BitVec 48 :=
  (sender + BitVec.ofNat 48 s.control.config.lineDelay) -
    (s.timebase.sofCounter + s.timebase.correction)

/-- R67, R100: without mismatch the sample is stored with the current round number, and its freshness
becomes 2. -/
def State.takeSample (s : State) (p : Station) (sender : Stamp) : State :=
  if (s.peer p).mismatch then s
  else
    { s.setPeer p { s.peer p with
        offset := some { value := s.sampleOf sender, round := s.timebase.round } } with
      timebase := { s.timebase with freshness := s.timebase.freshness.set p.val 2 } }

/-- R65: the next sequence of a TIME frame against the entry's. -/
def State.compareNext (s : State) (p : Station) (settled : Stamp) (next : Seq) : State :=
  match (s.peer p).numbering with
  | none => s
  | some n =>
    if seqAfter next n.next then s.advance p n next next
    else if next = n.next && (s.missing p).isEmpty then
      s.setPeer p { s.peer p with ct := later (s.peer p).ct settled }
    else s

/-- R68: the peer time state a TIME frame announces. -/
def State.takeTimeState (s : State) (p : Station) (t : TimeState) : State :=
  s.setPeer p { s.peer p with timeState := some t }

/-- R64, R65, R67, R68: a TIME frame from an ACTIVE entry. -/
def State.takeTime (s : State) (p : Station) (sender settled : Stamp) (next : Seq) (t : TimeState) :
    State :=
  (((s.learnNumbering p next).takeTimeState p t).takeSample p sender).compareNext p settled next

/-- R46 step 2: the frame's content at the Peer Table. -/
def State.takeContent (s : State) (p : Station) (f : Frame) : State :=
  match f with
  | .hello next _ _ => s.learnNumbering p next
  | .time sender settled next _ t => s.takeTime p sender settled next t
  | .event rs => s.takeRecords p false rs
  | .repairData subject rs => s.takeRecords subject true rs
  | .repairReq _ _ _ => s
  | .repairNone _ _ => s

/-- R46 step 3: the frame at the Repair Unit. -/
def State.takeRepair (s : State) (p : Station) (f : Frame) : State :=
  match f with
  | .repairReq subject proxy seqs => s.takeRequest p subject proxy seqs
  | .repairNone subject seqs => if subject = p then s.expireNamed subject seqs else s
  | .repairData subject rs => s.dropProxy subject (rs.map (·.seq))
  | .hello _ _ _ => s
  | .time _ _ _ _ _ => s
  | .event _ => s

/-- R30: the frame makes the entry enter ACTIVE, or restarts it. -/
def State.entersActive (s : State) (p : Station) (f : Frame) : Bool :=
  (s.peer p).state != .active || f.restartNext.isSome

/-- R46: a valid frame of a peer passes through the Peer Table and the Repair Unit; with an entry into
ACTIVE or a changed CT the horizon is computed once at the end (assumption log 11). -/
def State.passOn (s : State) (p : Station) (f : Frame) : State :=
  let s1 := s.takeSender p f
  let s2 := s1.takeContent p f
  let s3 := s2.takeRepair p f
  if s.entersActive p f || (s2.peer p).ct != (s1.peer p).ct then s3.computeHorizon else s3

/-- R50: the silence timer of an ACTIVE entry has run out. -/
def State.silencePeer (s : State) (p : Station) : State :=
  ((s.setPeer p { s.peer p with state := .silent, silenceTimer := none }).note
    (.peerDown p ((s.peer p).numbering.map (·.next)))).computeHorizon

end Sys2Proof.Machine
end

