-- ==== Sys2Proof/Machine/TimeOps.lean ====
section
/-! DEFINITION. The Timebase: candidates, adjustment, steps, slew, rounds (chapter 5). -/

namespace Sys2Proof.Machine

open Sys2Proof

/-- R102: the value a peer brings to a round end, when it is a candidate. -/
def State.candidate (s : State) (p : Station) : Option Int :=
  if (s.peer p).state == .active && !(s.peer p).mismatch && 0 < s.fresh p &&
      !(s.timebase.timeState == .locked && (s.peer p).timeState == some .free) then
    (s.peer p).offset.map (fun o => o.value.toInt)
  else none

/-- R102: the values of the peer candidates, in address order. -/
def State.peerValues (s : State) : List Int :=
  (List.finRange 24).filterMap s.candidate

/-- R103: the adjustment over the own value 0 and the peer values. -/
def State.roundAdjustment (s : State) : Int :=
  adjustment (0 :: s.peerValues)

/-- R107: a change of the time state zeroes the counts, and out of LOCKED the slew remainder. -/
def State.changeTimeState (s : State) (t : TimeState) : State :=
  { s with timebase := { s.timebase with
      timeState := t, lockRun := 0, releaseRun := 0, holdover := 0
      slewRemainder :=
        if s.timebase.timeState == .locked then 0 else s.timebase.slewRemainder } }

/-- R108: a step of the correction by `a`, modulo 2^48. -/
def State.stepBy (s : State) (a : Int) : State :=
  { s with timebase := { s.timebase with
      correction := s.timebase.correction + BitVec.ofInt 48 a } }

/-- R108: a nonzero step is recorded by a TIMESTEP note. -/
def State.noteStep (s : State) (a : Int) : State :=
  if a = 0 then s else s.note (.timestep (BitVec.ofInt 48 a))

/-- R105, R106: another round without a peer candidate; at 8 the time state is FREE. -/
def State.holdOver (s : State) : State :=
  let t := { s with timebase := { s.timebase with
    lockRun := 0, releaseRun := 0, holdover := s.timebase.holdover + 1 } }
  if Config.holdoverLimit ≤ t.timebase.holdover then t.changeTimeState .free else t

/-- R105: the lock run after an adjustment in ACQUIRE. -/
def nextLockRun (run : Nat) (a : Int) : Nat :=
  if a.natAbs ≤ Config.lockWindow then run + 1 else 0

/-- R106: the release run after an uncapped adjustment in LOCKED. -/
def nextReleaseRun (run : Nat) (a : Int) : Nat :=
  if Config.releaseWindow < a.natAbs then run + 1 else 0

/-- R105: a round end in ACQUIRE with a peer candidate, but for its note. -/
def State.acquireRound (s : State) (a : Int) : State :=
  let t := { s.stepBy a with timebase := { (s.stepBy a).timebase with
    holdover := 0, releaseRun := 0, lockRun := nextLockRun s.timebase.lockRun a } }
  if Config.lockRuns ≤ t.timebase.lockRun then t.changeTimeState .locked else t

/-- R106: a round end in LOCKED with a peer candidate. -/
def State.lockedRound (s : State) (a : Int) : State :=
  let t := { s with timebase := { s.timebase with
    holdover := 0, lockRun := 0, releaseRun := nextReleaseRun s.timebase.releaseRun a
    slewRemainder := clampTo (s.control.config.si * 10 : Nat) a } }
  if Config.releaseRuns ≤ t.timebase.releaseRun then t.changeTimeState .acquire else t

/-- R98 steps 1 to 4, R104 to R108: the adjustment is applied by the time state. -/
def State.applyRound (s : State) : State :=
  if s.peerValues.isEmpty then
    (match s.timebase.timeState with
    | .free => s
    | .acquire => s.holdOver
    | .locked => s.holdOver)
  else
    let a := s.roundAdjustment
    match s.timebase.timeState with
    | .free => ((s.stepBy a).changeTimeState .acquire).noteStep a
    | .acquire => (s.acquireRound a).noteStep a
    | .locked => s.lockedRound a

/-- R98 steps 5 and 6: freshness falls, the round number rises, the timer restarts, and in RUNNING
TIME becomes owed. -/
def State.nextRound (s : State) : State :=
  { s with timebase := { s.timebase with
      freshness := Vector.ofFn (fun p : Fin 24 => s.timebase.freshness[p.val] - 1)
      round := s.timebase.round + 1
      roundTimer := some s.roundLength
      timeOwed := s.running || s.timebase.timeOwed } }

/-- R98: a round end. -/
def State.endRound (s : State) : State :=
  s.applyRound.nextRound

/-- R110: a slew tick moves the correction 1 µs toward working off the remainder. -/
def State.slew (s : State) : State :=
  if 0 < s.timebase.slewRemainder then
    { s with timebase := { s.timebase with
        correction := s.timebase.correction + 1
        slewRemainder := s.timebase.slewRemainder - 1 } }
  else if s.timebase.slewRemainder < 0 then
    { s with timebase := { s.timebase with
        correction := s.timebase.correction - 1
        slewRemainder := s.timebase.slewRemainder + 1 } }
  else s

end Sys2Proof.Machine
end

