-- ==== Sys2Proof/Machine/ControlOps.lean ====
section
/-! DEFINITION. Station Control: device reset, START, entry into QUIET, REJOIN, and the passing of
local time (chapter 8, R93). -/

namespace Sys2Proof.Machine

open Sys2Proof

/-- R166: every item of every block at its value after device reset. What the outside puts at the pins and
on the line, the waiting commands and the model's count of choices are not the station's to reset
(assumption logs 5 and 22). -/
def State.hold (s : State) : State :=
  { State.reset with
    pins := s.pins, selLow := s.selLow, wires := s.wires, medium := s.medium, pending := s.pending,
    choices := s.choices }

/-- R45: SELF stands at the own address when it is valid. -/
def State.placeSelf (s : State) : State :=
  match s.own with
  | some p => s.setPeer p { s.peer p with state := .self }
  | none => s

/-- R167: device reset ends: the straps are sampled and the station is UNCONFIGURED. -/
def State.release (s : State) (adr : BitVec 5) (br : BitVec 2) : State :=
  ({ s with
    inReset := false
    control := { s.control with address := adr, bitRate := bitRateOf br } }).placeSelf

/-- R170: the effects of an accepted START. -/
def State.startUp (s : State) : State :=
  { s with
    control := { s.control with
      inForce := true, lifecycle := .joining, joinTimer := some s.joinLength }
    inputs := Vector.ofFn (fun i : Fin 16 => Input.atStart (s.inputConfig i).mode (s.pin i))
    timebase := { s.timebase with round := 0, roundTimer := some s.roundLength } }

/-- R154, R165, R175: at entry into QUIET a frame in flight is aborted and the line released, and HELLO
owed becomes no. -/
def LineControl.quieten (l : LineControl) : LineControl :=
  { l with tx := .free, prepared := none, sent := 0, misread := false, driving := false,
           helloOwed := false }

/-- R175: entry into QUIET. -/
def State.enterQuiet (s : State) (cause : QuietCause) : State :=
  let t := s.quietRepair
  { t with
    control := { t.control with lifecycle := .quiet, cause := cause, joinTimer := none }
    line := t.line.quieten
    timebase := { t.timebase with timeOwed := false }
    host := { t.host with quietFlag := true } }

/-- R177: the effects of an accepted REJOIN. -/
def State.rejoinLine (s : State) : State :=
  { s with
    control := { s.control with
      cause := .noCause, joinTimer := some s.joinLength, lifecycle := .joining }
    line := { s.line with failures := 0, holdBack := false } }

/-- R172: the join listen ends: RUNNING, and HELLO owed. -/
def State.beginRunning (s : State) : State :=
  { s with
    control := { s.control with joinTimer := none, lifecycle := .running }
    line := { s.line with helloOwed := true } }

/-! ### One microsecond of local time (R93) -/

/-- The timers of an input; a DIRECT input is to be read afresh at the next count (R117). -/
def Input.tick (x : Input) : Input :=
  { x with
    holdoffTimer := tickTimer x.holdoffTimer
    window := x.window.map (fun w => { w with left := w.left - 1 })
    quietTimer := tickTimer x.quietTimer
    countTaken := false }

/-- The silence timer of an entry. -/
def PeerEntry.tick (e : PeerEntry) : PeerEntry :=
  { e with silenceTimer := tickTimer e.silenceTimer }

/-- The timer of a missing entry. -/
def Missing.tick (m : Missing) : Missing :=
  { m with timer := m.timer.tick }

/-- The delay of a proxy entry. -/
def ProxyEntry.tick (e : ProxyEntry) : ProxyEntry :=
  { e with timer := e.timer.tick }

/-- R31, R110, R118: the ticks come one microsecond nearer. -/
def Ticks.tick (t : Ticks) : Ticks :=
  { release := t.release - 1, slew := t.slew - 1, sample := t.sample - 1 }

/-- A microsecond in which the host moves none of its wires. -/
def HostWires.pass (w : HostWires) : HostWires :=
  match w.coming with
  | .pause :: more => { w with coming := more }
  | _ => w

/-- R93: one microsecond of local time passes for the whole station. During device reset the local
counter is held at 0 and nothing counts (R166). -/
def State.microsecond (s : State) : State :=
  if s.inReset then s
  else
    { s with
      control := { s.control with joinTimer := tickTimer s.control.joinTimer }
      inputs := Vector.ofFn (fun i : Fin 16 => (s.input i).tick)
      line := s.bitClock.line
      wires := s.wires.pass
      medium := s.bitClock.medium
      timebase := { s.timebase with
        localCounter := s.timebase.localCounter + 1
        roundTimer := tickTimer s.timebase.roundTimer }
      ticks := s.ticks.tick
      peers := Vector.ofFn (fun p : Station => (s.peer p).tick)
      repair := { s.repair with
        missing := Vector.ofFn (fun p : Station => (s.missing p).map Missing.tick)
        proxy := s.repair.proxy.map ProxyEntry.tick } }

end Sys2Proof.Machine
end

