-- ==== Sys2Proof/Machine/LineOps.lean ====
section
/-! DEFINITION. The Line Controller: the end of a received frame, transmit selection, and what
becomes of the frame being sent (chapter 7). -/

namespace Sys2Proof.Machine

open Sys2Proof

/-! ### Reception (section 7.4) -/

/-- The receiver reads a frame that is not being sent by this station any more. -/
def State.receiving (s : State) : Bool :=
  !s.inReset && s.line.rx == .receiving && s.line.tx == .free

/-- R143: the receiver goes to WAIT at the end of a frame. -/
def State.endReception (s : State) : State :=
  { s with line := { s.line with rx := .waiting, echo := false, bits := [], bytes := [] } }

/-- R161: a clash, by life-cycle state. -/
def State.clash (s : State) : State :=
  match s.control.lifecycle with
  | .joining => s.enterQuiet .clash
  | .running => s.enterQuiet .clash
  | .unconfigured => s
  | .quiet => s

/-- R161: a valid frame is a clash, or passed on, or in UNCONFIGURED discarded. -/
def State.takeValid (s : State) (sender : Station) (f : Frame) : State :=
  if s.own = some sender then s.clash
  else if s.control.lifecycle == .unconfigured then s
  else s.passOn sender f

/-- R156: the outcome of a frame that is not echo at its declared end. -/
def State.takeChecked (s : State) : FrameCheck → State
  | .crcError => s.countCrc
  | .formatError => s.countFormat
  | .valid sender f => s.takeValid sender f

/-- R156, R160: a frame reaches its declared end; an echo is not processed. After a frame told by its row
the line is released (assumption log 6). -/
def State.takeFrame (s : State) (raw : List Byte) : State :=
  let t := (s.told (s.line.bytes == raw) (lineBits raw) Medium.released).endReception
  if s.line.echo then t else t.takeChecked (checkFrame raw)

/-- R142: the released run has reached 12 bit times. -/
def State.gapRead (s : State) : Bool :=
  Config.idleGapBits ≤ s.releasedTimes

/-- R157, R160: an idle gap is shown; a frame still in reception is truncated unless it is echo. -/
def State.showIdleGap (s : State) : State :=
  let t := s.toldRuns s.gapRead Config.idleGapBits 0 0 Medium.released
  let u := { t with line := { t.line with
    rx := .idle, echo := false, bits := [], bytes := [], driving := false } }
  if s.line.rx == .receiving && !s.line.echo then u.countTruncated else u

/-- R159, R160: a frame is discarded while it is read, as a format error unless it is echo. -/
def State.discardFrame (s : State) : State :=
  if s.line.echo then s.endReception else s.endReception.countFormat

/-- The line after a row that leaves it at `level` and tells nothing of what follows (assumption log 6). -/
def Medium.untoldAt (level : Bool) : Medium := { level := level, coming := [], untold := true }

/-- R143, R159: the stop bit of `byte` reads driven. -/
def State.faultFrame (s : State) (byte : Byte) : State :=
  (s.told (s.line.faultByte == some byte) (false :: dataBits byte ++ [false])
    (Medium.untoldAt false)).discardFrame

/-- R155: the body length `len` has been read, just now. -/
def LineControl.lengthRead (l : LineControl) (len : Byte) : Bool :=
  l.bytes.length == 3 && l.bytes[2]? == some len

/-- R155, R159: the body length `len` is above 57. -/
def State.refuseLength (s : State) (len : Byte) : State :=
  (s.told (s.line.lengthRead len) (byteBits len) (Medium.untoldAt true)).discardFrame

/-- R144: the driven run has passed 100 bit times. -/
def LineControl.stuckRead (l : LineControl) : Bool :=
  Config.stuckBits < l.drivenRun

/-- R144: the line is stuck; the receiver is in WAIT. -/
def State.stickLine (s : State) : State :=
  let t := s.toldRuns s.line.stuckRead 0 (Config.stuckBits + 1) s.justRead
    { level := false, coming := [], untold := false }
  { t with line := { t.line with stuck := true, rx := .waiting, echo := false, bits := [], bytes := [] } }

/-- R144: the first released bit is read after the line was stuck. -/
def State.freeLine (s : State) : State :=
  let t := s.toldRuns (1 ≤ s.line.releasedRun) 1 0 s.justRead Medium.released
  { t with line := { t.line with stuck := false } }

/-- R145, R203: the row of a whole frame: of its kind, or CRC_ERROR when a check fails. -/
def receivedRow (raw : List Byte) : Instr :=
  match checkFrame raw with
  | .crcError => .crcError raw
  | .formatError => .crcError raw
  | .valid _ f =>
    match f with
    | .hello .. => .helloReceived raw
    | .time .. => .timeReceived raw
    | .repairReq .. => .repairReqReceived raw
    | .repairData .. => .repairDataReceived raw
    | .repairNone .. => .repairNoneReceived raw
    | .event .. => .eventReceived raw

/-! ### Transmission (section 7.3) -/

/-- What a selection yields: the frame, its supplier, and the proxy list that place 4 leaves. -/
structure Selection where
  source : Source
  frame : Frame
  proxy : List ProxyEntry
  deriving DecidableEq, Repr

/-- The SI in force as the frames carry it. -/
def State.siField (s : State) : BitVec 16 :=
  BitVec.ofNat 16 s.control.config.si

/-- R172: the HELLO of this SOF. -/
def State.helloFrame (s : State) : Frame :=
  .hello s.outbound.firstUnsent s.control.restartPending s.siField

/-- R112: the TIME frame of this SOF. -/
def State.timeFrame (s : State) : Frame :=
  .time s.now s.settledBefore s.outbound.firstUnsent s.siField s.timebase.timeState

/-- R75: the REPAIR_REQ for a peer. -/
def State.requestFrame (s : State) (p : Station) : Frame :=
  .repairReq p (s.requestFlag p) ((dueOf (s.missing p)).map (·.seq))

/-- R134: the records of the next EVENT frame. -/
def State.eventRecords (s : State) : List Record :=
  s.outbound.records.take Config.frameRecords

/-- R148 places 5 and 6, with the proxy list place 4 has left. -/
def State.selectLow (s : State) (proxy : List ProxyEntry) : Option Selection :=
  match s.requestPeer with
  | some p =>
    some { source := .repairReq p ((dueOf (s.missing p)).map (·.seq)), frame := s.requestFrame p,
           proxy := proxy }
  | none =>
    if s.eventRecords.isEmpty || s.line.holdBack then none
    else some { source := .event s.eventRecords.length, frame := .event s.eventRecords,
                proxy := proxy }

/-- R88, R148: place 4 and what follows it. -/
def State.selectProxy (s : State) : Option Selection :=
  match s.journal.buildProxy s.repair.proxy.length s.repair.proxy with
  | (proxy, some (p, rs)) =>
    some { source := .proxyAnswer p (rs.map (·.seq)), frame := .repairData p rs, proxy := proxy }
  | (proxy, none) => s.selectLow proxy

/-- R148: the selection, by the first place that has a frame available. -/
def State.select (s : State) : Option Selection :=
  if s.line.helloOwed then
    some { source := .hello s.control.restartPending, frame := s.helloFrame,
           proxy := s.repair.proxy }
  else if s.timebase.timeOwed then
    some { source := .time, frame := s.timeFrame, proxy := s.repair.proxy }
  else
    match nextAnswer s.repair.originAnswers with
    | some f => some { source := .originAnswer, frame := f, proxy := s.repair.proxy }
    | none => s.selectProxy

/-- R147: the conditions on the station and the line for a frame to begin. -/
def State.mayBegin (s : State) : Bool :=
  !s.inReset && s.line.tx == .free && s.running && s.line.rx == .idle && !s.line.stuck

/-- R99, R143: the receiver reads the start bit of a frame. -/
def State.beginReception (s : State) (echo : Bool) : State :=
  { s with
    line := { s.line with
      rx := .receiving, echo := echo, releasedRun := 0, drivenRun := 0, bitPhase := 0,
      bits := [], bytes := [], driving := false }
    timebase := { s.timebase with sofCounter := s.timebase.localCounter } }

/-- R147: the selected frame is prepared and its start bit driven, all in one event. -/
def State.beginFrame (s : State) (sel : Selection) : State :=
  let t := s.beginReception true
  { t with
    line := { t.line with
      tx := .arbitrating, prepared := some { source := sel.source, frame := sel.frame },
      sent := 0, misread := false }
    repair := { t.repair with proxy := sel.proxy } }

/-- R149, R150: the frame is given up and nothing it carried is consumed. -/
def State.giveUp (s : State) (echo : Bool) : State :=
  { s with line := { s.line with
      tx := .free, prepared := none, sent := 0, misread := false, echo := echo } }

/-- R149: arbitration is lost, and the receiver goes on with the winning frame. Where this station has
not read the lost bit itself, rows tell the rest of that frame (assumption log 6). -/
def State.loseArbitration (s : State) : State :=
  if s.line.misread then (s.giveUp false).countArbitrationLoss
  else
    let t := (s.giveUp false).countArbitrationLoss
    { t with medium := Medium.untoldAt false, line := { t.line with bits := [], bytes := [] } }

/-- R149: every bit of the arbitration byte has matched. -/
def State.winArbitration (s : State) : State :=
  let t := s.sentUpTo Config.byteBits
  { t with line := { t.line with tx := .sending } }

/-- R150, R151: the frame is aborted; the sixteenth abort in a row enters QUIET. -/
def State.abortFrame (s : State) : State :=
  let t := (s.giveUp s.line.echo).countBitError
  let n := min (t.line.failures + 1) Config.failureLimit
  let u := { t with line := { t.line with failures := n } }
  if n = Config.failureLimit then u.enterQuiet .lineFault else u

/-- R142, R151, R152: the frame has completed. Its last CRC bit stays on the line to the end of its bit time. -/
def State.endSending (s : State) : State :=
  { s with line := { s.line with
      tx := .free, prepared := none, sent := 0, misread := false, failures := 0
      driving := !s.ltx } }

/-- R152: the supplying block takes the completion. -/
def State.takeCompletion (s : State) : Source → State
  | .hello restart =>
    { s with
      line := { s.line with helloOwed := false }
      control := { s.control with
        restartPending := if restart then false else s.control.restartPending } }
  | .time => { s with timebase := { s.timebase with timeOwed := false } }
  | .originAnswer =>
    { s with repair := { s.repair with originAnswers := answerSent s.repair.originAnswers } }
  | .proxyAnswer p seqs => s.dropProxy p seqs
  | .repairReq p seqs => s.requestSent p seqs
  | .event n =>
    let t := s.eventSent n
    { t with line := { t.line with holdBack := true } }

/-- R152: the bits of the frame up to its last CRC bit, the stop bit after it not compared. -/
def State.comparedBits (s : State) : Nat :=
  s.sendingBits.length - 1

/-- R152: the frame being sent completes. -/
def State.completeFrame (s : State) : State :=
  let t := (s.sentUpTo s.comparedBits).endSending
  match s.line.prepared with
  | some f => t.takeCompletion f.source
  | none => t

end Sys2Proof.Machine
end

