-- ==== Sys2Proof/Machine/HostFormats.lean ====
section
/-! DEFINITION. Host port bytes: result codes and the reports of STATUS, PEERS and INPUTS (R202,
R206). -/

namespace Sys2Proof.Machine

open Sys2Proof

/-- R206: result codes. -/
def resultOk : Byte := 0x80
/-- R206. -/
def resultEmpty : Byte := 0x81
/-- R206. -/
def resultRefused : Byte := 0x82
/-- R206. -/
def resultBadValue : Byte := 0x83
/-- R206. -/
def resultBadAddress : Byte := 0x84
/-- R206. -/
def resultQueueFull : Byte := 0x85
/-- R206. -/
def resultBadCommand : Byte := 0x86

/-- R202. -/
def Lifecycle.code : Lifecycle → Byte
  | .unconfigured => 0x00
  | .joining => 0x01
  | .running => 0x02
  | .quiet => 0x03

/-- R202. -/
def QuietCause.code : QuietCause → Byte
  | .noCause => 0x00
  | .clash => 0x01
  | .lineFault => 0x02

/-- R202. -/
def PeerState.code : PeerState → Byte
  | .absent => 0x00
  | .active => 0x01
  | .silent => 0x02
  | .self => 0x03

/-- R202. -/
def InputState.code : InputState → Byte
  | .disabled => 0x00
  | .armed => 0x01
  | .holdoff => 0x02
  | .suspended => 0x03

/-- R202: a time state as a byte. -/
def timeStateByte (t : TimeState) : Byte :=
  BitVec.setWidth 8 t.code

/-- R185: the report STATUS fixes at its taking. -/
def State.statusReport (s : State) : StatusReport :=
  { lifecycle := s.control.lifecycle
    cause := s.control.cause
    timeState := s.timebase.timeState
    networkTime := s.now
    horizon := s.journal.horizon
    released := s.journal.released.length
    settling := s.journal.settling.length
    queued := s.outbound.records.length
    lost := s.outbound.lost
    stuck := s.line.stuck
    quietFlag := s.host.quietFlag
    dropFlag := s.host.dropFlag
    counters := s.counters }

/-- R185: the eight counters in their order. -/
def Counters.bytes (c : Counters) : List Byte :=
  bytes16 c.crcErrors ++ bytes16 c.truncated ++ bytes16 c.formatErrors ++ bytes16 c.duplicates ++
    bytes16 c.bitErrors ++ bytes16 c.arbitrationLosses ++ bytes16 c.journalDrops ++
    bytes16 c.lateRecords

/-- R206: the 39 bytes of a STATUS report. -/
def StatusReport.bytes (r : StatusReport) : List Byte :=
  [r.lifecycle.code, r.cause.code, timeStateByte r.timeState] ++ bytes48 r.networkTime ++
    bytes48 r.horizon ++ bytes16 (BitVec.ofNat 16 r.released) ++
    bytes16 (BitVec.ofNat 16 r.settling) ++ [BitVec.ofNat 8 r.queued] ++ bytes16 r.lost ++
    [0x00#5 ++ BitVec.ofBool r.dropFlag ++ BitVec.ofBool r.quietFlag ++ BitVec.ofBool r.stuck] ++
    r.counters.bytes

/-- R206: the presence byte of a PEERS row. -/
def presenceByte (next offset timeState heard mismatch : Bool) : Byte :=
  0x0#3 ++ BitVec.ofBool mismatch ++ BitVec.ofBool heard ++ BitVec.ofBool timeState ++
    BitVec.ofBool offset ++ BitVec.ofBool next

/-- R206: a field that may be absent, as its bytes or as zero bytes. -/
def timeBytes (t : Option Stamp) : List Byte :=
  bytes48 (t.getD 0)

/-- R69, R206: the row of an ACTIVE or SILENT entry. -/
def PeerEntry.row (e : PeerEntry) (missing : Nat) : List Byte :=
  [e.state.code,
    presenceByte e.numbering.isSome e.offset.isSome e.timeState.isSome e.lastHeard.isSome
      e.mismatch] ++
    bytes16 ((e.numbering.map (·.next)).getD 0) ++ [BitVec.ofNat 8 missing] ++ bytes48 e.ct ++
    timeBytes (e.offset.map (·.value)) ++ bytes16 ((e.offset.map (·.round)).getD 0) ++
    [((e.timeState.map timeStateByte).getD 0)] ++ timeBytes e.lastHeard

/-- R45, R206: the row of SELF. -/
def State.selfRow (s : State) : List Byte :=
  [PeerState.self.code, presenceByte true true true false false] ++ bytes16 s.outbound.nextSeq ++
    [0] ++ bytes48 s.ownTerm ++ bytes48 0 ++ bytes16 s.timebase.round ++
    [timeStateByte s.timebase.timeState] ++ bytes48 0

/-- R69, R206: one row of a PEERS report. -/
def State.peerRow (s : State) (p : Station) : List Byte :=
  match (s.peer p).state with
  | .absent => List.replicate 26 0
  | .self => s.selfRow
  | .active => (s.peer p).row (s.missing p).length
  | .silent => (s.peer p).row (s.missing p).length

/-- R191: the report of all 24 entries in address order. -/
def State.peersReport (s : State) : List Byte :=
  (List.finRange 24).flatMap s.peerRow

/-- R129, R206: one row of an INPUTS report. -/
def Input.row (x : Input) : List Byte :=
  if x.state == .disabled then [x.state.code, 0, 0, 0]
  else [x.state.code, flagByte x.level] ++ bytes16 x.edgeCount

/-- R192: the report of the sixteen inputs in input order. -/
def State.inputsReport (s : State) : List Byte :=
  (List.finRange 16).flatMap (fun i => (s.input i).row)

end Sys2Proof.Machine
end

