-- ==== Sys2Proof/Machine/Operands.lean ====
section
/-! DEFINITION. The operands of host commands and their checks: the configuration record (R168, R169,
R207) and the count of READ (R189). -/

namespace Sys2Proof.Machine

open Sys2Proof

/-- R207: the values of the fields of a configuration record, in index order: SI from two bytes, then
one byte each. -/
def configFields : List Byte → List Nat
  | a :: b :: rest => (word16 a b).toNat :: rest.map (·.toNat)
  | _ => []

/-- R168, R207: the values of the five fields of an input, by position. -/
def inputFieldOk (position value : Nat) : Bool :=
  if position = 0 then value ≤ 3
  else if position = 1 then value ≤ 1
  else if position = 2 then value ≤ 255
  else if position = 3 then value == 0 || (2 ≤ value && value ≤ 15)
  else 1 ≤ value && value ≤ 255

/-- R168, R207: the field of this index is within its values. -/
def fieldOk (index value : Nat) : Bool :=
  if index = 0 then 10 ≤ value && value ≤ 1000 && value % 10 == 0
  else if index = 1 then 2 ≤ value && value ≤ 8
  else if index = 2 then 5 ≤ value && value ≤ 255
  else if index = 3 then 1 ≤ value && value ≤ 7
  else if index = 4 then value ≤ 255
  else if index = 5 then 1 ≤ value && value ≤ 64
  else inputFieldOk ((index - 6) % 5) value

/-- R169, R207: the index of the first field out of range, from `index` upward. -/
def firstBad : Nat → List Nat → Option Nat
  | _, [] => none
  | index, v :: vs => if fieldOk index v then firstBad (index + 1) vs else some index

/-- R207: the edge mode of a code. -/
def edgeModeOf (v : Nat) : EdgeMode :=
  if v = 0 then .off else if v = 1 then .rising else if v = 2 then .falling else .both

/-- R207: the qualification of a code. -/
def qualificationOf (v : Nat) : Qualification :=
  if v = 0 then .direct else .qualified

/-- R207: the five fields of one input, from its first index. -/
def inputConfigAt (fields : List Nat) (index : Nat) : InputConfig :=
  { mode := edgeModeOf (fields.getD index 0)
    qualification := qualificationOf (fields.getD (index + 1) 0)
    holdoff := fields.getD (index + 2) 0
    chatterLimit := fields.getD (index + 3) 0
    chatterWindow := fields.getD (index + 4) 0 }

/-- R207: the record of a list of field values. -/
def configOf (fields : List Nat) : ConfigRecord :=
  { si := fields.getD 0 0
    m := fields.getD 1 0
    ri := fields.getD 2 0
    retries := fields.getD 3 0
    lineDelay := fields.getD 4 0
    threshold := fields.getD 5 0
    inputs := Vector.ofFn (fun i : Fin 16 => inputConfigAt fields (6 + 5 * i.val)) }

/-- R189: a count of records READ accepts, 1 to 16. -/
def readCountOk (n : Byte) : Bool :=
  1 ≤ n.toNat && n.toNat ≤ Config.readLimit

end Sys2Proof.Machine
end

