-- ==== Sys2Proof/Machine/HostOps.lean ====
section
/-! DEFINITION. The Host Port: transactions, the taking of commands, responses (chapter 9). -/

namespace Sys2Proof.Machine

open Sys2Proof

/-- R181: the command byte of a transaction is being read. -/
def State.atCommand (s : State) : Bool :=
  !s.inReset && s.host.txn == .command

/-- R181: the operands of this command are being read. -/
def State.atOperands (s : State) (c : OperandCommand) : Bool :=
  !s.inReset && s.host.txn == .operands && s.host.operandsOf == some c

/-- R181: a response is being sent. -/
def State.inResponse (s : State) : Bool :=
  !s.inReset && s.host.txn == .response

/-- R181: the command is taken and its response fixed: the result code and the data after it. -/
def State.respond (s : State) (c : Option HostCommand) (response : List Byte) : State :=
  { s with host := { s.host with
      txn := .response, operandsOf := none, taken := c, response := response } }

/-- R180: a transaction begins: SCK rests low, and the first bit of its first byte, 00h, is on SDO. A fall
of SEL during device reset begins none. -/
def State.beginTransaction (s : State) (moves : List HostMove) : State :=
  let t := { s with selLow := true, wires := { s.wires with sck := false, coming := moves } }
  if s.inReset then t
  else
    { t with host := { t.host with
        txn := .command, bits := [], out := dataBits 0x00, operands := [], left := 0 } }

/-- R180, R182: the transaction ends; its progress is over, with a byte period that SEL cuts and operand
bytes of a command not taken, and what it has done stays (assumption log 23). -/
def State.endTransaction (s : State) : State :=
  { s with
    selLow := false
    wires := { s.wires with coming := [] }
    host := { s.host with
      txn := .idle, bits := [], out := [], operands := [], left := 0, operandsOf := none, taken := none,
      response := [], report := none, sending := false, delivered := 0 } }

/-- R181: the operands of a command follow. -/
def State.readOperands (s : State) (c : OperandCommand) : State :=
  { s with host := { s.host with txn := .operands, operandsOf := some c } }

/-- R185: STATUS fixes its report. -/
def State.takeStatus (s : State) : State :=
  let t := s.respond (some .status) (resultOk :: s.statusReport.bytes)
  { t with host := { t.host with report := some s.statusReport } }

/-- R186: each attention flag that the report showed set becomes clear. -/
def State.clearShownFlags (s : State) : State :=
  match s.host.report with
  | some r =>
    { s with host := { s.host with
        quietFlag := s.host.quietFlag && !r.quietFlag
        dropFlag := s.host.dropFlag && !r.dropFlag } }
  | none => s

/-- R181, R186: the last byte of the response has left; after a STATUS the flags it showed clear. -/
def State.endResponse (s : State) : State :=
  let t := if s.host.taken == some .status then s.clearShownFlags else s
  { t with host := { t.host with txn := .trailing, response := [], report := none } }

/-- R181: SDO in the byte period `k` of the present transaction state, counted from 0: at high impedance
in IDLE, the bytes of the response in RESPONSE, and 00h in every other state. -/
def State.sdo (s : State) (k : Nat) : Option Byte :=
  match s.host.txn with
  | .idle => none
  | .command => some 0x00
  | .operands => some 0x00
  | .response => s.host.response[k]?
  | .trailing => some 0x00

/-- R169, R187: CONFIGURE in UNCONFIGURED replaces the held record or is refused whole. -/
def State.takeConfigure (s : State) (record : List Byte) : State :=
  if s.control.lifecycle == .unconfigured then
    match firstBad 0 (configFields record) with
    | some index =>
      s.respond (some (.configure record)) [resultBadValue, BitVec.ofNat 8 index]
    | none =>
      let t := s.respond (some (.configure record)) [resultOk]
      { t with control := { t.control with config := configOf (configFields record) } }
  else s.respond (some (.configure record)) [resultRefused]

/-- R170, R188: START in UNCONFIGURED with a valid address is accepted. -/
def State.takeStart (s : State) : State :=
  if s.control.lifecycle == .unconfigured then
    if s.own.isSome then (s.startUp).respond (some .start) [resultOk]
    else s.respond (some .start) [resultBadAddress]
  else s.respond (some .start) [resultRefused]

/-- R36, R189: the record now at the head begins to be sent, after the bytes already fixed. -/
def State.sendRecord (s : State) (h : Held) (before : List Byte) (delivered : Nat) : State :=
  { s with host := { s.host with
      response := before ++ encodeHostRecord h, sending := true, delivered := delivered } }

/-- R189: READ at its taking, the first record boundary. -/
def State.takeRead (s : State) (n : Byte) : State :=
  if readCountOk n then
    match s.journal.released with
    | h :: _ => (s.respond (some (.read n)) [resultOk]).sendRecord h [resultOk] 0
    | [] => s.respond (some (.read n)) [resultEmpty]
  else s.respond (some (.read n)) [resultBadValue, 0]

/-- R189: a record boundary after `delivered` of `n` records: the continuation byte, and the next
record or the end of the records. -/
def State.boundary (s : State) (n : Byte) (delivered : Nat) : State :=
  match s.journal.released with
  | h :: _ =>
    if delivered < n.toNat then s.sendRecord h (s.host.response ++ [0x01]) delivered
    else { s with host := { s.host with
             response := s.host.response ++ [0x00], sending := false, delivered := delivered } }
  | [] =>
    { s with host := { s.host with
        response := s.host.response ++ [0x00], sending := false, delivered := delivered } }

/-- R135, R193: MARK makes a record, or is refused. -/
def State.takeMark (s : State) (tag : Byte) : State :=
  if s.control.lifecycle == .unconfigured then s.respond (some (.mark tag)) [resultRefused]
  else if s.queueHasRoom then
    (s.appendOwn s.now s.timebase.timeState (.mark tag s.snapshot)).respond (some (.mark tag))
      (resultOk :: bytes16 s.outbound.nextSeq)
  else s.respond (some (.mark tag)) [resultQueueFull]

/-- R177, R194: REJOIN in QUIET is accepted. -/
def State.takeRejoin (s : State) : State :=
  if s.control.lifecycle == .quiet then s.rejoinLine.respond (some .rejoin) [resultOk]
  else s.respond (some .rejoin) [resultRefused]

/-- R195: CLEAR COUNTS. -/
def State.takeClearCounts (s : State) : State :=
  { s with counters := Counters.zero }.respond (some .clearCounts) [resultOk]

/-- R191: PEERS. -/
def State.takePeers (s : State) : State :=
  s.respond (some .peers) (resultOk :: s.peersReport)

/-- R192: INPUTS. -/
def State.takeInputs (s : State) : State :=
  s.respond (some .inputs) (resultOk :: s.inputsReport)

/-- R183: a byte that names no command. -/
def State.takeBadCommand (s : State) : State :=
  s.respond none [resultBadCommand]

/-- R181, R183, R206: a command byte is whole: the command it names is taken, or its operands follow. -/
def State.takeCommandByte (s : State) (byte : Byte) : State :=
  match commandOf byte with
  | some .status => s.takeStatus
  | some .configure => s.readOperands .configure
  | some .start => s.takeStart
  | some .read => s.readOperands .read
  | some .peers => s.takePeers
  | some .inputs => s.takeInputs
  | some .mark => s.readOperands .mark
  | some .rejoin => s.takeRejoin
  | some .clearCounts => s.takeClearCounts
  | none => s.takeBadCommand

end Sys2Proof.Machine
end

