-- ==== Sys2Proof/Machine/SpiOps.lean ====
section
/-! DEFINITION. The host port bit by bit: SCK, SDI and SDO, the byte periods, and the rows that their bytes
are (R180, R181). -/

namespace Sys2Proof.Machine

open Sys2Proof

/-- R180: the level at SDO, `none` at high impedance. -/
def State.sdoPin (s : State) : Option Bool :=
  if s.host.txn == .idle then none else s.host.out.head?

/-- R181, R183: the row of a command byte. -/
def commandRow (byte : Byte) : Instr :=
  match commandOf byte with
  | some .status => .status
  | some .configure => .commandByte byte
  | some .start => .start
  | some .read => .commandByte byte
  | some .peers => .peers
  | some .inputs => .inputs
  | some .mark => .commandByte byte
  | some .rejoin => .rejoin
  | some .clearCounts => .clearCounts
  | none => .badCommand byte

/-- R181: the row of an operand byte, the last one of its command. -/
def HostPort.operandRow (h : HostPort) (byte : Byte) : Option Instr :=
  match h.operandsOf with
  | some .read => some (.read byte)
  | some .mark => some (.mark byte)
  | some .configure =>
    if h.operands.length + 1 = configBytes then some (.configure (h.operands ++ [byte])) else none
  | none => none

/-- R37, R181, R186: the row of the last byte fixed so far of the response, once it leaves. -/
def HostPort.responseRow (h : HostPort) : Instr :=
  if h.taken == some .status then .statusResponseEnd
  else if h.sending then .recordConsumed
  else .responseEnd

/-- R181: the row of a byte period that is over, if it is one. -/
def HostPort.byteRow (h : HostPort) (byte : Byte) : Option Instr :=
  match h.txn with
  | .idle => none
  | .command => some (commandRow byte)
  | .operands => h.operandRow byte
  | .response => if h.left + 1 = h.response.length then some h.responseRow else none
  | .trailing => none

/-- R180, R181: the eighth rising edge of a byte period: the byte received is whole and the byte sent has
left, and their row is taken next. -/
def State.endByte (s : State) (byte : Byte) : State :=
  let row := s.host.byteRow byte
  { s with
    host := { s.host with
      bits := []
      operands := if s.host.txn == .operands && row.isNone then s.host.operands ++ [byte] else []
      left := if s.host.txn == .response then s.host.left + 1 else s.host.left }
    pending := s.pending ++ row.toList }

/-- R180: SDI is sampled, most significant bit first; while SEL is high it is not read. -/
def State.sampleSdi (s : State) (sdi : Bool) : State :=
  let bits := s.host.bits ++ [sdi]
  if s.host.txn == .idle then s
  else if bits.length < 8 then { s with host := { s.host with bits := bits } }
  else s.endByte (byteOfBits bits)

/-- R180: SDO changes to the next bit, after the eighth bit to the first one of the next byte. -/
def State.shiftSdo (s : State) : State :=
  if s.host.txn == .idle then s
  else
    { s with host := { s.host with
        out := if s.host.bits.isEmpty then dataBits ((s.sdo s.host.left).getD 0x00)
          else s.host.out.tail } }

/-- R180, R182: the host's next move is made. A rise of SCK that is high, or a fall of SCK that is low, is no
edge. -/
def State.hostMove (s : State) : State :=
  match s.wires.coming with
  | [] => s
  | .pause :: _ => s
  | .rise sdi :: more =>
    let t := { s with wires := { sck := true, sdi := sdi, coming := more } }
    if s.wires.sck then t else t.sampleSdi sdi
  | .fall :: more =>
    let t := { s with wires := { s.wires with sck := false, coming := more } }
    if s.wires.sck then t.shiftSdo else t
  | .lift :: more =>
    { s with wires := { s.wires with coming := more }, pending := s.pending ++ [.selRise] }

/-- The host makes a move now; during device reset no time passes for it (assumption log 5). -/
def State.moveDue (s : State) : Bool :=
  !s.inReset && (match s.wires.coming with
    | [] => false
    | .pause :: _ => false
    | .rise _ :: _ => true
    | .fall :: _ => true
    | .lift :: _ => true)

end Sys2Proof.Machine
end

