-- ==== Sys2Proof/Machine/Due.lean ====
section
/-! DEFINITION. When each event of the station itself is due: a timer has run out, a tick falls, a run
has reached its length, a frame may begin (assumption logs 1 and 2). -/

namespace Sys2Proof.Machine

open Sys2Proof

/-- R31. -/
def State.releaseTickDue (s : State) : Bool :=
  !s.inReset && s.ticks.release == 0

/-- R110. -/
def State.slewTickDue (s : State) : Bool :=
  !s.inReset && s.ticks.slew == 0

/-- R118. -/
def State.sampleTickDue (s : State) : Bool :=
  !s.inReset && s.ticks.sample == 0

/-- R96. -/
def State.roundEndDue (s : State) : Bool :=
  !s.inReset && ranOut s.timebase.roundTimer

/-- R172. -/
def State.joinExpiryDue (s : State) : Bool :=
  !s.inReset && s.control.lifecycle == .joining && ranOut s.control.joinTimer

/-- R124. -/
def State.holdoffDue (s : State) (i : Fin 16) : Bool :=
  !s.inReset && (s.input i).state == .holdoff && ranOut (s.input i).holdoffTimer

/-- R122. -/
def State.windowDue (s : State) (i : Fin 16) : Bool :=
  !s.inReset && (s.input i).window.any (fun w => w.left == 0)

/-- R126. -/
def State.quietDue (s : State) (i : Fin 16) : Bool :=
  !s.inReset && (s.input i).state == .suspended && ranOut (s.input i).quietTimer

/-- R50. -/
def State.silenceDue (s : State) (p : Station) : Bool :=
  !s.inReset && (s.peer p).state == .active && ranOut (s.peer p).silenceTimer

/-- R78. -/
def State.repairDue (s : State) (p : Station) : Bool :=
  !s.inReset && (s.missing p).any (fun m => m.timer.ranOut)

/-- R86. -/
def State.proxyDue (s : State) (p : Station) (seq : Seq) : Bool :=
  !s.inReset &&
    s.repair.proxy.any (fun e => e.subject == p && e.seq == seq && e.timer.ranOut)

/-- R153: the released run has reached 24 bit times. -/
def State.holdBackOver (s : State) : Bool :=
  !s.inReset && s.line.rx == .idle && Config.holdBackBits ≤ s.releasedTimes

/-- R143: the receiver in IDLE reads the line driven. -/
def State.startDue (s : State) : Bool :=
  !s.inReset && s.line.rx == .idle && !s.medium.level

/-- R142, R143: the released run has reached 12 bit times. -/
def State.gapDue (s : State) : Bool :=
  !s.inReset && s.line.rx != .idle && s.line.tx == .free && !s.line.stuck && s.gapRead

/-- R144: the driven run has passed 100 bit times. -/
def State.stuckDue (s : State) : Bool :=
  !s.inReset && s.line.tx == .free && !s.line.stuck && s.line.stuckRead

/-- R144: a released bit has been read after a stuck line. -/
def State.stuckClearDue (s : State) : Bool :=
  !s.inReset && s.line.stuck && 1 ≤ s.line.releasedRun

/-- R155: a body length above 57 has been read. -/
def State.lengthDue (s : State) (len : Byte) : Bool :=
  s.receiving && s.line.lengthRead len && Config.bodyLimit < len.toNat

/-- R155, R156: the frame in reception has reached its declared end. -/
def State.frameEndDue (s : State) : Bool :=
  s.receiving && frameWhole s.line.bytes

/-- R149: the arbitration byte has been read back as sent. -/
def State.wonDue (s : State) : Bool :=
  s.line.tx == .arbitrating && !s.line.misread && s.line.sent == Config.byteBits

/-- R149: a released bit of the arbitration byte has been read driven. -/
def State.lossDue (s : State) : Bool :=
  s.line.tx == .arbitrating && s.line.misread

/-- R150: a bit after the arbitration byte has been read otherwise than it was sent. -/
def State.bitErrorDue (s : State) : Bool :=
  s.line.tx == .sending && s.line.misread

/-- R152: the last CRC bit has been read back as sent. -/
def State.completionDue (s : State) : Bool :=
  s.line.tx == .sending && !s.line.misread && s.line.sent == s.comparedBits

/-- R147: a frame begins at any instant at which it may and a place has one available. -/
def State.frameDue (s : State) : Bool :=
  s.mayBegin && s.select.isSome

/-- A list of one event when it is due. -/
def dueWhen (b : Bool) (c : Instr) : List Instr :=
  if b then [c] else []

/-- The events of the line that the station has read itself (R141). -/
def State.lineEvents (s : State) : List Instr :=
  dueWhen s.startDue (.startOfFrame s.medium.coming) ++ dueWhen s.gapDue .idleGap ++
    dueWhen s.stuckDue .lineStuck ++ dueWhen s.stuckClearDue .lineStuckClear ++
    s.line.faultByte.toList.flatMap (fun b => dueWhen s.receiving (.framingFault b)) ++
    s.line.bytes.flatMap (fun b => dueWhen (s.lengthDue b) (.bodyLengthAbove57 b)) ++
    dueWhen s.frameEndDue (receivedRow s.line.bytes) ++
    dueWhen s.wonDue .arbitrationWon ++ dueWhen s.lossDue .arbitrationLoss ++
    dueWhen s.bitErrorDue .bitError ++ dueWhen s.completionDue .frameComplete

/-- Every event of the station itself that is due at this instant. -/
def State.dueEvents (s : State) : List Instr :=
  dueWhen s.releaseTickDue .releaseTick ++ dueWhen s.slewTickDue .slewTick ++
    dueWhen s.sampleTickDue .sampleTick ++ dueWhen s.roundEndDue .roundEnd ++
    dueWhen s.joinExpiryDue .joinTimerExpiry ++
    (List.finRange 16).flatMap (fun i =>
      dueWhen (s.directReadDue i) (.pinChange i (s.pin i)) ++
        dueWhen (s.holdoffDue i) (.holdoffExpiry i) ++
        dueWhen (s.windowDue i) (.chatterWindowExpiry i) ++
        dueWhen (s.quietDue i) (.quietTimerExpiry i)) ++
    (List.finRange 24).flatMap (fun p =>
      dueWhen (s.silenceDue p) (.silenceExpiry p) ++
        dueWhen (s.repairDue p) (.repairTimerExpiry p)) ++
    s.repair.proxy.flatMap (fun e =>
      dueWhen (s.proxyDue e.subject e.seq) (.proxyDelayExpiry e.subject e.seq)) ++
    s.lineEvents ++ dueWhen (s.holdBackOver && s.line.holdBack) .holdBackClear ++
    dueWhen s.frameDue .frameBegin

/-- What happens at this instant: an event of the station, or `none` for the host's next move. -/
def State.instant (s : State) : List (Option Instr) :=
  s.dueEvents.map some ++ (if s.moveDue then [none] else [])

/-- With no command waiting: an event of the station that is due now is put into the queue, or the host
makes its move, one in a free order where several fall at this instant; with none, one microsecond of local
time passes (DESIGN CHOICE, assumption logs 1 and 3). -/
def State.idle (s : State) : State :=
  match pickOne s.choices s.instant with
  | some (some c) => { s with pending := [c], choices := s.choices + 1 }
  | some none => { s.hostMove with choices := s.choices + 1 }
  | none => s.microsecond

end Sys2Proof.Machine
end

