-- ==== Sys2Proof/Machine/FieldInputs.lean ====
section
/-! DEFINITION. The field input family (chapter 6). -/

namespace Sys2Proof.Machine

open Sys2Proof

/-- R117: PIN_CHANGE: the pin changes to `level` between two counts of the local counter, where it is not
seen; standing there, it is read, once at each count (assumption log 15). -/
def execPinChange (input : Fin 16) (level : Bool) (s : State) : Host.Outcome State Fault Refusal :=
  if s.pin input == level then commit (s.readDirect input)
  else commit { s with pins := withBit s.pins input.val level }

/-- R118: SAMPLE_TICK. -/
def execSampleTick (s : State) : Host.Outcome State Fault Refusal :=
  if s.sampleTickDue then
    commit ({ s with ticks := { s.ticks with sample := Config.samplePeriod } }).sampleAll
  else notTaken s

/-- R124: HOLDOFF_EXPIRY of an input in HOLDOFF. -/
def execHoldoffExpiry (input : Fin 16) (s : State) : Host.Outcome State Fault Refusal :=
  if s.holdoffDue input then commit (s.endHoldoff input) else notTaken s

/-- R122: CHATTER_WINDOW_EXPIRY of an open window. -/
def execChatterWindowExpiry (input : Fin 16) (s : State) : Host.Outcome State Fault Refusal :=
  if s.windowDue input then commit (s.closeWindow input) else notTaken s

/-- R126: QUIET_TIMER_EXPIRY of an input in SUSPENDED. -/
def execQuietTimerExpiry (input : Fin 16) (s : State) : Host.Outcome State Fault Refusal :=
  if s.quietDue input then commit (s.resumeInput input) else notTaken s

end Sys2Proof.Machine
end

