-- ==== Sys2Proof/Machine/HostPort.lean ====
section
/-! DEFINITION. The host port family (chapter 9). A command is taken only in the transaction state in
which its last byte can be read (R181). -/

namespace Sys2Proof.Machine

open Sys2Proof

/-- R180: SEL_FALL begins a transaction, but not while device reset is in force; SEL that is low
already does not fall. The host's moves are to come in either case that it falls (assumption log 14). -/
def execSelFall (s : State) (moves : List HostMove := []) : Host.Outcome State Fault Refusal :=
  if s.selLow then notTaken s else commit (s.beginTransaction moves)

/-- R182: SEL_RISE ends the transaction. -/
def execSelRise (s : State) : Host.Outcome State Fault Refusal :=
  if s.selLow then commit s.endTransaction else notTaken s

/-- R181, R206: COMMAND_BYTE of READ, MARK or CONFIGURE; another byte does what its own row does. -/
def execCommandByte (byte : Byte) (s : State) : Host.Outcome State Fault Refusal :=
  if s.atCommand then commit (s.takeCommandByte byte) else notTaken s

/-- R183: BAD_COMMAND, a byte that names no command. -/
def execBadCommand (byte : Byte) (s : State) : Host.Outcome State Fault Refusal :=
  if s.atCommand && namesNoCommand byte then commit s.takeBadCommand
  else notTaken s

/-- R185: STATUS. -/
def execStatus (s : State) : Host.Outcome State Fault Refusal :=
  if s.atCommand then commit s.takeStatus else notTaken s

/-- R186: STATUS_RESPONSE_END; for a STATUS it is the end of the response (assumption log 13). -/
def execStatusResponseEnd (s : State) : Host.Outcome State Fault Refusal :=
  if s.inResponse && s.host.taken == some .status then commit s.endResponse else notTaken s

/-- R181: RESPONSE_END; a READ that is sending a record is not at its end. -/
def execResponseEnd (s : State) : Host.Outcome State Fault Refusal :=
  if s.inResponse && !s.host.sending then commit s.endResponse else notTaken s

/-- R169, R187: CONFIGURE with its whole record. -/
def execConfigure (record : List Byte) (s : State) : Host.Outcome State Fault Refusal :=
  if s.atOperands .configure && record.length == configBytes then commit (s.takeConfigure record)
  else notTaken s

/-- R170, R188: START. -/
def execStart (s : State) : Host.Outcome State Fault Refusal :=
  if s.atCommand then commit s.takeStart else notTaken s

/-- R189: READ for `n` records. -/
def execRead (n : Byte) (s : State) : Host.Outcome State Fault Refusal :=
  if s.atOperands .read then commit (s.takeRead n) else notTaken s

/-- R37, R39, R189: RECORD_CONSUMED, when a record of a READ is being sent. -/
def execRecordConsumed (s : State) : Host.Outcome State Fault Refusal :=
  match s.host.taken, s.journal.released with
  | some (.read n), _ :: _ =>
    if s.inResponse && s.host.sending then commit (s.consumeHead.boundary n (s.host.delivered + 1))
    else notTaken s
  | _, _ => notTaken s

/-- R191: PEERS. -/
def execPeers (s : State) : Host.Outcome State Fault Refusal :=
  if s.atCommand then commit s.takePeers else notTaken s

/-- R192: INPUTS. -/
def execInputs (s : State) : Host.Outcome State Fault Refusal :=
  if s.atCommand then commit s.takeInputs else notTaken s

/-- R135, R193: MARK with its tag. -/
def execMark (tag : Byte) (s : State) : Host.Outcome State Fault Refusal :=
  if s.atOperands .mark then commit (s.takeMark tag) else notTaken s

/-- R177, R194: REJOIN. -/
def execRejoin (s : State) : Host.Outcome State Fault Refusal :=
  if s.atCommand then commit s.takeRejoin else notTaken s

/-- R195: CLEAR_COUNTS. -/
def execClearCounts (s : State) : Host.Outcome State Fault Refusal :=
  if s.atCommand then commit s.takeClearCounts else notTaken s

end Sys2Proof.Machine
end

