-- ==== Sys2Proof/Machine/LifeCycle.lean ====
section
/-! DEFINITION. The life-cycle family: DEVICE_RESET, RESET_RELEASE, JOIN_TIMER_EXPIRY (chapter 8). -/

namespace Sys2Proof.Machine

open Sys2Proof

/-- R166, R198: DEVICE_RESET ends every operation at once and holds every block at its reset value;
IRQ goes low with the rest. -/
def execDeviceReset (s : State) : Host.Outcome State Fault Refusal :=
  commit s.hold

/-- R166, R167: RESET_RELEASE samples the straps, once, at the end of a device reset. -/
def execResetRelease (adr : BitVec 5) (br : BitVec 2) (s : State) :
    Host.Outcome State Fault Refusal :=
  if s.inReset then commit (s.release adr br) else notTaken s

/-- R172: JOIN_TIMER_EXPIRY in JOINING, when the join timer has run out. -/
def execJoinTimerExpiry (s : State) : Host.Outcome State Fault Refusal :=
  if s.joinExpiryDue then commit s.beginRunning else notTaken s

end Sys2Proof.Machine
end

