-- ==== Sys2Proof/Machine/NetworkTime.lean ====
section
/-! DEFINITION. The ticks and rounds: RELEASE_TICK, ROUND_END, SLEW_TICK (R31, R98, R110). -/

namespace Sys2Proof.Machine

open Sys2Proof

/-- R31: RELEASE_TICK, every 1000 µs of local time: the journal computes the horizon. -/
def execReleaseTick (s : State) : Host.Outcome State Fault Refusal :=
  if s.releaseTickDue then
    commit ({ s with ticks := { s.ticks with release := Config.releasePeriod } }).computeHorizon
  else notTaken s

/-- R98: ROUND_END. -/
def execRoundEnd (s : State) : Host.Outcome State Fault Refusal :=
  if s.roundEndDue then commit s.endRound else notTaken s

/-- R110: SLEW_TICK, every 100 µs of local time. -/
def execSlewTick (s : State) : Host.Outcome State Fault Refusal :=
  if s.slewTickDue then
    commit ({ s with ticks := { s.ticks with slew := Config.slewPeriod } }).slew
  else notTaken s

end Sys2Proof.Machine
end

