-- ==== Sys2Proof/Machine/PeerTimers.lean ====
section
/-! DEFINITION. The timers of peers and repair: SILENCE_EXPIRY, REPAIR_TIMER_EXPIRY,
PROXY_DELAY_EXPIRY (R50, R78, R86). -/

namespace Sys2Proof.Machine

open Sys2Proof

/-- R50: SILENCE_EXPIRY of an ACTIVE entry. -/
def execSilenceExpiry (peer : Station) (s : State) : Host.Outcome State Fault Refusal :=
  if s.silenceDue peer then commit (s.silencePeer peer) else notTaken s

/-- R78: REPAIR_TIMER_EXPIRY of the entries of one peer. -/
def execRepairTimerExpiry (peer : Station) (s : State) : Host.Outcome State Fault Refusal :=
  if s.repairDue peer then commit (s.expireMissing peer) else notTaken s

/-- R86: PROXY_DELAY_EXPIRY of one proxy answer entry. -/
def execProxyDelayExpiry (subject : Station) (seq : Seq) (s : State) :
    Host.Outcome State Fault Refusal :=
  if s.proxyDue subject seq then commit (s.endProxyDelay subject seq) else notTaken s

end Sys2Proof.Machine
end

