-- ==== Sys2Proof/Machine/Reception.lean ====
section
/-! DEFINITION. The reception family: what the receiver reads on the line (sections 7.1 and 7.4). A
frame row is taken when the receiver is RECEIVING and the operand is a whole frame of the row's kind
(assumption log 8). -/

namespace Sys2Proof.Machine

open Sys2Proof

/-- R141, R143: START_OF_FRAME, in IDLE. Elsewhere a driven bit is no start of a frame, and the levels of
the other stations combine with what is on the line; between bytes they find the boundary of a bit. -/
def execStartOfFrame (s : State) (levels : List Bool := []) : Host.Outcome State Fault Refusal :=
  if !s.inReset && s.line.rx == .idle then
    commit ((if s.medium.level then s.othersDrive levels else s).beginReception false)
  else if levels.isEmpty then notTaken s
  else commit (s.findBoundary.othersDrive levels)

/-- R143, R157: IDLE_GAP, in WAIT or RECEIVING; while this station drives, and while the line is
stuck, no released run reaches 12 bit times. -/
def execIdleGap (s : State) : Host.Outcome State Fault Refusal :=
  if !s.inReset && s.line.rx != .idle && s.line.tx == .free && !s.line.stuck then
    commit s.showIdleGap
  else notTaken s

/-- R153: HOLD_BACK_CLEAR, when the released run has reached 24 bit times. -/
def execHoldBackClear (s : State) : Host.Outcome State Fault Refusal :=
  if s.holdBackOver then commit { s with line := { s.line with holdBack := false } }
  else notTaken s

/-- R144: LINE_STUCK: the flag is set and the receiver is in WAIT (assumption log 16). -/
def execLineStuck (s : State) : Host.Outcome State Fault Refusal :=
  if !s.inReset && s.line.tx == .free && !s.line.stuck then
    commit s.stickLine
  else notTaken s

/-- R144: LINE_STUCK_CLEAR at the first released bit; the receiver stays in WAIT. -/
def execLineStuckClear (s : State) : Host.Outcome State Fault Refusal :=
  if !s.inReset && s.line.stuck then
    commit s.freeLine
  else notTaken s

/-- R143, R159: FRAMING_FAULT: the stop bit of `byte` reads driven. -/
def execFramingFault (byte : Byte) (s : State) : Host.Outcome State Fault Refusal :=
  if s.receiving then commit (s.faultFrame byte) else notTaken s

/-- R155, R159: BODY_LENGTH_ABOVE_57. -/
def execBodyLengthAbove57 (len : Byte) (s : State) : Host.Outcome State Fault Refusal :=
  if s.receiving && Config.bodyLimit < len.toNat then
    commit (s.refuseLength len)
  else notTaken s

/-- R156, R158, R159: CRC_ERROR: a whole frame that fails its CRC or a content check. -/
def execCrcError (raw : List Byte) (s : State) : Host.Outcome State Fault Refusal :=
  if s.receiving && frameWhole raw &&
      (checkFrame raw == .crcError || checkFrame raw == .formatError) then
    commit (s.takeFrame raw)
  else notTaken s

/-- R53, R54, R156: HELLO_RECEIVED. -/
def execHelloReceived (raw : List Byte) (s : State) : Host.Outcome State Fault Refusal :=
  if s.receiving && frameOfKind 0x01 raw then commit (s.takeFrame raw) else notTaken s

/-- R65, R156: TIME_RECEIVED. -/
def execTimeReceived (raw : List Byte) (s : State) : Host.Outcome State Fault Refusal :=
  if s.receiving && frameOfKind 0x02 raw then commit (s.takeFrame raw) else notTaken s

/-- R89, R156: REPAIR_REQ_RECEIVED. -/
def execRepairReqReceived (raw : List Byte) (s : State) : Host.Outcome State Fault Refusal :=
  if s.receiving && frameOfKind 0x03 raw then commit (s.takeFrame raw) else notTaken s

/-- R90, R156: REPAIR_DATA_RECEIVED. -/
def execRepairDataReceived (raw : List Byte) (s : State) : Host.Outcome State Fault Refusal :=
  if s.receiving && frameOfKind 0x04 raw then commit (s.takeFrame raw) else notTaken s

/-- R81, R156: REPAIR_NONE_RECEIVED. -/
def execRepairNoneReceived (raw : List Byte) (s : State) : Host.Outcome State Fault Refusal :=
  if s.receiving && frameOfKind 0x05 raw then commit (s.takeFrame raw) else notTaken s

/-- R57, R156: EVENT_RECEIVED. -/
def execEventReceived (raw : List Byte) (s : State) : Host.Outcome State Fault Refusal :=
  if s.receiving && frameOfKind 0x06 raw then commit (s.takeFrame raw) else notTaken s

end Sys2Proof.Machine
end

