-- ==== Sys2Proof/Machine/Transmission.lean ====
section
/-! DEFINITION. The transmission family (section 7.3). -/

namespace Sys2Proof.Machine

open Sys2Proof

/-- R147: FRAME_BEGIN, when every condition holds and a place has a frame. -/
def execFrameBegin (s : State) : Host.Outcome State Fault Refusal :=
  match s.select with
  | some sel => if s.mayBegin then commit (s.beginFrame sel) else notTaken s
  | none => notTaken s

/-- R149: ARBITRATION_LOSS, while ARBITRATING. -/
def execArbitrationLoss (s : State) : Host.Outcome State Fault Refusal :=
  if s.line.tx == .arbitrating then commit s.loseArbitration else notTaken s

/-- R149: ARBITRATION_WON: the transmitter goes from ARBITRATING to SENDING. -/
def execArbitrationWon (s : State) : Host.Outcome State Fault Refusal :=
  if s.line.tx == .arbitrating && !s.line.misread then commit s.winArbitration else notTaken s

/-- R150, R151: BIT_ERROR, while ARBITRATING or SENDING; a released bit that the station has read driven in
the arbitration byte is a loss (R149). -/
def execBitError (s : State) : Host.Outcome State Fault Refusal :=
  if s.line.tx != .free && !(s.line.tx == .arbitrating && s.line.misread) then commit s.abortFrame
  else notTaken s

/-- R152: FRAME_COMPLETE, while SENDING. -/
def execFrameComplete (s : State) : Host.Outcome State Fault Refusal :=
  if s.line.tx == .sending && !s.line.misread then commit s.completeFrame else notTaken s

end Sys2Proof.Machine
end

