-- ==== Sys2Proof/Machine/Dispatch.lean ====
section
/-! DEFINITION. One arm per row of spec/opcode_table.json, in the table's order. -/

namespace Sys2Proof.Machine

open Sys2Proof

-- The command's effect on everything but the queue.
def exec (i : Instr) (s : State) : Host.Outcome State Fault Refusal :=
  match i with
  | .deviceReset => Sys2Proof.Machine.execDeviceReset s
  | .resetRelease adr br => Sys2Proof.Machine.execResetRelease adr br s
  | .selFall moves => Sys2Proof.Machine.execSelFall s moves
  | .selRise => Sys2Proof.Machine.execSelRise s
  | .status => Sys2Proof.Machine.execStatus s
  | .statusResponseEnd => Sys2Proof.Machine.execStatusResponseEnd s
  | .configure record => Sys2Proof.Machine.execConfigure record s
  | .start => Sys2Proof.Machine.execStart s
  | .read n => Sys2Proof.Machine.execRead n s
  | .recordConsumed => Sys2Proof.Machine.execRecordConsumed s
  | .peers => Sys2Proof.Machine.execPeers s
  | .inputs => Sys2Proof.Machine.execInputs s
  | .mark tag => Sys2Proof.Machine.execMark tag s
  | .rejoin => Sys2Proof.Machine.execRejoin s
  | .clearCounts => Sys2Proof.Machine.execClearCounts s
  | .badCommand byte => Sys2Proof.Machine.execBadCommand byte s
  | .pinChange input level => Sys2Proof.Machine.execPinChange input level s
  | .sampleTick => Sys2Proof.Machine.execSampleTick s
  | .holdoffExpiry input => Sys2Proof.Machine.execHoldoffExpiry input s
  | .chatterWindowExpiry input => Sys2Proof.Machine.execChatterWindowExpiry input s
  | .quietTimerExpiry input => Sys2Proof.Machine.execQuietTimerExpiry input s
  | .releaseTick => Sys2Proof.Machine.execReleaseTick s
  | .idleGap => Sys2Proof.Machine.execIdleGap s
  | .holdBackClear => Sys2Proof.Machine.execHoldBackClear s
  | .lineStuck => Sys2Proof.Machine.execLineStuck s
  | .helloReceived raw => Sys2Proof.Machine.execHelloReceived raw s
  | .timeReceived raw => Sys2Proof.Machine.execTimeReceived raw s
  | .eventReceived raw => Sys2Proof.Machine.execEventReceived raw s
  | .repairReqReceived raw => Sys2Proof.Machine.execRepairReqReceived raw s
  | .repairDataReceived raw => Sys2Proof.Machine.execRepairDataReceived raw s
  | .repairNoneReceived raw => Sys2Proof.Machine.execRepairNoneReceived raw s
  | .silenceExpiry peer => Sys2Proof.Machine.execSilenceExpiry peer s
  | .repairTimerExpiry peer => Sys2Proof.Machine.execRepairTimerExpiry peer s
  | .proxyDelayExpiry subject seq => Sys2Proof.Machine.execProxyDelayExpiry subject seq s
  | .roundEnd => Sys2Proof.Machine.execRoundEnd s
  | .slewTick => Sys2Proof.Machine.execSlewTick s
  | .joinTimerExpiry => Sys2Proof.Machine.execJoinTimerExpiry s
  | .frameBegin => Sys2Proof.Machine.execFrameBegin s
  | .arbitrationLoss => Sys2Proof.Machine.execArbitrationLoss s
  | .bitError => Sys2Proof.Machine.execBitError s
  | .frameComplete => Sys2Proof.Machine.execFrameComplete s
  | .startOfFrame levels => Sys2Proof.Machine.execStartOfFrame s levels
  | .arbitrationWon => Sys2Proof.Machine.execArbitrationWon s
  | .lineStuckClear => Sys2Proof.Machine.execLineStuckClear s
  | .framingFault byte => Sys2Proof.Machine.execFramingFault byte s
  | .bodyLengthAbove57 len => Sys2Proof.Machine.execBodyLengthAbove57 len s
  | .crcError raw => Sys2Proof.Machine.execCrcError raw s
  | .commandByte byte => Sys2Proof.Machine.execCommandByte byte s
  | .responseEnd => Sys2Proof.Machine.execResponseEnd s

end Sys2Proof.Machine
end

