-- ==== Sys2Proof/Safety.lean ====
section
/-! DEFINITION. What holds of the station at every step: one predicate per block, in the terms the
statements use. Each is decidable on a given state. -/

namespace Sys2Proof.Machine

open Sys2Proof

/-- R115, R168: the five fields of an input are within their values. -/
def InputConfig.inRange (c : InputConfig) : Prop :=
  c.holdoff ≤ 255 ∧ (c.chatterLimit = 0 ∨ (2 ≤ c.chatterLimit ∧ c.chatterLimit ≤ 15)) ∧
    1 ≤ c.chatterWindow ∧ c.chatterWindow ≤ 255

/-- R168: every field of the record is within its values. -/
def ConfigRecord.inRange (c : ConfigRecord) : Prop :=
  10 ≤ c.si ∧ c.si ≤ 1000 ∧ c.si % 10 = 0 ∧ 2 ≤ c.m ∧ c.m ≤ 8 ∧ 5 ≤ c.ri ∧ c.ri ≤ 255 ∧
    1 ≤ c.retries ∧ c.retries ≤ 7 ∧ c.lineDelay ≤ 255 ∧ 1 ≤ c.threshold ∧ c.threshold ≤ 64 ∧
    ∀ i : Fin 16, (c.inputs[i.val]).inRange

/-- R168, R169: the held configuration record is one the station accepts. -/
def State.ConfigKept (s : State) : Prop :=
  s.control.config.inRange

/-- R16, R17: the settling region is in key order and at or after H, and at most 512 records are
held. -/
def State.JournalKept (s : State) : Prop :=
  s.journal.settling.Pairwise (fun a b => keyLt b.record a.record = false) ∧
    (∀ h ∈ s.journal.settling, s.journal.horizon ≤ h.record.stamp) ∧
    s.journal.occupancy ≤ Config.journalCapacity

/-- R19: no two held network records have the same origin and sequence. -/
def State.NoDoubleRecord (s : State) : Prop :=
  (s.journal.settling ++ s.journal.released).Pairwise (fun a b =>
    ¬ (a.record.isNetwork = true ∧ b.record.isNetwork = true ∧ a.record.origin = b.record.origin ∧
      a.record.seq = b.record.seq))

/-- R130, R138: the Retained History and then the Outbound Queue hold consecutive sequences that end
just before the own next sequence; neither is over its size; captures are lost only while the queue is
full. The last clause says that an EVENT frame in flight carries at least one record (R134). -/
def State.QueueKept (s : State) : Prop :=
  (s.history ++ s.outbound.records).map (·.seq) =
      seqRange (s.outbound.nextSeq -
          BitVec.ofNat 16 (s.history.length + s.outbound.records.length))
        (s.history.length + s.outbound.records.length) ∧
    s.outbound.records.length ≤ Config.queueCapacity ∧
    s.history.length ≤ Config.historyCapacity ∧
    (s.outbound.lost ≠ 0 → s.outbound.records.length = Config.queueCapacity) ∧
    (∀ f ∈ s.line.prepared, f.source ≠ .event 0)

/-- R71: an entry has no more tries than the retries, fewer while it is due, and a timer of at most
RI. -/
def State.entryKept (s : State) (m : Missing) : Prop :=
  m.tries ≤ s.control.config.retries ∧
    (m.timer.isDue = true → m.tries < s.control.config.retries) ∧
    (match m.timer with
    | .due _ => True
    | .timing left => left ≤ s.repairInterval)

/-- R61, R71, R77: every missing set holds at most 8 entries, each within its limits; outside RUNNING
none is due, and in UNCONFIGURED there is none. -/
def State.RepairKept (s : State) : Prop :=
  1 ≤ s.control.config.retries ∧
    ∀ p : Station, (s.missing p).length ≤ Config.missingCapacity ∧
      (∀ m ∈ s.missing p, s.entryKept m) ∧
      (s.control.lifecycle ≠ .running → ∀ m ∈ s.missing p, m.timer.isDue = false) ∧
      (s.control.lifecycle = .unconfigured → s.missing p = [])

/-- R12, R71: a missing set holds no sequence twice, is in sequence order, oldest first, and every entry is
before the next sequence of its peer; without a next sequence it is empty. -/
def State.MissingOrdered (s : State) : Prop :=
  ∀ p : Station,
    (s.missing p).Pairwise (fun a b => seqAfter b.seq a.seq = true) ∧
      (∀ n ∈ (s.peer p).numbering, ∀ m ∈ s.missing p, seqAfter n.next m.seq = true) ∧
      ((s.peer p).numbering = none → s.missing p = [])

/-- R142 to R144, R147, R148, R151, R152, R160: a frame is prepared, and bits of it counted, exactly while the
station sends, it sends only in RUNNING and reads its own frame as echo, bits and bytes are held only
in RECEIVING, a stuck line leaves the receiver in WAIT, and while HELLO is owed the frame in flight is a
HELLO. With the transmitter FREE the line is driven only in RUNNING, outside IDLE, and after the bit of the
present bit time has been read. -/
def State.LineKept (s : State) : Prop :=
  (s.line.tx ≠ .free → s.control.lifecycle = .running ∧ s.inReset = false ∧
      s.line.rx = .receiving ∧ s.line.echo = true ∧ s.line.prepared.isSome = true) ∧
    (s.line.tx = .free → s.line.prepared = none ∧ s.line.sent = 0 ∧ s.line.misread = false) ∧
    (s.line.rx ≠ .receiving → s.line.bits = [] ∧ s.line.bytes = []) ∧ s.line.bits.length ≤ 10 ∧
    (s.line.stuck = true → s.line.rx = .waiting) ∧
    (s.line.helloOwed = true → s.control.lifecycle = .running ∧
      ∀ f ∈ s.line.prepared, f.source = .hello true ∨ f.source = .hello false) ∧
    (s.line.driving = true → s.line.tx = .free ∧ s.control.lifecycle = .running ∧
      s.inReset = false ∧ s.line.rx ≠ .idle ∧ s.bitRead = true) ∧
    (s.timebase.timeOwed = true → s.control.lifecycle = .running) ∧
    s.line.failures ≤ Config.failureLimit ∧
    (s.line.failures = Config.failureLimit → s.control.lifecycle = .quiet)

/-- R84, R86, R91: the answer lists are within their sizes and empty outside RUNNING, and every answer
has a frame left to send. -/
def State.AnswersKept (s : State) : Prop :=
  s.repair.originAnswers.length ≤ Config.originCapacity ∧
    s.repair.proxy.length ≤ Config.proxyCapacity ∧
    (∀ answer ∈ s.repair.originAnswers, answer ≠ []) ∧
    (s.control.lifecycle ≠ .running → s.repair.originAnswers = [] ∧ s.repair.proxy = [])

/-- R196, R197: IRQ is at the level its three conditions give. -/
def State.IrqKept (s : State) : Prop :=
  s.host.irq = s.irqLevel

/-- Chapter 5, table at its head, R96, R106, R110: the counts and the slew remainder are within their
ranges, the remainder is nonzero only in LOCKED, and rounds run exactly from START on. -/
def State.TimeKept (s : State) : Prop :=
  s.timebase.slewRemainder.natAbs ≤ s.control.config.si * 10 ∧
    (s.timebase.slewRemainder ≠ 0 → s.timebase.timeState = .locked) ∧
    s.timebase.lockRun < Config.lockRuns ∧ s.timebase.releaseRun < Config.releaseRuns ∧
    s.timebase.holdover < Config.holdoverLimit ∧
    (∀ p : Station, s.fresh p ≤ 2) ∧
    (s.control.lifecycle = .unconfigured ↔ s.timebase.roundTimer = none) ∧
    (s.control.lifecycle = .unconfigured →
      s.timebase.timeState = .free ∧ s.timebase.correction = 0)

/-- Chapter 6, R115 to R126: each timer of an input runs exactly in the state it belongs to, an open
window is within the chatter limit, an open candidate differs from the qualified level, and a DISABLED
input holds its reset values. -/
def State.inputKept (s : State) (i : Fin 16) : Prop :=
  ((s.input i).holdoffTimer.isSome = true ↔ (s.input i).state = .holdoff) ∧
    ((s.input i).holdoffRef.isSome = true ↔ (s.input i).state = .holdoff) ∧
    ((s.input i).quietTimer.isSome = true ↔ (s.input i).state = .suspended) ∧
    (∀ w ∈ (s.input i).window, 1 ≤ w.count ∧ w.count ≤ (s.inputConfig i).chatterLimit ∧
      ((s.input i).state = .armed ∨ (s.input i).state = .holdoff)) ∧
    (∀ c ∈ (s.input i).candidate, (s.inputConfig i).qualification = .qualified ∧
      c.level = !(s.input i).level) ∧
    ((s.input i).state = .disabled → s.input i = Input.reset) ∧
    (s.control.lifecycle = .unconfigured → (s.input i).state = .disabled) ∧
    (s.control.lifecycle ≠ .unconfigured →
      ((s.input i).state = .disabled ↔ (s.inputConfig i).mode = .off))

/-- Every input is as `inputKept` says. -/
def State.InputsKept (s : State) : Prop :=
  ∀ i : Fin 16, s.inputKept i

/-- R44, R45, R47, R71: SELF stands exactly at the own address, the silence timer runs exactly while
ACTIVE, an ABSENT entry holds its reset values, and only an ACTIVE or SILENT entry with a known next
sequence has missing entries. -/
def State.peerKept (s : State) (p : Station) : Prop :=
  ((s.peer p).state = .self ↔ s.own = some p) ∧
    ((s.peer p).silenceTimer.isSome = true ↔ (s.peer p).state = .active) ∧
    ((s.peer p).state = .absent → s.peer p = PeerEntry.reset) ∧
    ((s.peer p).state = .absent ∨ (s.peer p).state = .self ∨ (s.peer p).numbering = none →
      s.missing p = []) ∧
    (s.control.lifecycle = .unconfigured →
      (s.peer p).state = .absent ∨ (s.peer p).state = .self)

/-- Every entry is as `peerKept` says; while device reset is held no address is sampled, and with an
invalid address the station stays UNCONFIGURED (R167). -/
def State.PeersKept (s : State) : Prop :=
  (∀ p : Station, s.peerKept p) ∧ (s.inReset = true → s.own = none) ∧
    (s.own = none → s.control.lifecycle = .unconfigured)

/-- Chapter 9, R36, R180, R181: the parts of a transaction go together, fewer than eight bits and fewer
operand bytes than a whole record are held, the bit at SDO is the one of the present SCK cycle, and while
a record is sent the released region holds it and
fewer records than asked for have been delivered. -/
def State.HostKept (s : State) : Prop :=
  (s.host.txn ≠ .idle → s.selLow = true ∧ s.inReset = false) ∧
    (s.host.operandsOf.isSome = true ↔ s.host.txn = .operands) ∧
    (s.host.txn = .idle → s.host.taken = none) ∧
    (s.host.report.isSome = true →
      s.host.txn = .response ∧ s.host.taken = some .status) ∧
    (s.host.sending = true → s.host.txn = .response ∧ s.journal.released ≠ [] ∧
      (match s.host.taken with
      | some (.read n) => s.host.delivered < n.toNat ∧ n.toNat ≤ Config.readLimit
      | _ => False)) ∧
    s.host.delivered ≤ Config.readLimit ∧
    (s.host.txn = .idle ∨ s.host.txn = .command ∨ s.host.txn = .operands → s.host.delivered = 0) ∧
    (s.host.txn ≠ .response → s.host.response = []) ∧
    s.host.bits.length < 8 ∧ s.host.operands.length < 87 ∧
    (s.host.txn = .idle → s.host.bits = [] ∧ s.host.out = []) ∧
    (s.host.txn ≠ .idle → s.host.out.length =
      if s.wires.sck then (if s.host.bits = [] then 1 else 9 - s.host.bits.length)
      else 8 - s.host.bits.length) ∧
    (s.host.txn = .idle ∨ s.host.txn = .command ∨ s.host.txn = .operands → s.host.left = 0)

/-- Chapter 7 and R31, R110, R118: what is left to a tick is at most its period. -/
def State.TicksKept (s : State) : Prop :=
  s.ticks.release ≤ Config.releasePeriod ∧ s.ticks.slew ≤ Config.slewPeriod ∧
    s.ticks.sample ≤ Config.samplePeriod

/-! ### Frames: what a command may change -/

/-- The parts of State, block by block. -/
inductive Block where
  | inReset | pins | selLow | wires | medium | control | inputs | outbound | history | line | counters
  | timebase | ticks
  | peers | repair | journal | host | pending | choices
  deriving DecidableEq, Repr

/-- Two states agree in one block. -/
def State.sameIn (s t : State) : Block → Prop
  | .inReset => t.inReset = s.inReset
  | .pins => t.pins = s.pins
  | .selLow => t.selLow = s.selLow
  | .wires => t.wires = s.wires
  | .medium => t.medium = s.medium
  | .control => t.control = s.control
  | .inputs => t.inputs = s.inputs
  | .outbound => t.outbound = s.outbound
  | .history => t.history = s.history
  | .line => t.line = s.line
  | .counters => t.counters = s.counters
  | .timebase => t.timebase = s.timebase
  | .ticks => t.ticks = s.ticks
  | .peers => t.peers = s.peers
  | .repair => t.repair = s.repair
  | .journal => t.journal = s.journal
  | .host => t.host = s.host
  | .pending => t.pending = s.pending
  | .choices => t.choices = s.choices

/-- Every block outside the list is as it was. -/
def State.changesOnly (s t : State) (blocks : List Block) : Prop :=
  ∀ b : Block, b ∉ blocks → s.sameIn t b

/-- The blocks an offer to the journal may change: a drop and a LATE insertion count, and a drop sets
the DROP attention flag (R22, R23). -/
def offerBlocks : List Block := [.journal, .counters, .host]

/-- The blocks a received frame may change: the line and its counters, then a clash or the Peer Table
and the Repair Unit (R156, R161, R175). -/
def receptionBlocks : List Block :=
  [.line, .medium, .control, .timebase, .peers, .repair, .journal, .counters, .host]

/-- The blocks each command may change. IRQ is in the host block and may follow any of them. -/
def touches : Instr → List Block
  | .deviceReset => [.inReset, .control, .inputs, .outbound, .history, .line, .counters, .timebase,
      .ticks, .peers, .repair, .journal, .host]
  | .resetRelease _ _ => [.inReset, .control, .peers, .host]
  | .selFall _ => [.selLow, .wires, .host]
  | .selRise => [.selLow, .wires, .host]
  | .status => [.host]
  | .statusResponseEnd => [.host]
  | .configure _ => [.control, .host]
  | .start => [.control, .inputs, .timebase, .host]
  | .read _ => [.host]
  | .recordConsumed => offerBlocks
  | .peers => [.host]
  | .inputs => [.host]
  | .mark _ => .outbound :: offerBlocks
  | .rejoin => [.control, .line, .host]
  | .clearCounts => [.counters, .host]
  | .badCommand _ => [.host]
  | .pinChange _ _ => [.pins, .inputs, .outbound] ++ offerBlocks
  | .sampleTick => [.ticks, .choices, .inputs, .outbound] ++ offerBlocks
  | .holdoffExpiry _ => [.inputs, .outbound] ++ offerBlocks
  | .chatterWindowExpiry _ => [.inputs, .host]
  | .quietTimerExpiry _ => [.inputs, .outbound] ++ offerBlocks
  | .releaseTick => [.ticks, .journal, .host]
  | .idleGap => [.line, .medium, .counters, .host]
  | .holdBackClear => [.line, .host]
  | .lineStuck => [.line, .medium, .host]
  | .helloReceived _ => receptionBlocks
  | .timeReceived _ => receptionBlocks
  | .eventReceived _ => receptionBlocks
  | .repairReqReceived _ => receptionBlocks
  | .repairDataReceived _ => receptionBlocks
  | .repairNoneReceived _ => receptionBlocks
  | .silenceExpiry _ => .peers :: offerBlocks
  | .repairTimerExpiry _ => .repair :: offerBlocks
  | .proxyDelayExpiry _ _ => [.repair, .host]
  | .roundEnd => .timebase :: offerBlocks
  | .slewTick => [.ticks, .timebase, .host]
  | .joinTimerExpiry => [.control, .line, .host]
  | .frameBegin => [.line, .timebase, .repair, .host]
  | .arbitrationLoss => [.line, .medium, .counters, .host]
  | .bitError => [.line, .counters, .control, .timebase, .repair, .host]
  | .frameComplete => [.line, .control, .timebase, .repair, .outbound, .history] ++ offerBlocks
  | .startOfFrame _ => [.line, .medium, .timebase, .host]
  | .arbitrationWon => [.line, .host]
  | .lineStuckClear => [.line, .medium, .host]
  | .framingFault _ => [.line, .medium, .counters, .host]
  | .bodyLengthAbove57 _ => [.line, .medium, .counters, .host]
  | .crcError _ => [.line, .medium, .counters, .host]
  | .commandByte _ => [.control, .inputs, .timebase, .line, .counters, .host]
  | .responseEnd => [.host]

/-! ### What a frame of the line may carry -/

/-- R2, R159: a record that a frame can carry for an origin: of a network kind, made by that origin,
and with no LOSS count of 0. -/
def Record.onLine (origin : Fin 25) (r : Record) : Prop :=
  r.isNetwork = true ∧ r.origin = origin ∧ r.detail ≠ .loss 0

/-- R159, R203: a frame that a station at `sender` can send: SI in range, 1 to 8 different sequences,
1 to 4 records of the sender or of the subject. -/
def Frame.sendable (sender : Station) : Frame → Prop
  | .hello _ _ si => siInRange si = true
  | .time _ _ _ si _ => siInRange si = true
  | .repairReq _ _ seqs => 1 ≤ seqs.length ∧ seqs.length ≤ Config.frameSequences ∧ seqs.Nodup
  | .repairNone _ seqs => 1 ≤ seqs.length ∧ seqs.length ≤ Config.frameSequences ∧ seqs.Nodup
  | .repairData subject rs =>
    1 ≤ rs.length ∧ rs.length ≤ Config.frameRecords ∧ ∀ r ∈ rs, r.onLine (originOf subject)
  | .event rs => 1 ≤ rs.length ∧ rs.length ≤ Config.frameRecords ∧ ∀ r ∈ rs, r.onLine (originOf sender)

/-- R203: the whole frame of this arbitration byte, kind and body, with their length byte and CRC. -/
def wholeFrame (arb kind : Byte) (body : List Byte) : List Byte :=
  let head := arb :: kind :: BitVec.ofNat 8 body.length :: body
  head ++ bytes16 (crcOf head)

/-- R159, R168: an SI of these two bytes is not a multiple of 10 from 10 to 1000 ms. -/
def siFails (a b : Byte) : Bool :=
  let si := 256 * a.toNat + b.toNat
  si < 10 || 1000 < si || si % 10 != 0

/-- R159, R202: a flag that is neither 00h nor 01h. -/
def flagFails (b : Byte) : Bool := 1 < b.toNat

/-- R159: a subject origin of 0 or above 24. -/
def subjectFails (b : Byte) : Bool := b == 0x00 || 24 < b.toNat

/-- R159, R203: a sequence count of 0 or above 8, a length other than the one it gives, or a sequence named
twice. The count is the first byte. -/
def sequencesFail (bytes : List Byte) : Bool :=
  let n := (bytes.getD 0 0).toNat
  n == 0 || 8 < n || bytes.length != 1 + 2 * n ||
    (List.range n).any (fun i => (List.range i).any (fun j =>
      bytes.getD (1 + 2 * i) 0 == bytes.getD (1 + 2 * j) 0 &&
        bytes.getD (2 + 2 * i) 0 == bytes.getD (2 + 2 * j) 0))

/-- R159, R204: the line record that begins these bytes has a kind code other than 1 to 5, the quality code
3, or a LOSS count of 0. -/
def recordFails (bytes : List Byte) : Bool :=
  let first := (bytes.getD 0 0).toNat
  first % 16 == 0 || 5 < first % 16 || first / 16 % 4 == 3 ||
    (first % 16 == 4 && bytes.getD 9 0 == 0x00 && bytes.getD 10 0 == 0x00)

/-- R159, R203: these bytes are not 1 to 4 whole line records, or one of them fails. -/
def recordsFail (bytes : List Byte) : Bool :=
  !(bytes.length ∈ [14, 28, 42, 56]) ||
    (List.range (bytes.length / 14)).any (fun k => recordFails (bytes.drop (14 * k)))

/-- R159, R203: the arbitration byte or the kind byte fails: class, origin, kind, or the class of the kind. -/
def headerFails (arb kind : Byte) : Bool :=
  let cls := arb.toNat / 32
  2 < cls || arb.toNat % 32 == 0 || 24 < arb.toNat % 32 || kind == 0x00 || 6 < kind.toNat ||
    (cls != if kind.toNat ≤ 2 then 0 else if kind.toNat ≤ 5 then 1 else 2)

/-- R159, R202 to R204: the body fails, by its kind: the length, a flag, the SI, the time state, the subject,
the sequences or the records. -/
def bodyFails (kind : Byte) (body : List Byte) : Bool :=
  (kind == 0x01 && (body.length != 5 || flagFails (body.getD 2 0) ||
    siFails (body.getD 3 0) (body.getD 4 0))) ||
  (kind == 0x02 && (body.length != 17 || siFails (body.getD 14 0) (body.getD 15 0) ||
    2 < (body.getD 16 0).toNat)) ||
  (kind == 0x03 && (subjectFails (body.getD 0 0) || flagFails (body.getD 1 0) ||
    sequencesFail (body.drop 2))) ||
  (kind == 0x04 && (subjectFails (body.getD 0 0) || recordsFail (body.drop 1))) ||
  (kind == 0x05 && (subjectFails (body.getD 0 0) || sequencesFail (body.drop 1))) ||
  (kind == 0x06 && recordsFail body)

/-- R159: a content check of a whole frame fails. -/
def contentFails (arb kind : Byte) (body : List Byte) : Bool :=
  headerFails arb kind || bodyFails kind body

/-- R204: the bits of byte `j` of a line record of this kind code that its layout does not mark as zero. -/
def carriedBits (code j : Nat) : Byte :=
  if j = 0 then 0x3F
  else if j = 9 then
    (if code = 1 then 0x3F else if code = 2 then 0x0F else if code = 3 then 0x1F else 0xFF)
  else if (code = 4 ∧ 11 ≤ j) ∨ (code = 5 ∧ 12 ≤ j) then 0x00
  else 0xFF

/-- R202, R204: line records with the bits marked as zero, which a receiver does not examine, cleared. -/
def zeroedRecords (bytes : List Byte) : List Byte :=
  (List.range bytes.length).map (fun i =>
    bytes.getD i 0 &&& carriedBits ((bytes.getD (i - i % 14) 0).toNat % 16) (i % 14))

/-- R202 to R204: the body of a frame of this kind with the bits marked as zero cleared. -/
def zeroedBody (kind : Byte) (body : List Byte) : List Byte :=
  if kind = 0x06 then zeroedRecords body
  else if kind = 0x04 then body.take 1 ++ zeroedRecords (body.drop 1)
  else body

/-- R2, R14: every record of the Outbound Queue and of the Retained History is an own network record;
during device reset there is none. -/
def State.OwnRecordsKept (s : State) : Prop :=
  (∀ r ∈ s.history ++ s.outbound.records, r.onLine s.ownOrigin) ∧
    (s.inReset = true → s.history = [] ∧ s.outbound.records = [])

/-! ### The receiver -/

/-- The receiver reads a frame that another station sends (R143, R160). -/
def State.hears (s : State) : Prop :=
  s.inReset = false ∧ s.line.rx = .receiving ∧ s.line.tx = .free ∧ s.line.echo = false

/-- The rows that a whole frame can be, each with the frame's bytes (R156, R158). -/
def frameBytes : Instr → Option (List Byte)
  | .helloReceived raw => some raw
  | .timeReceived raw => some raw
  | .eventReceived raw => some raw
  | .repairReqReceived raw => some raw
  | .repairDataReceived raw => some raw
  | .repairNoneReceived raw => some raw
  | .crcError raw => some raw
  | _ => none

/-! ### The bytes of the host port -/

/-- R37, R181, R183, R186: which row a byte period of the transaction is, if it is one: a command byte, the
last operand byte of a command, or the last byte fixed so far of the response. -/
def HostPort.byteTells (h : HostPort) (byte : Byte) (row : Option Instr) : Prop :=
  (h.txn = .command →
    (byte = 0x01 → row = some .status) ∧ (byte = 0x03 → row = some .start) ∧
    (byte = 0x05 → row = some .peers) ∧ (byte = 0x06 → row = some .inputs) ∧
    (byte = 0x08 → row = some .rejoin) ∧ (byte = 0x09 → row = some .clearCounts) ∧
    (byte = 0x02 ∨ byte = 0x04 ∨ byte = 0x07 → row = some (.commandByte byte)) ∧
    (byte = 0x00 ∨ 0x0A ≤ byte.toNat → row = some (.badCommand byte))) ∧
  (h.txn = .operands →
    (h.operandsOf = some .read → row = some (.read byte)) ∧
    (h.operandsOf = some .mark → row = some (.mark byte)) ∧
    (h.operandsOf = some .configure →
      row = if h.operands.length = 86 then some (.configure (h.operands ++ [byte])) else none)) ∧
  (h.txn = .response →
    row = if h.left + 1 ≠ h.response.length then none
      else if h.taken = some .status then some .statusResponseEnd
      else if h.sending = true then some .recordConsumed
      else some .responseEnd) ∧
  (h.txn = .trailing → row = none)

/-! ### Effects that several commands share -/

/-- R96 to R98, R101: what every round end does besides its adjustment: freshness falls, the round number
rises, the round timer restarts, and in RUNNING TIME becomes owed. -/
def State.roundAdvances (s t : State) : Prop :=
  (∀ p, t.fresh p = s.fresh p - 1) ∧ t.timebase.round = s.timebase.round + 1 ∧
    t.timebase.roundTimer = some (s.control.config.si * 1000) ∧
    (t.timebase.timeOwed = true ↔ s.timebase.timeOwed = true ∨ s.control.lifecycle = .running) ∧
    t.timebase.localCounter = s.timebase.localCounter ∧
    t.timebase.sofCounter = s.timebase.sofCounter ∧
    s.changesOnly t [.timebase, .journal, .counters, .host]

/-- R175: what entry into QUIET does: the state and the cause, the join timer, the frame in flight, HELLO
and TIME owed, the answer lists, the try of every due entry, and the QUIET flag. -/
def State.quietened (s : State) (cause : QuietCause) (t : State) : Prop :=
  t.control = { s.control with lifecycle := .quiet, cause := cause, joinTimer := none } ∧
    t.line.tx = .free ∧ t.line.prepared = none ∧ t.line.driving = false ∧
    t.line.helloOwed = false ∧ t.line.holdBack = s.line.holdBack ∧ t.line.stuck = s.line.stuck ∧
    t.timebase = { s.timebase with timeOwed := false } ∧
    t.repair.originAnswers = [] ∧ t.repair.proxy = [] ∧
    (∀ p, t.missing p = (s.missing p).map (fun m =>
      if m.timer.isDue then
        { m with tries := m.tries + 1, timer := .timing (s.control.config.ri * 1000), heard := false }
      else m)) ∧
    t.host = { s.host with quietFlag := true, irq := true }

/-- R99, R143, R147: `s` after the station's own start of a frame: the receiver reads it as echo, the SOF is
recorded, the frame of a supplier is prepared, and the proxy list is `proxy`. -/
def State.sends (s : State) (proxy : List ProxyEntry) (source : Source) (frame : Frame) : State :=
  { s with
    line := { s.line with
      rx := .receiving, releasedRun := 0, drivenRun := 0, bitPhase := 0, bits := [], bytes := [],
      echo := true, tx := .arbitrating, prepared := some ⟨source, frame⟩, sent := 0,
      misread := false, driving := false }
    timebase := { s.timebase with sofCounter := s.timebase.localCounter }
    repair := { s.repair with proxy := proxy } }

/-- R15, R20 to R24, R29: `t` has the journal, the counters and the host port of `s`, but for IRQ, which
follows its conditions: what offers to the journal and horizon computations have made of `s`, and nothing
more. -/
def State.journaledIn (s t : State) : Prop :=
  t.journal = s.journal ∧ t.counters = s.counters ∧ t.host = { s.host with irq := t.host.irq }

/-- R46, R161: command `c` is a whole frame `f` of a peer at `p` that the receiver takes as valid and
passes on. -/
def State.takesValid (s : State) (c : Instr) (p : Station) (f : Frame) : Prop :=
  s.hears ∧ (∃ raw, frameBytes c = some raw ∧ c ≠ .crcError raw ∧ checkFrame raw = .valid p f) ∧
    c.wellFormed = true ∧ s.own ≠ some p ∧ (s.peer p).state ≠ .self ∧
    s.control.lifecycle ≠ .unconfigured

/-- R47: `s` after the sender at `p`, which was ACTIVE, has been heard, with the reception ended. -/
def State.heard (s : State) (p : Station) : State :=
  s.setPeer p { s.peer p with
    lastHeard := some s.now
    silenceTimer := some (s.control.config.m * s.control.config.si * 1000) }

end Sys2Proof.Machine
end

