-- ==== Sys2Proof/Certificates/Slice0/Obligations.lean ====
section
/-! DEFINITION. The statements for the provers. "Log n" is notes/assumptions/n.md. -/

open Sys2Proof Sys2Proof.Machine

/-! ### Steps, time and reset -/

/-- A step takes the command at the front of the queue and runs it on the state with the queue's rest. -/
def Obligations.StepRunsFrontCommand : Prop :=
  ∀ (c : Instr) (rest : List Instr) (s : State),
    step { s with pending := c :: rest } = exec c { s with pending := rest }

/-- R93, R94, R117, R141, R166, R180: with no command waiting, a step takes one of the station's own events
that are due into the queue or makes the host's next move of SCK, SDI or SEL, in a free order, or with
neither due lets a microsecond pass (the model's choice, logs 1, 3 and 14). Then the local counter and
network time advance by 1 modulo 2^48, and every running timer, repair timer and proxy delay, every chatter
window and every tick comes 1 nearer to its end; what is due already has been due 1 longer (log 10). The
line goes on by its bits, a microsecond for which the host moves none of its wires is over, and nothing else
changes. While device reset is held nothing counts. -/
def Obligations.IdleStepPassesTime : Prop :=
  (∀ s : State, s.pending = [] →
     (s.dueEvents = [] → s.moveDue = false → step s = .next s.microsecond) ∧
     (s.dueEvents ≠ [] ∨ s.moveDue = true →
       (∃ c ∈ s.dueEvents, step s = .next { s with pending := [c], choices := s.choices + 1 }) ∨
       (s.moveDue = true ∧ step s = .next { s.hostMove with choices := s.choices + 1 })) ∧
     (s.moveDue = true ↔ s.inReset = false ∧ ∃ m more, s.wires.coming = m :: more ∧ m ≠ .pause)) ∧
  (∀ s : State,
     (s.inReset = true → s.microsecond = s) ∧
     (s.inReset = false →
       s.microsecond.timebase = { s.timebase with
         localCounter := s.timebase.localCounter + 1,
         roundTimer := s.timebase.roundTimer.map (· - 1) } ∧
       s.microsecond.now = s.now + 1 ∧
       s.microsecond.control = { s.control with
         joinTimer := s.control.joinTimer.map (· - 1) } ∧
       s.microsecond.ticks = ⟨s.ticks.release - 1, s.ticks.slew - 1, s.ticks.sample - 1⟩ ∧
       (∀ p, s.microsecond.peer p = { s.peer p with
           silenceTimer := (s.peer p).silenceTimer.map (· - 1) } ∧
         (s.microsecond.missing p).length = (s.missing p).length ∧
         ∀ (k : Nat) (m : Missing), (s.missing p)[k]? = some m →
           (∀ age, m.timer = .due age →
             (s.microsecond.missing p)[k]? = some { m with timer := .due (age + 1) }) ∧
           (∀ left, m.timer = .timing left →
             (s.microsecond.missing p)[k]? = some { m with timer := .timing (left - 1) })) ∧
       (s.microsecond.repair.originAnswers = s.repair.originAnswers ∧
         s.microsecond.repair.proxy.length = s.repair.proxy.length ∧
         ∀ (k : Nat) (e : ProxyEntry), s.repair.proxy[k]? = some e →
           (∀ age, e.timer = .due age →
             s.microsecond.repair.proxy[k]? = some { e with timer := .due (age + 1) }) ∧
           (∀ left, e.timer = .timing left →
             s.microsecond.repair.proxy[k]? = some { e with timer := .timing (left - 1) })) ∧
       (∀ i, s.microsecond.input i = { s.input i with
           holdoffTimer := (s.input i).holdoffTimer.map (· - 1),
           window := (s.input i).window.map (fun w => ⟨w.count, w.left - 1⟩),
           quietTimer := (s.input i).quietTimer.map (· - 1),
           countTaken := false }) ∧
       (∀ more, s.wires.coming = .pause :: more →
         s.microsecond.wires = { s.wires with coming := more }) ∧
       ((∀ more, s.wires.coming ≠ .pause :: more) → s.microsecond.wires = s.wires) ∧
       s.changesOnly s.microsecond
         [.control, .inputs, .line, .wires, .medium, .timebase, .ticks, .peers, .repair]))

/-- R31, R50, R78, R86, R96, R110, R117, R118, R122, R124, R126, R172: which timed events of the station
are due, and when alone: those whose timer has run out, the ticks that fall, and the DIRECT inputs not yet
read at this count whose pin stands at another level. R143, R144, R149, R150, R152, R153, R155 to R157,
R159: what the bits read make due, and when alone: the start of a frame in IDLE, the idle gap once 12
released bit times are over and the end of hold-back once 24 are, the stuck line past 100 driven ones and
its first released bit, a byte whose stop bit reads driven, a body length above 57, of a frame whose
declared end is reached the one row that it is, and of this station's own frame the arbitration byte won
or lost, the bit error and the completion. R147, R148: a frame begins exactly when all conditions hold and
one of the six places has a frame (the model's form of these events, logs 1, 6 and 15). -/
def Obligations.EventsFallDueAtTheirTimes : Prop :=
  (∀ s : State, s.inReset = false →
     (.releaseTick ∈ s.dueEvents ↔ s.ticks.release = 0) ∧
     (.slewTick ∈ s.dueEvents ↔ s.ticks.slew = 0) ∧
     (.sampleTick ∈ s.dueEvents ↔ s.ticks.sample = 0) ∧
     (.roundEnd ∈ s.dueEvents ↔ s.timebase.roundTimer = some 0) ∧
     (.joinTimerExpiry ∈ s.dueEvents ↔
       s.control.lifecycle = .joining ∧ s.control.joinTimer = some 0) ∧
     (∀ i b, .pinChange i b ∈ s.dueEvents ↔ b = s.pin i ∧ (s.input i).state ≠ .disabled ∧
       (s.inputConfig i).qualification = .direct ∧ (s.input i).countTaken = false ∧
       (s.input i).level ≠ b) ∧
     (∀ i, .holdoffExpiry i ∈ s.dueEvents ↔
       (s.input i).state = .holdoff ∧ (s.input i).holdoffTimer = some 0) ∧
     (∀ i, .chatterWindowExpiry i ∈ s.dueEvents ↔ ∃ w, (s.input i).window = some w ∧ w.left = 0) ∧
     (∀ i, .quietTimerExpiry i ∈ s.dueEvents ↔
       (s.input i).state = .suspended ∧ (s.input i).quietTimer = some 0) ∧
     (∀ p, .silenceExpiry p ∈ s.dueEvents ↔
       (s.peer p).state = .active ∧ (s.peer p).silenceTimer = some 0) ∧
     (∀ p, .repairTimerExpiry p ∈ s.dueEvents ↔ ∃ m ∈ s.missing p, m.timer = .timing 0) ∧
     (∀ p q, .proxyDelayExpiry p q ∈ s.dueEvents ↔
       (⟨p, q, .timing 0⟩ : ProxyEntry) ∈ s.repair.proxy)) ∧
  (∀ s : State, s.inReset = false →
     (∀ levels, .startOfFrame levels ∈ s.dueEvents ↔
       s.line.rx = .idle ∧ s.medium.level = false ∧ levels = s.medium.coming) ∧
     (.idleGap ∈ s.dueEvents ↔ s.line.rx ≠ .idle ∧ s.line.tx = .free ∧ s.line.stuck = false ∧
       (12 < s.line.releasedRun ∨
         (12 = s.line.releasedRun ∧ s.line.bitPhase < s.control.bitRate.middle))) ∧
     (.holdBackClear ∈ s.dueEvents ↔ s.line.rx = .idle ∧ s.line.holdBack = true ∧
       (24 < s.line.releasedRun ∨
         (24 = s.line.releasedRun ∧ s.line.bitPhase < s.control.bitRate.middle))) ∧
     (.lineStuck ∈ s.dueEvents ↔
       s.line.tx = .free ∧ s.line.stuck = false ∧ 100 < s.line.drivenRun) ∧
     (.lineStuckClear ∈ s.dueEvents ↔ s.line.stuck = true ∧ 1 ≤ s.line.releasedRun) ∧
     (∀ b : Byte, .framingFault b ∈ s.dueEvents ↔ s.line.rx = .receiving ∧ s.line.tx = .free ∧
       s.line.bits.length = 10 ∧ s.line.bits.tail.take 8 = dataBits b) ∧
     (∀ len : Byte, .bodyLengthAbove57 len ∈ s.dueEvents ↔ s.line.rx = .receiving ∧
       s.line.tx = .free ∧ 57 < len.toNat ∧ ∃ a k, s.line.bytes = [a, k, len]) ∧
     (∀ c raw, frameBytes c = some raw → (c ∈ s.dueEvents ↔ s.line.rx = .receiving ∧
       s.line.tx = .free ∧ raw = s.line.bytes ∧ frameWhole raw = true ∧ c.wellFormed = true ∧
       (c = .crcError raw ↔ ∀ p f, checkFrame raw ≠ .valid p f))) ∧
     (.arbitrationWon ∈ s.dueEvents ↔
       s.line.tx = .arbitrating ∧ s.line.misread = false ∧ s.line.sent = 10) ∧
     (.arbitrationLoss ∈ s.dueEvents ↔ s.line.tx = .arbitrating ∧ s.line.misread = true) ∧
     (.bitError ∈ s.dueEvents ↔ s.line.tx = .sending ∧ s.line.misread = true) ∧
     (∀ f, s.line.prepared = some f → (.frameComplete ∈ s.dueEvents ↔ s.line.tx = .sending ∧
       s.line.misread = false ∧
       s.line.sent + 1 = 10 * (encodeFrame s.ownOrigin f.frame).length)) ∧
     (.frameBegin ∈ s.dueEvents ↔ s.line.tx = .free ∧ s.control.lifecycle = .running ∧
       s.line.rx = .idle ∧ s.line.stuck = false ∧
       (s.line.helloOwed = true ∨ s.timebase.timeOwed = true ∨
         (∃ f frames answers, s.repair.originAnswers = (f :: frames) :: answers) ∨
         (∃ e ∈ s.repair.proxy, e.timer.isDue = true ∧
           s.journal.lookup (originOf e.subject) e.seq ≠ none) ∨
         (∃ p, ∃ m ∈ s.missing p, m.timer.isDue = true) ∨
         (s.outbound.records ≠ [] ∧ s.line.holdBack = false))))

/-- R141 to R143, R149, R150: the line bit by bit. LTX is the bit of the frame being sent, and while the
transmitter is FREE released, but for the rest of the bit time of a last CRC bit that is driven; LRX is
driven when this station or another one drives. A bit time is 8, 4, 2 or 1 µs by the BR straps, and its bit
is read at its middle, at 1000 kbit/s at its end (log 6). Then the run of its level grows and the other one
ends, the receiver in RECEIVING takes it into its byte, ten bits from a driven start bit to a stop bit, and
the transmitter compares it with the bit sent. While the outside tells by rows what is read, a station that
is FREE reads no bit (log 6). -/
def Obligations.BitTimesReadTheLine : Prop :=
  ∀ (s t : State) (own level : Bool) (time middle : Nat), s.inReset = false → t = s.microsecond →
    ((s.control.bitRate = .kbit125 ∧ time = 8 ∧ middle = 4) ∨
      (s.control.bitRate = .kbit250 ∧ time = 4 ∧ middle = 2) ∨
      (s.control.bitRate = .kbit500 ∧ time = 2 ∧ middle = 1) ∨
      (s.control.bitRate = .kbit1000 ∧ time = 1 ∧ middle = 1)) →
    own = (if s.line.tx = .free then !s.line.driving else (lineBits ((s.line.prepared.map (fun f =>
      encodeFrame s.ownOrigin f.frame)).getD [])).getD
        (s.line.sent + (if s.line.misread then 1 else 0) - (if middle ≤ s.line.bitPhase then 1 else 0))
        true) →
    level = (own && s.medium.level) →
    s.ltx = own ∧ s.lrx = level ∧ s.control.bitRate.middle = middle ∧
    s.justRead = (if middle < time then middle else 0) ∧
    t.line.bitPhase = (if s.line.bitPhase + 1 < time then s.line.bitPhase + 1 else 0) ∧
    t.line.driving = (s.line.driving && decide (s.line.bitPhase + 1 < time)) ∧
    (s.line.bitPhase + 1 ≠ middle →
      t.line = { s.line with bitPhase := t.line.bitPhase, driving := t.line.driving }) ∧
    (s.line.bitPhase + 1 < time → t.medium = s.medium) ∧
    (s.medium.untold = true → s.line.tx = .free →
      t.line = { s.line with bitPhase := t.line.bitPhase, driving := t.line.driving } ∧
      t.medium = s.medium) ∧
    (s.medium.untold = false ∨ s.line.tx ≠ .free →
      (time ≤ s.line.bitPhase + 1 →
        (s.medium.coming = [] → t.medium = s.medium) ∧
        (∀ b more, s.medium.coming = b :: more →
          t.medium = { s.medium with level := b, coming := more })) ∧
      (s.line.bitPhase + 1 = middle →
        t.line = { s.line with
          bitPhase := t.line.bitPhase, driving := t.line.driving,
          releasedRun := if level then s.line.releasedRun + 1 else 0,
          drivenRun := if level then 0 else s.line.drivenRun + 1,
          bits := t.line.bits, bytes := t.line.bytes,
          sent := if s.line.tx ≠ .free ∧ level = own then s.line.sent + 1 else s.line.sent,
          misread := if s.line.tx ≠ .free ∧ level ≠ own then true else s.line.misread } ∧
        (s.line.rx ≠ .receiving ∨ 10 ≤ s.line.bits.length ∨ (s.line.bits = [] ∧ level = true) →
          t.line.bits = s.line.bits ∧ t.line.bytes = s.line.bytes) ∧
        (s.line.rx = .receiving → s.line.bits = [] → level = false →
          t.line.bits = [false] ∧ t.line.bytes = s.line.bytes) ∧
        (s.line.rx = .receiving → 1 ≤ s.line.bits.length → s.line.bits.length ≤ 9 →
          (s.line.bits.length < 9 ∨ level = false →
            t.line.bits = s.line.bits ++ [level] ∧ t.line.bytes = s.line.bytes) ∧
          (s.line.bits.length = 9 → level = true → t.line.bits = [] ∧
            ∃ b : Byte, t.line.bytes = s.line.bytes ++ [b] ∧ dataBits b = s.line.bits.tail))))

/-- R166 and the tables at the heads of chapters 2 to 9: the values after device reset, and every invariant
below holds then. The levels at the pins, on the host's wires and on the line, the address and the bit rate
before the release, and the recorded SOF are the model's (logs 4, 5 and 17) and are not stated; that no bit
of a frame is read or sent yet, and none of a byte of the host port, is the model's form of the tables
(log 17). -/
def Obligations.ResetValues : Prop :=
  State.reset.control.lifecycle = .unconfigured ∧ State.reset.control.cause = .noCause ∧
  State.reset.control.joinTimer = none ∧ State.reset.control.inForce = false ∧
  State.reset.control.restartPending = true ∧
  (State.reset.control.config.si = 100 ∧ State.reset.control.config.m = 3 ∧
    State.reset.control.config.ri = 20 ∧ State.reset.control.config.retries = 3 ∧
    State.reset.control.config.lineDelay = 0 ∧ State.reset.control.config.threshold = 1 ∧
    ∀ i, State.reset.inputConfig i = ⟨.off, .direct, 0, 0, 10⟩) ∧
  (∀ i, State.reset.input i = ⟨.disabled, false, none, 0, none, none, none, none, false⟩) ∧
  State.reset.outbound = ⟨[], 0, 0⟩ ∧ State.reset.history = [] ∧
  State.reset.line.rx = .waiting ∧ State.reset.line.releasedRun = 0 ∧
  State.reset.line.drivenRun = 0 ∧ State.reset.line.bits = [] ∧ State.reset.line.bytes = [] ∧
  State.reset.line.sent = 0 ∧ State.reset.line.misread = false ∧
  State.reset.line.driving = false ∧ State.reset.line.tx = .free ∧
  State.reset.line.prepared = none ∧ State.reset.line.helloOwed = false ∧
  State.reset.line.holdBack = false ∧ State.reset.line.failures = 0 ∧
  State.reset.line.stuck = false ∧
  State.reset.counters = ⟨0, 0, 0, 0, 0, 0, 0, 0⟩ ∧
  State.reset.timebase.localCounter = 0 ∧ State.reset.timebase.correction = 0 ∧
  State.reset.timebase.timeState = .free ∧ State.reset.timebase.roundTimer = none ∧
  State.reset.timebase.round = 0 ∧ State.reset.timebase.timeOwed = false ∧
  State.reset.timebase.slewRemainder = 0 ∧ State.reset.timebase.lockRun = 0 ∧
  State.reset.timebase.releaseRun = 0 ∧ State.reset.timebase.holdover = 0 ∧
  (∀ p, State.reset.fresh p = 0) ∧
  (∀ p, State.reset.peer p = ⟨.absent, none, 0, none, none, none, none, false⟩) ∧
  (∀ p, State.reset.missing p = []) ∧
  State.reset.repair.originAnswers = [] ∧ State.reset.repair.proxy = [] ∧
  State.reset.journal = ⟨[], [], 0, 0, 0, none, none⟩ ∧
  State.reset.host.txn = .idle ∧ State.reset.host.response = [] ∧ State.reset.host.taken = none ∧
  State.reset.host.bits = [] ∧ State.reset.host.out = [] ∧ State.reset.host.operands = [] ∧
  State.reset.host.left = 0 ∧
  State.reset.host.report = none ∧
  State.reset.host.delivered = 0 ∧ State.reset.host.quietFlag = false ∧
  State.reset.host.dropFlag = false ∧ State.reset.host.irq = false ∧
  (State.reset.ConfigKept ∧ State.reset.JournalKept ∧ State.reset.NoDoubleRecord ∧
    State.reset.QueueKept ∧ State.reset.OwnRecordsKept ∧ State.reset.RepairKept ∧
    State.reset.LineKept ∧ State.reset.AnswersKept ∧ State.reset.IrqKept ∧ State.reset.TimeKept ∧
    State.reset.InputsKept ∧ State.reset.PeersKept ∧ State.reset.HostKept ∧ State.reset.TicksKept ∧
    State.reset.MissingOrdered)

/-- R166, R167, R45, R2: DEVICE_RESET ends every operation and holds every item at its value after device
reset, but for the levels at the pins, on the host's wires and on the line, the waiting commands and the
count of free choices, which are not the station's to reset (logs 5 and 22). RESET_RELEASE, taken while
device reset is held, samples the ADR and BR straps and places SELF at a valid address; a strap change at
any other time has no effect (log 2). The own station is the one of the sampled address, 1 to 24, and the
origin of its records is that address. -/
def Obligations.DeviceResetAndRelease : Prop :=
  (∀ s : State, exec .deviceReset s = .next
     { State.reset with
       pins := s.pins, selLow := s.selLow, wires := s.wires, medium := s.medium,
       pending := s.pending, choices := s.choices }) ∧
  (∀ (adr : BitVec 5) (br : BitVec 2) (s : State),
     (s.inReset = false → exec (.resetRelease adr br) s = .next s) ∧
     (s.inReset = true → ∃ t, exec (.resetRelease adr br) s = .next t ∧
       t.inReset = false ∧ t.control.address = adr ∧
       t.control.bitRate = (if br = 0 then .kbit125 else if br = 1 then .kbit250
         else if br = 2 then .kbit500 else .kbit1000) ∧
       t.control = { s.control with address := adr, bitRate := t.control.bitRate } ∧
       (∀ p : Station, p.val + 1 = adr.toNat → t.peer p = { s.peer p with state := .self }) ∧
       (∀ p : Station, p.val + 1 ≠ adr.toNat → t.peer p = s.peer p) ∧
       (t.own.isSome = true ↔ 1 ≤ adr.toNat ∧ adr.toNat ≤ 24) ∧
       s.changesOnly t [.inReset, .control, .peers, .host])) ∧
  (∀ (s : State) (p : Station), (s.own = some p ↔ p.val + 1 = s.control.address.toNat) ∧
     (originOf p).val = p.val + 1 ∧ (s.own = some p → s.ownOrigin = originOf p))

/-! ### Invariants -/

/-- R16, R17, R19: the settling region stays in key order and at or after H, at most 512 records are
held, and never two network records with the same origin and sequence. -/
def Obligations.JournalStaysOrderedAndDistinct : Prop :=
  (∀ s t : State, s.JournalKept → step s = .next t → t.JournalKept) ∧
  (∀ s t : State, s.NoDoubleRecord → step s = .next t → t.NoDoubleRecord)

/-- R2, R14, R130, R138: Retained History and Outbound Queue hold consecutive sequences up to the own
next one, within 64 and 32 records, captures are lost only while the queue is full, and every record of
both is a network record with the own address as its origin. -/
def Obligations.QueueAndHistoryStayConsecutive : Prop :=
  (∀ s t : State, s.QueueKept → step s = .next t → t.QueueKept) ∧
  (∀ s t : State, s.OwnRecordsKept → s.LineKept → s.PeersKept → s.InputsKept →
     step s = .next t → t.OwnRecordsKept)

/-- R61, R71, R77, R84, R86, R91: missing sets stay within 8 entries, tries within the retries, timers
within RI, and outside RUNNING no entry is left due; the answer lists stay within 4 and 8, every answer
has a frame to send, and outside RUNNING both are empty. -/
def Obligations.RepairUnitStaysWithinLimits : Prop :=
  (∀ s t : State, s.RepairKept → step s = .next t → t.RepairKept) ∧
  (∀ s t : State, s.AnswersKept → step s = .next t → t.AnswersKept)

/-- R12, R61, R71, R72: no missing set holds a sequence twice, each is kept in sequence order, oldest first,
and every entry is before the next sequence of the Peer Table entry. The premise on the entries' distance
is needed because R12 orders sequences only within 32767 of one another, and one frame moves the next
sequence by at most 32 past an entry that stays. -/
def Obligations.MissingSetsStayInOrder : Prop :=
  ∀ s t : State, s.MissingOrdered → s.PeersKept →
    (∀ p n, (s.peer p).numbering = some n → ∀ m ∈ s.missing p,
      (n.next - m.seq).toNat + 32 ≤ 32767) →
    step s = .next t → t.MissingOrdered

/-- R144, R147, R148, R151: the station sends only in RUNNING and only a prepared frame, HELLO first,
with a stuck line the receiver is in WAIT, and 16 failures in a row mean QUIET. -/
def Obligations.LineControllerStaysConsistent : Prop :=
  ∀ s t : State, s.LineKept → step s = .next t → t.LineKept

/-- R196, R197: after every step IRQ is high exactly while a condition holds: from START on the released
count is at or above the threshold in force, or the QUIET flag is set, or the DROP flag is set. -/
def Obligations.IrqAlwaysAtItsLevel : Prop :=
  ∀ s t : State,
    (s.irqLevel = true ↔
      (s.control.inForce = true ∧ s.control.config.threshold ≤ s.journal.released.length) ∨
        s.host.quietFlag = true ∨ s.host.dropFlag = true) ∧
    ((s.host.irq = true ↔
      (s.control.inForce = true ∧ s.control.config.threshold ≤ s.journal.released.length) ∨
        s.host.quietFlag = true ∨ s.host.dropFlag = true) →
    step s = .next t →
    (t.host.irq = true ↔
      (t.control.inForce = true ∧ t.control.config.threshold ≤ t.journal.released.length) ∨
        t.host.quietFlag = true ∨ t.host.dropFlag = true))

/-- Chapter 5, R96, R110: the counts, the freshness and the slew remainder stay in their ranges, a
remainder is left only in LOCKED, and rounds run exactly from START on. -/
def Obligations.TimebaseStaysInRange : Prop :=
  ∀ s t : State, s.TimeKept → s.TicksKept → s.LineKept → step s = .next t →
    t.TimeKept ∧ t.TicksKept

/-- R115 to R126: each input's timers run exactly in their states, an open window is within the chatter
limit, an open candidate differs from the level, and OFF inputs stay DISABLED. -/
def Obligations.InputsStayConsistent : Prop :=
  ∀ s t : State, s.InputsKept → s.LineKept → step s = .next t → t.InputsKept

/-- R44, R45, R47, R71, R167: SELF stays at the own address alone, the silence timer runs exactly while
ACTIVE, only heard peers with a known next sequence have missing entries, and an invalid address keeps
the station UNCONFIGURED. -/
def Obligations.PeerTableStaysConsistent : Prop :=
  ∀ s t : State, s.PeersKept → s.LineKept → step s = .next t → t.PeersKept

/-- R36, R180, R181: the parts of a transaction stay together, fewer bits than a byte and fewer operand bytes
than a whole record are held, SDO has a bit for every SCK cycle of a byte, and while a record is sent the
released region holds it. -/
def Obligations.HostPortStaysConsistent : Prop :=
  ∀ s t : State, s.HostKept → step s = .next t → t.HostKept

/-! ### Whole-machine rules -/

/-- Every command changes only the blocks that `touches` lists for it, whatever the state. -/
def Obligations.CommandsChangeOnlyTheirBlocks : Prop :=
  ∀ (c : Instr) (s t : State), exec c s = .next t → s.changesOnly t (touches c)

/-- R1, R16, R18, R29, R37: between device resets the horizon never decreases, and no command takes a record
out of the journal, except that RECORD_CONSUMED takes the head of the released region; a held record keeps
its content and flags, and the released region only grows at its tail. -/
def Obligations.HorizonAndRecordsAreKept : Prop :=
  (∀ (c : Instr) (s t : State), c ≠ .deviceReset → exec c s = .next t →
     s.journal.horizon ≤ t.journal.horizon) ∧
  (∀ (c : Instr) (s t : State), c ≠ .deviceReset → exec c s = .next t →
     (c ≠ .recordConsumed → s.journal.released <+: t.journal.released) ∧
     (c = .recordConsumed → s.journal.released <+: t.journal.released ∨
       s.journal.released.tail <+: t.journal.released) ∧
     (∀ h ∈ s.journal.settling, h ∈ t.journal.settling ∨ h ∈ t.journal.released))

/-- R93, R94, R95, R110: network time is the local counter plus the correction modulo 2^48. No command but
DEVICE_RESET changes the local counter; only ROUND_END and SLEW_TICK move the correction, a SLEW_TICK by at
most 1, and a ROUND_END in LOCKED not at all; only ROUND_END changes the time state. -/
def Obligations.OnlyRoundEndsAndSlewMoveTime : Prop :=
  (∀ s : State, s.now = s.timebase.localCounter + s.timebase.correction) ∧
  ∀ (c : Instr) (s t : State), c ≠ .deviceReset → exec c s = .next t →
    t.timebase.localCounter = s.timebase.localCounter ∧
    (c ≠ .roundEnd → c ≠ .slewTick → t.timebase.correction = s.timebase.correction) ∧
    (c = .slewTick → t.timebase.correction = s.timebase.correction ∨
      t.timebase.correction = s.timebase.correction + 1 ∨
      t.timebase.correction = s.timebase.correction - 1) ∧
    (c = .roundEnd → s.timebase.timeState = .locked →
      t.timebase.correction = s.timebase.correction) ∧
    (c ≠ .roundEnd → t.timebase.timeState = s.timebase.timeState)

/-- R115, R167 to R170, R172, R174 to R178: the held configuration record always has every field within
its values. Outside device reset the straps hold, and once the station has left UNCONFIGURED nothing but
DEVICE_RESET changes the configuration record or takes it out of force. Only the named commands move the
life-cycle state, each only as listed. -/
def Obligations.StationKeepsItsSettings : Prop :=
  (∀ s t : State, s.ConfigKept → step s = .next t → t.ConfigKept) ∧
  (∀ (c : Instr) (s t : State), c ≠ .deviceReset → s.inReset = false → exec c s = .next t →
     t.control.address = s.control.address ∧ t.control.bitRate = s.control.bitRate ∧
     (s.control.lifecycle ≠ .unconfigured →
       t.control.config = s.control.config ∧ t.control.inForce = s.control.inForce)) ∧
  (∀ (c : Instr) (s t : State), exec c s = .next t →
     t.control.lifecycle ≠ s.control.lifecycle →
     (c = .deviceReset ∧ t.control.lifecycle = .unconfigured) ∨
     ((c = .start ∨ c = .commandByte 0x03) ∧ s.control.lifecycle = .unconfigured ∧
       t.control.lifecycle = .joining) ∨
     (c = .joinTimerExpiry ∧ s.control.lifecycle = .joining ∧ t.control.lifecycle = .running) ∨
     ((c = .rejoin ∨ c = .commandByte 0x08) ∧ s.control.lifecycle = .quiet ∧ t.control.lifecycle = .joining) ∨
     (c = .bitError ∧ t.control.lifecycle = .quiet ∧ t.control.cause = .lineFault) ∨
     ((frameBytes c).isSome = true ∧
       (s.control.lifecycle = .joining ∨ s.control.lifecycle = .running) ∧
       t.control.lifecycle = .quiet ∧ t.control.cause = .clash))

/-- R164, R186, R195, R196: the eight counters only rise, by 1 up to 65535, except that CLEAR_COUNTS, its
byte 09h too, and DEVICE_RESET zero them; an attention flag becomes clear only at the end of a STATUS
response whose report showed it set, or at DEVICE_RESET. -/
def Obligations.CountersAndFlagsClearOnlyAsNamed : Prop :=
  (∀ n : Count, (satInc n).toNat = min (n.toNat + 1) 65535) ∧
  (∀ (c : Instr) (s t : State), c ≠ .deviceReset → c ≠ .clearCounts →
     c ≠ .commandByte 0x09 → exec c s = .next t →
     s.counters.crcErrors ≤ t.counters.crcErrors ∧ s.counters.truncated ≤ t.counters.truncated ∧
     s.counters.formatErrors ≤ t.counters.formatErrors ∧
     s.counters.duplicates ≤ t.counters.duplicates ∧
     s.counters.bitErrors ≤ t.counters.bitErrors ∧
     s.counters.arbitrationLosses ≤ t.counters.arbitrationLosses ∧
     s.counters.journalDrops ≤ t.counters.journalDrops ∧
     s.counters.lateRecords ≤ t.counters.lateRecords) ∧
  (∀ (c : Instr) (s t : State), c ≠ .deviceReset → exec c s = .next t →
     (s.host.quietFlag = true → t.host.quietFlag = false →
       (c = .statusResponseEnd ∨ c = .responseEnd) ∧ s.host.taken = some .status ∧
         ∃ r, s.host.report = some r ∧ r.quietFlag = true) ∧
     (s.host.dropFlag = true → t.host.dropFlag = false →
       (c = .statusResponseEnd ∨ c = .responseEnd) ∧ s.host.taken = some .status ∧
         ∃ r, s.host.report = some r ∧ r.dropFlag = true))

/-! ### Formats, sequences and records -/

/-- R142, R145, R146, R202 to R205: every frame a station can send is read back whole by a receiver, bit by
bit and byte by byte, as the sender and the content it was made of, takes 9 to 62 bytes, as its length byte
says, of 10 bits each, and within it no run is longer than 9. A line record of a network kind takes 14
bytes. A host record of any kind takes 16: the origin, the byte of kind, quality, REPAIRED and LATE, the
sequence, the stamp and the detail, which for a network kind is the line record's and a zero. The codes are
those of R202: the kinds 1 to 10, of which 1 to 5 are the network kinds, the quality 0 to 2 and the GAP
cause 0 to 3. The detail bytes of each of the ten kinds are as R204 lists them, the ages of an OVERFLOW in
whole ms from 0 to 65535. A frame is its arbitration byte, class × 32 + origin, its kind, its length, its
body and its CRC, and the body of each kind is as R203 lists it. Fields of 2 and 6 bytes have their most
significant byte first. The CRC register is formed bit by bit, and over 31h to 39h it gives 29B1h. -/
def Obligations.FramesReadBackAsSent : Prop :=
  (∀ (sender : Station) (f : Frame), f.sendable sender →
     checkFrame (encodeFrame (originOf sender) f) = .valid sender f ∧
     frameWhole (encodeFrame (originOf sender) f) = true ∧
     9 ≤ (encodeFrame (originOf sender) f).length ∧
     (encodeFrame (originOf sender) f).length ≤ 62) ∧
  (∀ (bytes : List Byte) (l : LineControl), l.rx = .receiving → l.bits = [] →
     (lineBits bytes).length = 10 * bytes.length ∧
     (lineBits bytes).foldl LineControl.takeBit l = { l with bytes := l.bytes ++ bytes } ∧
     (l.releasedRun = 0 → l.drivenRun = 0 → ∀ k,
       (((lineBits bytes).take k).foldl LineControl.countRun l).releasedRun ≤ 9 ∧
       (((lineBits bytes).take k).foldl LineControl.countRun l).drivenRun ≤ 9)) ∧
  (∀ r : Record, r.isNetwork = true → (encodeLineRecord r).length = 14) ∧
  (∀ h : Held, (encodeHostRecord h).length = 16 ∧ ∃ (kind : Byte) (detail : List Byte),
     encodeHostRecord h = [BitVec.ofNat 8 h.record.origin.val, kind] ++ bytes16 h.record.seq ++
       bytes48 h.record.stamp ++ detail ∧
     kind.getLsbD 7 = h.late ∧ kind.getLsbD 6 = h.repaired ∧
     (kind.extractLsb' 4 2).toNat =
       (match h.record.quality with | .free => 0 | .acquire => 1 | .locked => 2) ∧
     (h.record.isNetwork = true ↔ (kind.extractLsb' 0 4).toNat ≤ 5) ∧
     (h.record.isNetwork = true →
       (encodeLineRecord h.record).drop 9 ++ [0x00] = detail ∧
       (encodeLineRecord h.record).head? = some (kind &&& 0x3F#8) ∧
       ((encodeLineRecord h.record).drop 1).take 8 =
         bytes16 h.record.seq ++ bytes48 h.record.stamp) ∧
     (∀ i level deferred count snap, h.record.detail = .edge i level deferred count snap →
       (kind.extractLsb' 0 4).toNat = 1 ∧
       ∃ b : Byte, detail = b :: bytes16 count ++ bytes16 snap ++ [0x00] ∧
         b.toNat = i.val + (if level then 16 else 0) + (if deferred then 32 else 0)) ∧
     (∀ i count snap, h.record.detail = .chatter i count snap →
       (kind.extractLsb' 0 4).toNat = 2 ∧
       detail = BitVec.ofNat 8 i.val :: bytes16 count ++ bytes16 snap ++ [0x00]) ∧
     (∀ i level count snap, h.record.detail = .resume i level count snap →
       (kind.extractLsb' 0 4).toNat = 3 ∧
       ∃ b : Byte, detail = b :: bytes16 count ++ bytes16 snap ++ [0x00] ∧
         b.toNat = i.val + (if level then 16 else 0)) ∧
     (∀ count, h.record.detail = .loss count →
       (kind.extractLsb' 0 4).toNat = 4 ∧ detail = bytes16 count ++ [0x00, 0x00, 0x00, 0x00]) ∧
     (∀ tag snap, h.record.detail = .mark tag snap →
       (kind.extractLsb' 0 4).toNat = 5 ∧ detail = tag :: bytes16 snap ++ [0x00, 0x00, 0x00]) ∧
     (∀ p first count cause, h.record.detail = .gap p first count cause →
       (kind.extractLsb' 0 4).toNat = 6 ∧
       detail = [BitVec.ofNat 8 (p.val + 1)] ++ bytes16 first ++ bytes16 count ++
         [(match cause with
           | .expired => 0x00 | .exhausted => 0x01 | .overrun => 0x02 | .restart => 0x03 : Byte)]) ∧
     (∀ p restart mismatch, h.record.detail = .peerUp p restart mismatch →
       (kind.extractLsb' 0 4).toNat = 7 ∧
       detail = [BitVec.ofNat 8 (p.val + 1), if restart then 0x01 else 0x00,
         if mismatch then 0x01 else 0x00, 0x00, 0x00, 0x00]) ∧
     (∀ p next, h.record.detail = .peerDown p next →
       (kind.extractLsb' 0 4).toNat = 8 ∧
       detail = [BitVec.ofNat 8 (p.val + 1), if next = none then 0x00 else 0x01] ++
         bytes16 (next.getD 0) ++ [0x00, 0x00]) ∧
     (∀ amount, h.record.detail = .timestep amount →
       (kind.extractLsb' 0 4).toNat = 9 ∧ detail = bytes48 amount) ∧
     (∀ count first last, h.record.detail = .overflow count first last →
       (kind.extractLsb' 0 4).toNat = 10 ∧
       ∃ a b : BitVec 16, detail = bytes16 count ++ bytes16 a ++ bytes16 b ∧
         (a.toNat : Int) = max 0 (min 65535 ((h.record.stamp - first).toInt.tdiv 1000)) ∧
         (b.toNat : Int) = max 0 (min 65535 ((h.record.stamp - last).toInt.tdiv 1000)))) ∧
  (∀ (sender : Station) (f : Frame), ∃ (arb kind : Byte) (cls : Nat) (body head : List Byte),
     head = [arb, kind, BitVec.ofNat 8 body.length] ++ body ∧
     encodeFrame (originOf sender) f = head ++ bytes16 (crcOf head) ∧
     arb.toNat = cls * 32 + (sender.val + 1) ∧
     (∀ next restart si, f = .hello next restart si → kind = 0x01 ∧ cls = 0 ∧
       body = bytes16 next ++ [if restart then 0x01 else 0x00] ++ bytes16 si) ∧
     (∀ now settled next si state, f = .time now settled next si state → kind = 0x02 ∧ cls = 0 ∧
       body = bytes48 now ++ bytes48 settled ++ bytes16 next ++ bytes16 si ++
         [(match state with | .free => 0x00 | .acquire => 0x01 | .locked => 0x02 : Byte)]) ∧
     (∀ p proxy seqs, f = .repairReq p proxy seqs → kind = 0x03 ∧ cls = 1 ∧
       body = [BitVec.ofNat 8 (p.val + 1), if proxy then 0x01 else 0x00,
         BitVec.ofNat 8 seqs.length] ++ seqs.flatMap bytes16) ∧
     (∀ p records, f = .repairData p records → kind = 0x04 ∧ cls = 1 ∧
       body = BitVec.ofNat 8 (p.val + 1) :: records.flatMap encodeLineRecord) ∧
     (∀ p seqs, f = .repairNone p seqs → kind = 0x05 ∧ cls = 1 ∧
       body = [BitVec.ofNat 8 (p.val + 1), BitVec.ofNat 8 seqs.length] ++ seqs.flatMap bytes16) ∧
     (∀ records, f = .event records → kind = 0x06 ∧ cls = 2 ∧
       body = records.flatMap encodeLineRecord)) ∧
  (∀ w : BitVec 16, (bytes16 w).length = 2 ∧
     (bytes16 w).foldl (fun n b => 256 * n + b.toNat) 0 = w.toNat) ∧
  (∀ w : BitVec 48, (bytes48 w).length = 6 ∧
     (bytes48 w).foldl (fun n b => 256 * n + b.toNat) 0 = w.toNat) ∧
  (∀ bytes : List Byte, crcOf bytes = (bytes.flatMap dataBits).foldl (fun (r : BitVec 16) b =>
     if r.msb = b then r <<< 1 else (r <<< 1) ^^^ 0x1021#16) 0xFFFF#16) ∧
  crcOf [0x31, 0x32, 0x33, 0x34, 0x35, 0x36, 0x37, 0x38, 0x39] = 0x29B1#16

/-- R12, whole: the relations of two sequences by their difference modulo 65536, and the sequences from
one up to another. -/
def Obligations.SequencesCompareModulo65536 : Prop :=
  (∀ a b : Seq, ((a - b).toNat = 0 ↔ a = b) ∧
    (seqAfter a b = true ↔ 1 ≤ (a - b).toNat ∧ (a - b).toNat ≤ 32767) ∧
    (seqBefore a b = true ↔ 32769 ≤ (a - b).toNat ∧ (a - b).toNat ≤ 65535) ∧
    (seqBefore a b = true ↔ seqAfter b a = true) ∧
    ((a - b).toNat = 32768 → seqAfter a b = false ∧ seqBefore a b = false)) ∧
  (∀ a b : Seq, (seqsUpTo a (b + 1)).length = (b + 1 - a).toNat ∧
    (∀ k, k < (b + 1 - a).toNat → (seqsUpTo a (b + 1))[k]? = some (a + BitVec.ofNat 16 k)) ∧
    (b = a - 1 → seqsUpTo a (b + 1) = []))

/-- R20 to R23, R13: the four tests of an offered record, in their order, with all that each leaves. A
record before H joins the tail of the released region with LATE and counts as a late record; any other joins
the settling region in key order: stamp, then origin, then sequence as a plain number. A drop counts in the
pending drops, the first and the latest drop time, the journal-drops counter and the DROP flag; the regions
and H stay. -/
def Obligations.OfferTakesFirstTestThatApplies : Prop :=
  (∀ (s : State) (r : Record) (repaired : Bool),
     (r.isNetwork = true →
       (∃ h ∈ s.journal.settling ++ s.journal.released, h.record.isNetwork = true ∧
         h.record.origin = r.origin ∧ h.record.seq = r.seq) → s.offer r repaired = s.dropRecord) ∧
     (512 ≤ s.journal.settling.length + s.journal.released.length →
       s.offer r repaired = s.dropRecord) ∧
     (s.journal.settling.length + s.journal.released.length < 512 →
       (r.isNetwork = true → ∀ h ∈ s.journal.settling ++ s.journal.released,
         ¬ (h.record.isNetwork = true ∧ h.record.origin = r.origin ∧ h.record.seq = r.seq)) →
       (r.stamp < s.journal.horizon → ∃ late : Count,
         late.toNat = min (s.counters.lateRecords.toNat + 1) 65535 ∧
         s.offer r repaired = { s with
           journal := { s.journal with
             released := s.journal.released ++ [⟨r, true, repaired⟩] }
           counters := { s.counters with lateRecords := late } }) ∧
       (s.journal.horizon ≤ r.stamp →
         ∃ before behind, s.journal.settling = before ++ behind ∧
           s.offer r repaired = { s with
             journal := { s.journal with
               settling := before ++ ⟨r, false, repaired⟩ :: behind } } ∧
           (∀ h ∈ before, keyLt r h.record = false) ∧
           (∀ h ∈ behind.head?, keyLt r h.record = true)))) ∧
  (∀ a b : Record, keyLt a b = true ↔ a.stamp < b.stamp ∨ (a.stamp = b.stamp ∧
     (a.origin < b.origin ∨ (a.origin = b.origin ∧ a.seq < b.seq)))) ∧
  (∀ s : State,
     s.dropRecord.journal.settling = s.journal.settling ∧
     s.dropRecord.journal.released = s.journal.released ∧
     s.dropRecord.journal.horizon = s.journal.horizon ∧
     s.dropRecord.journal.noteCounter = s.journal.noteCounter ∧
     s.dropRecord.journal.pendingDrops.toNat = min (s.journal.pendingDrops.toNat + 1) 65535 ∧
     (s.journal.pendingDrops = 0 → s.dropRecord.journal.firstDrop = some s.now) ∧
     (s.journal.pendingDrops ≠ 0 → s.dropRecord.journal.firstDrop = s.journal.firstDrop) ∧
     s.dropRecord.journal.lastDrop = some s.now ∧
     s.dropRecord.counters.journalDrops.toNat = min (s.counters.journalDrops.toNat + 1) 65535 ∧
     s.dropRecord.counters =
       { s.counters with journalDrops := s.dropRecord.counters.journalDrops } ∧
     s.dropRecord.host = { s.host with dropFlag := true } ∧
     s.changesOnly s.dropRecord [.journal, .counters, .host])

/-- R27, R28, R29, R32: the own term is network time less 200 µs, and 0 while network time is below 200. A
horizon computation takes the smallest of the own term and the CTs of the ACTIVE entries; a later one
becomes H and releases, in their order, the settling records before it, and any other changes nothing. -/
def Obligations.HorizonIsTheSmallestTerm : Prop :=
  (∀ (s : State) (now : Stamp), now = s.timebase.localCounter + s.timebase.correction →
    (now.toNat < 200 → s.ownTerm = 0) ∧ (200 ≤ now.toNat → s.ownTerm.toNat + 200 = now.toNat)) ∧
  ∀ s : State, ∃ m : Stamp,
    (m = s.ownTerm ∨ ∃ p, (s.peer p).state = .active ∧ (s.peer p).ct = m) ∧
    m ≤ s.ownTerm ∧ (∀ p, (s.peer p).state = .active → m ≤ (s.peer p).ct) ∧
    (m ≤ s.journal.horizon → s.computeHorizon = s) ∧
    (s.journal.horizon < m → s.computeHorizon = { s with journal := { s.journal with
      horizon := m
      released := s.journal.released ++
        s.journal.settling.filter (fun h => decide (h.record.stamp < m))
      settling := s.journal.settling.filter (fun h => !decide (h.record.stamp < m)) } })

/-- R103, whole: the adjustment of a list of candidate values: with 4 or more, one highest and one lowest
value go; the sum of the rest over their number, truncated toward zero. -/
def Obligations.AdjustmentIsTrimmedMean : Prop :=
  (∀ vs : List Int, vs ≠ [] → vs.length < 4 →
    adjustment vs = vs.sum.tdiv (vs.length : Int)) ∧
  (∀ vs : List Int, 4 ≤ vs.length → ∃ high low rest, vs.Perm (high :: low :: rest) ∧
    (∀ v ∈ vs, v ≤ high) ∧ (∀ v ∈ vs, low ≤ v) ∧
    adjustment vs = rest.sum.tdiv (rest.length : Int))

/-! ### The host port -/

/-- R180 to R183, R206: SEL falling begins a transaction, with SCK at rest and the first bit of a byte 00h
on SDO, but not during device reset, and SEL rising ends it in any state and discards the bits of a byte
period it cuts and the operand bytes of a command not taken. The row carries what the host then does with
its wires (log 14), the other edge cannot come (log 2), and that the progress of the transaction then
returns to the values after device reset is the model's reading (log 23). In COMMAND the bytes 02h, 04h and
07h read operands, 01h, 03h, 05h, 06h, 08h and 09h do what the rows of their commands do (log 8), and 00h
and 0Ah to FFh are taken with BAD_COMMAND (86h); elsewhere no command byte is read (log 2). SDO is at high
impedance in IDLE, carries the response in RESPONSE and 00h elsewhere. Nothing outside the transaction
changes. -/
def Obligations.TransactionsOpenTakeAndEnd : Prop :=
  (∀ (s : State) (moves : List HostMove), s.IrqKept →
     (s.selLow = false → s.inReset = false → exec (.selFall moves) s = .next { s with
       selLow := true
       wires := { s.wires with sck := false, coming := moves }
       host := { s.host with
         txn := .command, bits := [], out := dataBits 0x00, operands := [], left := 0 } }) ∧
     (s.selLow = false → s.inReset = true → exec (.selFall moves) s = .next { s with
       selLow := true, wires := { s.wires with sck := false, coming := moves } }) ∧
     (s.selLow = true → exec (.selFall moves) s = .next s) ∧
     (s.selLow = true → exec .selRise s = .next { s with
       selLow := false
       wires := { s.wires with coming := [] }
       host := { s.host with
         txn := .idle, bits := [], out := [], operands := [], left := 0, operandsOf := none,
         taken := none, response := [], report := none, sending := false, delivered := 0 } }) ∧
     (s.selLow = false → exec .selRise s = .next s)) ∧
  (∀ s : State, s.IrqKept →
     (s.inReset = false → s.host.txn = .command →
       exec (.commandByte 0x02) s = .next { s with
         host := { s.host with txn := .operands, operandsOf := some .configure } } ∧
       exec (.commandByte 0x04) s = .next { s with
         host := { s.host with txn := .operands, operandsOf := some .read } } ∧
       exec (.commandByte 0x07) s = .next { s with
         host := { s.host with txn := .operands, operandsOf := some .mark } } ∧
       exec (.commandByte 0x01) s = exec .status s ∧ exec (.commandByte 0x03) s = exec .start s ∧
       exec (.commandByte 0x05) s = exec .peers s ∧ exec (.commandByte 0x06) s = exec .inputs s ∧
       exec (.commandByte 0x08) s = exec .rejoin s ∧
       exec (.commandByte 0x09) s = exec .clearCounts s ∧
       ∀ b : Byte, b = 0x00 ∨ 0x0A ≤ b.toNat →
         exec (.commandByte b) s = exec (.badCommand b) s ∧
         exec (.badCommand b) s = .next { s with host := { s.host with
           txn := .response, operandsOf := none, taken := none, response := [0x86] } }) ∧
     (s.host.txn ≠ .command → ∀ b : Byte,
       exec (.commandByte b) s = .next s ∧ exec (.badCommand b) s = .next s)) ∧
  (∀ (s : State) (k : Nat),
     (s.host.txn = .idle → s.sdo k = none) ∧
     (s.host.txn = .response → s.sdo k = s.host.response[k]?) ∧
     (s.host.txn = .command ∨ s.host.txn = .operands ∨ s.host.txn = .trailing →
       s.sdo k = some 0x00))

/-- R180 to R183, R186, R189: the bytes of the host port. SDO is at high impedance in IDLE, and else carries
the first bit of the byte being sent that has not left. SDI is sampled at each rising edge of SCK: up to
seven bits are held, and with the eighth the byte they are, most significant first, is whole, and the row
that this byte period is comes next in the queue. At each falling edge SDO changes to the next bit, after
the eighth bit to the first one of the next byte, of the response or 00h. In IDLE, while SEL is high, SCK
and SDI are not read. A move that raises SEL is the row SEL_RISE. So the eight SCK cycles of a byte give the
station that byte, and SDO shows the eight bits of the byte sent, each before its rising edge. -/
def Obligations.HostWiresCarryBytePeriods : Prop :=
  (∀ s : State, s.sdoPin = if s.host.txn = .idle then none else s.host.out.head?) ∧
  (∀ (s : State) (sdi : Bool) (more : List HostMove), s.wires.coming = .rise sdi :: more →
     (s.wires.sck = true ∨ s.host.txn = .idle →
       s.hostMove = { s with wires := ⟨true, sdi, more⟩ }) ∧
     (s.wires.sck = false → s.host.txn ≠ .idle →
       (s.host.bits.length < 7 → s.hostMove = { s with
         wires := ⟨true, sdi, more⟩, host := { s.host with bits := s.host.bits ++ [sdi] } }) ∧
       (s.host.bits.length = 7 → ∃ (byte : Byte) (row : Option Instr),
         dataBits byte = s.host.bits ++ [sdi] ∧ s.host.byteTells byte row ∧
         s.hostMove = { s with
           wires := ⟨true, sdi, more⟩
           host := { s.host with
             bits := []
             operands := if s.host.txn = .operands ∧ row = none then s.host.operands ++ [byte]
               else []
             left := if s.host.txn = .response then s.host.left + 1 else s.host.left }
           pending := s.pending ++ row.toList }))) ∧
  (∀ (s : State) (more : List HostMove), s.wires.coming = .fall :: more →
     (s.wires.sck = false ∨ s.host.txn = .idle →
       s.hostMove = { s with wires := { s.wires with sck := false, coming := more } }) ∧
     (s.wires.sck = true → s.host.txn ≠ .idle → s.hostMove = { s with
       wires := { s.wires with sck := false, coming := more }
       host := { s.host with
         out := if s.host.bits ≠ [] then s.host.out.tail
           else if s.host.txn = .response then dataBits (s.host.response.getD s.host.left 0x00)
           else dataBits 0x00 } })) ∧
  (∀ (s : State) (more : List HostMove), s.wires.coming = .lift :: more →
     s.hostMove = { s with
       wires := { s.wires with coming := more }, pending := s.pending ++ [.selRise] }) ∧
  (∀ (s : State) (byte : Byte) (more : List HostMove), s.host.txn ≠ .idle → s.wires.sck = false →
     s.host.bits = [] →
     s.wires.coming = (dataBits byte).flatMap (fun b => [.rise b, .fall]) ++ more →
     (∀ k < 8, (State.hostMove^[2 * k] s).sdoPin = s.host.out[k]?) ∧
     ∃ row, s.host.byteTells byte row ∧
       (State.hostMove^[15] s).pending = s.pending ++ row.toList ∧
       (State.hostMove^[15] s).host.bits = [] ∧
       (State.hostMove^[15] s).wires.coming = .fall :: more)

/-- R185, R202, R206: STATUS is taken in every life-cycle state. It fixes its report, answers OK (80h) and
the 39 bytes of the report, the life-cycle state, QUIET cause and time state by their codes, and changes
nothing that it reports. R181, R186: the last byte of its response clears each attention flag that the
report showed set, and no other; the last byte of any response ends it. Either row is that byte (log 13),
and STATUS_RESPONSE_END is none of another command (log 2). -/
def Obligations.StatusReportsAndClearsShownFlags : Prop :=
  (∀ s : State, s.IrqKept → s.inReset = false → s.host.txn = .command →
    exec .status s = .next { s with host := { s.host with
      txn := .response
      operandsOf := none
      taken := some .status
      report := some
        { lifecycle := s.control.lifecycle, cause := s.control.cause,
          timeState := s.timebase.timeState,
          networkTime := s.timebase.localCounter + s.timebase.correction,
          horizon := s.journal.horizon, released := s.journal.released.length,
          settling := s.journal.settling.length, queued := s.outbound.records.length,
          lost := s.outbound.lost, stuck := s.line.stuck, quietFlag := s.host.quietFlag,
          dropFlag := s.host.dropFlag, counters := s.counters }
      response :=
        [(0x80 : Byte),
          (match s.control.lifecycle with
            | .unconfigured => 0x00 | .joining => 0x01 | .running => 0x02 | .quiet => 0x03 : Byte),
          (match s.control.cause with | .noCause => 0x00 | .clash => 0x01 | .lineFault => 0x02 : Byte),
          (match s.timebase.timeState with | .free => 0x00 | .acquire => 0x01 | .locked => 0x02 : Byte)] ++
        bytes48 (s.timebase.localCounter + s.timebase.correction) ++ bytes48 s.journal.horizon ++
        bytes16 (BitVec.ofNat 16 s.journal.released.length) ++
        bytes16 (BitVec.ofNat 16 s.journal.settling.length) ++
        [BitVec.ofNat 8 s.outbound.records.length] ++ bytes16 s.outbound.lost ++
        [BitVec.ofNat 8 ((if s.line.stuck then 1 else 0) + (if s.host.quietFlag then 2 else 0) +
          (if s.host.dropFlag then 4 else 0))] ++
        bytes16 s.counters.crcErrors ++ bytes16 s.counters.truncated ++
        bytes16 s.counters.formatErrors ++ bytes16 s.counters.duplicates ++
        bytes16 s.counters.bitErrors ++ bytes16 s.counters.arbitrationLosses ++
        bytes16 s.counters.journalDrops ++ bytes16 s.counters.lateRecords } }) ∧
  (∀ s : State, s.inReset = false → s.host.txn = .response → s.host.sending = false →
    (∀ r, s.host.taken = some .status → s.host.report = some r →
      ∀ c, c = .statusResponseEnd ∨ c = .responseEnd → ∃ t, exec c s = .next t ∧
        t.host = { s.host with
          txn := .trailing, response := [], report := none, irq := t.irqLevel,
          quietFlag := s.host.quietFlag && !r.quietFlag,
          dropFlag := s.host.dropFlag && !r.dropFlag } ∧
        s.changesOnly t [.host]) ∧
    (s.host.taken ≠ some .status → s.IrqKept →
      exec .statusResponseEnd s = .next s ∧
      exec .responseEnd s = .next { s with
        host := { s.host with txn := .trailing, response := [], report := none } }))

/-- R168, R169, R187, R207: CONFIGURE with its whole record, whose field of index k has the value `v k`: SI
from the first two bytes, every other field from one byte. In UNCONFIGURED a record whose fields are all
within their values replaces the held one, byte for field, with OK (80h); any other is refused whole with
BAD_VALUE (83h) and the index of its first bad field; after START it is REFUSED (82h) unchecked. -/
def Obligations.ConfigureTakesOrRefusesTheRecord : Prop :=
  ∀ (record : List Byte) (v : Nat → Nat) (ok : Nat → Prop) (s : State), s.inReset = false →
    s.host.txn = .operands → s.host.operandsOf = some .configure → record.length = 87 →
    v 0 = 256 * (record.getD 0 0).toNat + (record.getD 1 0).toNat →
    (∀ k, 1 ≤ k → k < 86 → v k = (record.getD (k + 1) 0).toNat) →
    (ok 0 ↔ 10 ≤ v 0 ∧ v 0 ≤ 1000 ∧ v 0 % 10 = 0) → (ok 1 ↔ 2 ≤ v 1 ∧ v 1 ≤ 8) →
    (ok 2 ↔ 5 ≤ v 2 ∧ v 2 ≤ 255) → (ok 3 ↔ 1 ≤ v 3 ∧ v 3 ≤ 7) → (ok 4 ↔ v 4 ≤ 255) →
    (ok 5 ↔ 1 ≤ v 5 ∧ v 5 ≤ 64) →
    (∀ i, i < 16 → (ok (6 + 5 * i) ↔ v (6 + 5 * i) ≤ 3) ∧ (ok (7 + 5 * i) ↔ v (7 + 5 * i) ≤ 1) ∧
      (ok (8 + 5 * i) ↔ v (8 + 5 * i) ≤ 255) ∧
      (ok (9 + 5 * i) ↔ v (9 + 5 * i) = 0 ∨ (2 ≤ v (9 + 5 * i) ∧ v (9 + 5 * i) ≤ 15)) ∧
      (ok (10 + 5 * i) ↔ 1 ≤ v (10 + 5 * i) ∧ v (10 + 5 * i) ≤ 255)) →
    (s.control.lifecycle = .unconfigured → (∀ k, k < 86 → ok k) →
      ∃ t, exec (.configure record) s = .next t ∧
        t.control = { s.control with config := t.control.config } ∧ t.control.config.inRange ∧
        t.control.config.si = 256 * (record.getD 0 0).toNat + (record.getD 1 0).toNat ∧
        t.control.config.m = (record.getD 2 0).toNat ∧
        t.control.config.ri = (record.getD 3 0).toNat ∧
        t.control.config.retries = (record.getD 4 0).toNat ∧
        t.control.config.lineDelay = (record.getD 5 0).toNat ∧
        t.control.config.threshold = (record.getD 6 0).toNat ∧
        (∀ i : Fin 16,
          (t.inputConfig i).holdoff = (record.getD (9 + 5 * i.val) 0).toNat ∧
          (t.inputConfig i).chatterLimit = (record.getD (10 + 5 * i.val) 0).toNat ∧
          (t.inputConfig i).chatterWindow = (record.getD (11 + 5 * i.val) 0).toNat ∧
          ((t.inputConfig i).mode = .off ↔ record.getD (7 + 5 * i.val) 0 = 0x00) ∧
          ((t.inputConfig i).mode = .rising ↔ record.getD (7 + 5 * i.val) 0 = 0x01) ∧
          ((t.inputConfig i).mode = .falling ↔ record.getD (7 + 5 * i.val) 0 = 0x02) ∧
          ((t.inputConfig i).mode = .both ↔ record.getD (7 + 5 * i.val) 0 = 0x03) ∧
          ((t.inputConfig i).qualification = .direct ↔ record.getD (8 + 5 * i.val) 0 = 0x00)) ∧
        t.host = { s.host with
          txn := .response, operandsOf := none, taken := some (.configure record),
          response := [0x80], irq := t.irqLevel } ∧
        s.changesOnly t [.control, .host]) ∧
    (s.IrqKept → s.control.lifecycle = .unconfigured →
      ∀ k, k < 86 → ¬ ok k → (∀ j, j < k → ok j) →
      exec (.configure record) s = .next { s with host := { s.host with
        txn := .response, operandsOf := none, taken := some (.configure record),
        response := [0x83, BitVec.ofNat 8 k] } }) ∧
    (s.IrqKept → s.control.lifecycle ≠ .unconfigured →
      exec (.configure record) s = .next { s with host := { s.host with
        txn := .response, operandsOf := none, taken := some (.configure record),
        response := [0x82] } })

/-- R116, R170, R188: START. With a valid address in UNCONFIGURED it puts the record in force, arms each
input whose edge mode is not OFF at its pin level, begins round 0, starts the join timer at 2 SI and
makes JOINING, with OK; with an invalid address it is BAD_ADDRESS (84h), and after START REFUSED (82h).
R177, R194, R195: REJOIN in QUIET clears the cause, the failure count and hold-back, starts the join timer
at 2 SI and makes JOINING, with OK (80h); elsewhere it is REFUSED (82h). CLEAR_COUNTS zeroes the eight
counters, with OK. Neither changes anything else. -/
def Obligations.StartRejoinAndClearCounts : Prop :=
  (∀ s : State, s.inReset = false → s.host.txn = .command →
    (s.control.lifecycle = .unconfigured →
      1 ≤ s.control.address.toNat → s.control.address.toNat ≤ 24 →
      ∃ t, exec .start s = .next t ∧
        t.control = { s.control with
          inForce := true, lifecycle := .joining,
          joinTimer := some (2 * s.control.config.si * 1000) } ∧
        t.timebase = { s.timebase with
          round := 0, roundTimer := some (s.control.config.si * 1000) } ∧
        (∀ i, t.input i = if (s.inputConfig i).mode = .off
          then ⟨.disabled, false, none, 0, none, none, none, none, false⟩
          else ⟨.armed, s.pin i, none, 0, none, none, none, none, false⟩) ∧
        t.host = { s.host with
          txn := .response, operandsOf := none, taken := some .start, response := [0x80],
          irq := t.irqLevel } ∧
        s.changesOnly t [.control, .inputs, .timebase, .host]) ∧
    (s.IrqKept → s.control.lifecycle = .unconfigured →
      s.control.address.toNat = 0 ∨ 25 ≤ s.control.address.toNat →
      exec .start s = .next { s with host := { s.host with
        txn := .response, operandsOf := none, taken := some .start, response := [0x84] } }) ∧
    (s.IrqKept → s.control.lifecycle ≠ .unconfigured →
      exec .start s = .next { s with host := { s.host with
        txn := .response, operandsOf := none, taken := some .start, response := [0x82] } })) ∧
  (∀ s : State, s.IrqKept → s.inReset = false → s.host.txn = .command →
    (s.control.lifecycle = .quiet → exec .rejoin s = .next { s with
      control := { s.control with
        cause := .noCause, lifecycle := .joining,
        joinTimer := some (2 * s.control.config.si * 1000) }
      line := { s.line with failures := 0, holdBack := false }
      host := { s.host with
        txn := .response, operandsOf := none, taken := some .rejoin, response := [0x80] } }) ∧
    (s.control.lifecycle ≠ .quiet → exec .rejoin s = .next { s with host := { s.host with
        txn := .response, operandsOf := none, taken := some .rejoin, response := [0x82] } }) ∧
    exec .clearCounts s = .next { s with
      counters := ⟨0, 0, 0, 0, 0, 0, 0, 0⟩
      host := { s.host with
        txn := .response, operandsOf := none, taken := some .clearCounts, response := [0x80] } })

/-- R36, R189: READ at its taking. A count of 0 or above 16 is BAD_VALUE (83h) with index 0, an empty
released region EMPTY (81h), and otherwise OK (80h) and the host record at the head follow. No record is
consumed yet. -/
def Obligations.ReadShowsTheHead : Prop :=
  ∀ (n : Byte) (s : State), s.IrqKept → s.inReset = false → s.host.txn = .operands →
    s.host.operandsOf = some .read →
    (n.toNat = 0 ∨ 17 ≤ n.toNat → exec (.read n) s = .next { s with host := { s.host with
      txn := .response, operandsOf := none, taken := some (.read n), response := [0x83, 0x00] } }) ∧
    (1 ≤ n.toNat → n.toNat ≤ 16 → s.journal.released = [] →
      exec (.read n) s = .next { s with host := { s.host with
        txn := .response, operandsOf := none, taken := some (.read n), response := [0x81] } }) ∧
    (1 ≤ n.toNat → n.toNat ≤ 16 → ∀ h rest, s.journal.released = h :: rest →
      exec (.read n) s = .next { s with host := { s.host with
        txn := .response, operandsOf := none, taken := some (.read n),
        response := 0x80 :: encodeHostRecord h, sending := true, delivered := 0 } })

/-- R37, R39, R189: RECORD_CONSUMED takes the head of the released region. With drops pending it makes
one OVERFLOW note of them, numbered and stamped now, and clears them. Then the continuation byte is 01h
and the next record follows, or 00h. -/
def Obligations.ConsumptionTakesTheHead : Prop :=
  ∀ (n : Byte) (s : State) (h : Held) (rest : List Held), s.inReset = false →
    s.host.txn = .response → s.host.taken = some (.read n) → s.host.sending = true →
    s.journal.released = h :: rest → s.journal.settling.length + s.journal.released.length ≤ 512 →
    ∃ t, exec .recordConsumed s = .next t ∧
      (s.journal.pendingDrops = 0 → t.journal = { s.journal with released := rest } ∧
        t.counters = s.counters) ∧
      (s.journal.pendingDrops ≠ 0 →
        t.journal.noteCounter = s.journal.noteCounter + 1 ∧ t.journal.pendingDrops = 0 ∧
        t.journal.firstDrop = none ∧ t.journal.lastDrop = none ∧
        t.journal.horizon = s.journal.horizon ∧
        ∃ note : Record, note.origin = 0 ∧ note.seq = s.journal.noteCounter ∧ note.stamp = s.now ∧
          note.quality = s.timebase.timeState ∧
          note.detail = .overflow s.journal.pendingDrops (s.journal.firstDrop.getD 0)
            (s.journal.lastDrop.getD 0) ∧
          (s.journal.horizon ≤ s.now → t.journal.released = rest ∧
            t.journal.settling.Perm (⟨note, false, false⟩ :: s.journal.settling) ∧
            t.counters = s.counters) ∧
          (s.now < s.journal.horizon → t.journal.released = rest ++ [⟨note, true, false⟩] ∧
            t.journal.settling = s.journal.settling)) ∧
      (∀ next more, t.journal.released = next :: more → s.host.delivered + 1 < n.toNat →
        t.host.response = s.host.response ++ [0x01] ++ encodeHostRecord next ∧
        t.host.sending = true) ∧
      (t.journal.released = [] ∨ n.toNat ≤ s.host.delivered + 1 →
        t.host.response = s.host.response ++ [0x00] ∧ t.host.sending = false) ∧
      t.host = { s.host with
        response := t.host.response, sending := t.host.sending,
        delivered := s.host.delivered + 1, irq := t.irqLevel } ∧
      s.changesOnly t [.journal, .counters, .host]

/-- R129, R191, R192, R202, R206: PEERS and INPUTS answer OK (80h) with 24 rows of 26 bytes and 16 rows of 4
bytes, each row from its entry or input, with the codes of its state and of its time state, and change
nothing else. An ABSENT row and a DISABLED row are zeros. -/
def Obligations.ReportsShowEveryRow : Prop :=
  ∀ s : State, s.IrqKept → s.inReset = false → s.host.txn = .command →
    (∃ rows, exec .peers s = .next { s with host := { s.host with
        txn := .response, operandsOf := none, taken := some .peers, response := 0x80 :: rows } } ∧
      rows.length = 624 ∧
      ∀ p : Station, (rows.drop (26 * p.val)).take 26 = s.peerRow p ∧
        ((s.peer p).state = .absent → s.peerRow p = List.replicate 26 0x00) ∧
        ((s.peer p).state = .self → s.peerRow p =
          [(0x03 : Byte), 0x07] ++ bytes16 s.outbound.nextSeq ++ [0x00] ++ bytes48 s.ownTerm ++
            List.replicate 6 0x00 ++ bytes16 s.timebase.round ++
            [(if s.timebase.timeState = .free then 0x00
              else if s.timebase.timeState = .acquire then 0x01 else 0x02 : Byte)] ++
            List.replicate 6 0x00) ∧
        ((s.peer p).state = .active ∨ (s.peer p).state = .silent → s.peerRow p =
          [(if (s.peer p).state = .active then 0x01 else 0x02 : Byte), BitVec.ofNat 8
            ((if (s.peer p).numbering.isSome then 1 else 0) +
              (if (s.peer p).offset.isSome then 2 else 0) +
              (if (s.peer p).timeState.isSome then 4 else 0) +
              (if (s.peer p).lastHeard.isSome then 8 else 0) +
              (if (s.peer p).mismatch then 16 else 0))] ++
            bytes16 (((s.peer p).numbering.map (·.next)).getD 0) ++
            [BitVec.ofNat 8 (s.missing p).length] ++ bytes48 (s.peer p).ct ++
            bytes48 (((s.peer p).offset.map (·.value)).getD 0) ++
            bytes16 (((s.peer p).offset.map (·.round)).getD 0) ++
            [(((s.peer p).timeState.map (fun x =>
              (if x = .free then 0x00 else if x = .acquire then 0x01 else 0x02 : Byte))).getD 0x00)] ++
            bytes48 ((s.peer p).lastHeard.getD 0))) ∧
    (∃ rows, exec .inputs s = .next { s with host := { s.host with
        txn := .response, operandsOf := none, taken := some .inputs, response := 0x80 :: rows } } ∧
      rows.length = 64 ∧
      ∀ i : Fin 16, (rows.drop (4 * i.val)).take 4 =
        if (s.input i).state = .disabled then [0x00, 0x00, 0x00, 0x00]
        else [(if (s.input i).state = .armed then 0x01 else if (s.input i).state = .holdoff then 0x02
            else 0x03 : Byte), if (s.input i).level then 0x01 else 0x00] ++
          bytes16 (s.input i).edgeCount)

/-- R4, R7, R135, R193: MARK. With room in the Outbound Queue the MARK record, stamped now with the
present snapshot, takes the own next sequence, is appended and offered, and the answer is OK (80h) with
that sequence; with 32 records queued it is QUEUE_FULL (85h), and in UNCONFIGURED REFUSED (82h), and
makes no record. Bit i of a snapshot is the qualified level of input i, and 0 for a DISABLED input. -/
def Obligations.MarkAppendsARecord : Prop :=
  (∀ (tag : Byte) (s : State), s.inReset = false → s.host.txn = .operands →
     s.host.operandsOf = some .mark →
     (s.IrqKept → s.control.lifecycle = .unconfigured →
       exec (.mark tag) s = .next { s with host := { s.host with
         txn := .response, operandsOf := none, taken := some (.mark tag), response := [0x82] } }) ∧
     (s.IrqKept → s.control.lifecycle ≠ .unconfigured → 32 ≤ s.outbound.records.length →
       exec (.mark tag) s = .next { s with host := { s.host with
         txn := .response, operandsOf := none, taken := some (.mark tag), response := [0x85] } }) ∧
     (s.control.lifecycle ≠ .unconfigured → s.outbound.records.length < 32 →
       ∃ t r, exec (.mark tag) s = .next t ∧
         r = { origin := s.ownOrigin, seq := s.outbound.nextSeq, stamp := s.now,
               quality := s.timebase.timeState, detail := .mark tag s.snapshot : Record } ∧
         t.outbound = { s.outbound with
           records := s.outbound.records ++ [r], nextSeq := s.outbound.nextSeq + 1 } ∧
         t.journal = (s.offer r false).journal ∧ t.counters = (s.offer r false).counters ∧
         t.host = { s.host with
           txn := .response, operandsOf := none, taken := some (.mark tag),
           response := 0x80 :: bytes16 s.outbound.nextSeq,
           dropFlag := (s.offer r false).host.dropFlag, irq := t.irqLevel } ∧
         s.changesOnly t [.outbound, .journal, .counters, .host])) ∧
  (∀ (s : State) (i : Fin 16),
     s.snapshot.getLsbD i.val = (decide ((s.input i).state ≠ .disabled) && (s.input i).level))

/-! ### Field inputs and the Outbound Queue -/

/-- R4, R115, R117, R119, R121, R122, R131, R132: bit i of the pins is the level at input i, and a snapshot
at a transition has the new level there. On an ARMED DIRECT input whose pin stands at a level that its
edge mode reports and that differs from the qualified one, within the chatter limit, the count that reads
it makes an EDGE, raises the edge count, opens the chatter window or counts in it, and with a hold-off
above 0 starts it. The record is appended and offered, or refused and counted when 32 are queued. One count
reads the pin once (log 15). -/
def Obligations.DirectEdgeIsRecorded : Prop :=
  (∀ (s : State) (i : Fin 16), s.pin i = s.pins.getLsbD i.val) ∧
  (∀ (w : Line16) (i j : Fin 16) (b : Bool),
    (withBit w i.val b).getLsbD j.val = if j = i then b else w.getLsbD j.val) ∧
  ∀ (i : Fin 16) (b : Bool) (s : State), s.inReset = false → s.pin i = b →
    (s.input i).countTaken = false → (s.input i).state = .armed →
    (s.inputConfig i).qualification = .direct → (s.input i).level ≠ b →
    ((s.inputConfig i).mode = .both ∨ ((s.inputConfig i).mode = .rising ∧ b = true) ∨
      ((s.inputConfig i).mode = .falling ∧ b = false)) →
    ((s.inputConfig i).chatterLimit = 0 ∨ ((s.input i).window = none ∧
        1 ≤ (s.inputConfig i).chatterLimit) ∨
      ∃ w, (s.input i).window = some w ∧ w.count + 1 ≤ (s.inputConfig i).chatterLimit) →
    ∃ t r, exec (.pinChange i b) s = .next t ∧
      r = { origin := s.ownOrigin, seq := s.outbound.nextSeq, stamp := s.now,
            quality := s.timebase.timeState,
            detail := .edge i b false ((s.input i).edgeCount + 1)
              (withBit s.snapshot i.val b) : Record } ∧
      ((s.inputConfig i).chatterLimit = 0 → (t.input i).window = (s.input i).window) ∧
      ((s.inputConfig i).chatterLimit ≠ 0 → (s.input i).window = none →
        (t.input i).window = some ⟨1, (s.inputConfig i).chatterWindow * 10000⟩) ∧
      (∀ w, (s.inputConfig i).chatterLimit ≠ 0 → (s.input i).window = some w →
        (t.input i).window = some ⟨w.count + 1, w.left⟩) ∧
      ((s.inputConfig i).holdoff = 0 → t.input i = { s.input i with
        level := b, edgeCount := (s.input i).edgeCount + 1, window := (t.input i).window,
        countTaken := true }) ∧
      ((s.inputConfig i).holdoff ≠ 0 → t.input i = { s.input i with
        state := .holdoff, level := b, edgeCount := (s.input i).edgeCount + 1,
        holdoffRef := some b, holdoffTimer := some ((s.inputConfig i).holdoff * 100),
        window := (t.input i).window, countTaken := true }) ∧
      (∀ j, j ≠ i → t.input j = s.input j) ∧
      (s.outbound.records.length < 32 →
        t.outbound = { s.outbound with
          records := s.outbound.records ++ [r], nextSeq := s.outbound.nextSeq + 1 } ∧
        (s.offer r false).journaledIn t) ∧
      (32 ≤ s.outbound.records.length →
        t.outbound = { s.outbound with lost := satInc s.outbound.lost } ∧
        s.journaledIn t) ∧
      s.changesOnly t [.inputs, .outbound, .journal, .counters, .host]

/-- R116, R117, R119, R121 to R123, R125, R126: the other cases of a pin. Where the pin changes, only its
level does; it is read at the count. A count reads nothing of a DISABLED or QUALIFIED input, of one already
at its level, or when it has made a transition already, so that one count makes at most one (log 15). The
transition that brings the chatter count above the limit makes a CHATTER and no EDGE: hold-off and window
end, the quiet timer starts and the input is SUSPENDED, whether or not the queue takes the record. Without
a record, a SUSPENDED input counts and restarts its quiet timer; an input in HOLDOFF, or ARMED at a level it
does not report, counts, in its chatter window too. -/
def Obligations.OtherPinChanges : Prop :=
  (∀ (i : Fin 16) (b : Bool) (s : State) (w : ChatterWindow),
     s.inReset = false → s.pin i = b → (s.input i).countTaken = false →
     (s.input i).state = .armed ∨ (s.input i).state = .holdoff →
     (s.inputConfig i).qualification = .direct → (s.input i).level ≠ b →
     (s.inputConfig i).chatterLimit ≠ 0 → (s.input i).window = some w →
     (s.inputConfig i).chatterLimit < w.count + 1 →
     ∃ t r, exec (.pinChange i b) s = .next t ∧
       r = { origin := s.ownOrigin, seq := s.outbound.nextSeq, stamp := s.now,
             quality := s.timebase.timeState,
             detail := .chatter i ((s.input i).edgeCount + 1)
               (withBit s.snapshot i.val b) : Record } ∧
       t.input i = { s.input i with
         state := .suspended, level := b, edgeCount := (s.input i).edgeCount + 1,
         holdoffRef := none, holdoffTimer := none, window := none,
         quietTimer := some ((s.inputConfig i).chatterWindow * 10000), countTaken := true } ∧
       (∀ j, j ≠ i → t.input j = s.input j) ∧
       (s.outbound.records.length < 32 →
         t.outbound = { s.outbound with
           records := s.outbound.records ++ [r], nextSeq := s.outbound.nextSeq + 1 } ∧
         (s.offer r false).journaledIn t) ∧
       (32 ≤ s.outbound.records.length →
         t.outbound = { s.outbound with lost := satInc s.outbound.lost } ∧
         s.journaledIn t) ∧
       s.changesOnly t [.inputs, .outbound, .journal, .counters, .host]) ∧
  (∀ (i : Fin 16) (b : Bool) (s : State), s.IrqKept →
     (s.pin i ≠ b → exec (.pinChange i b) s = .next { s with pins := withBit s.pins i.val b }) ∧
     (s.pin i = b → s.inReset = true ∨ (s.input i).state = .disabled ∨
         (s.inputConfig i).qualification = .qualified ∨ (s.input i).level = b ∨
         (s.input i).countTaken = true →
       exec (.pinChange i b) s = .next s) ∧
     (s.inReset = false → s.pin i = b → (s.input i).countTaken = false →
       (s.inputConfig i).qualification = .direct → (s.input i).level ≠ b →
       ((s.input i).state = .suspended → ∃ t, exec (.pinChange i b) s = .next t ∧
         t.input i = { s.input i with
           level := b, edgeCount := (s.input i).edgeCount + 1,
           quietTimer := some ((s.inputConfig i).chatterWindow * 10000), countTaken := true } ∧
         (∀ j, j ≠ i → t.input j = s.input j) ∧ s.changesOnly t [.inputs]) ∧
       ((s.input i).state = .holdoff ∨ ((s.input i).state = .armed ∧
           (((s.inputConfig i).mode = .rising ∧ b = false) ∨
             ((s.inputConfig i).mode = .falling ∧ b = true))) →
         ((s.inputConfig i).chatterLimit = 0 → ∃ t, exec (.pinChange i b) s = .next t ∧
           t.input i = { s.input i with
             level := b, edgeCount := (s.input i).edgeCount + 1, countTaken := true } ∧
           (∀ j, j ≠ i → t.input j = s.input j) ∧ s.changesOnly t [.inputs]) ∧
         ((s.inputConfig i).chatterLimit ≠ 0 → (s.input i).window = none →
           ∃ t, exec (.pinChange i b) s = .next t ∧
           t.input i = { s.input i with
             level := b, edgeCount := (s.input i).edgeCount + 1,
             window := some ⟨1, (s.inputConfig i).chatterWindow * 10000⟩, countTaken := true } ∧
           (∀ j, j ≠ i → t.input j = s.input j) ∧ s.changesOnly t [.inputs]) ∧
         (∀ w, (s.input i).window = some w → w.count + 1 ≤ (s.inputConfig i).chatterLimit →
           ∃ t, exec (.pinChange i b) s = .next t ∧
           t.input i = { s.input i with
             level := b, edgeCount := (s.input i).edgeCount + 1,
             window := some ⟨w.count + 1, w.left⟩, countTaken := true } ∧
           (∀ j, j ≠ i → t.input j = s.input j) ∧ s.changesOnly t [.inputs]))))

/-- R118 to R120, R127: a SAMPLE_TICK samples every QUALIFIED input that is not DISABLED, in whatever
order: with no candidate a differing pin opens one, stamped now, whose snapshot shows each input as it
stands before or after its own transition at this tick; a pin at the candidate level is a transition at
the candidate's time; otherwise the candidate is discarded. DIRECT and DISABLED inputs are not read.
Without a transition no record is made, and a transition alone at the tick makes the record that it makes
by itself. -/
def Obligations.SampleTickQualifiesLevels : Prop :=
  ∀ s : State, s.inReset = false → s.ticks.sample = 0 → ∃ t, exec .sampleTick s = .next t ∧
    t.ticks = { s.ticks with sample := 100 } ∧
    (∀ i, (s.input i).state = .disabled ∨ (s.inputConfig i).qualification = .direct →
      t.input i = s.input i) ∧
    (∀ i, (s.input i).state ≠ .disabled → (s.inputConfig i).qualification = .qualified →
      ((s.input i).candidate = none → s.pin i = (s.input i).level → t.input i = s.input i) ∧
      ((s.input i).candidate = none → s.pin i ≠ (s.input i).level →
        ∃ snap : Line16, t.input i = { s.input i with
            candidate := some ⟨s.pin i, s.now, s.timebase.timeState, snap⟩ } ∧
          snap.getLsbD i.val = (s.input i).level ∧
          ∀ j : Fin 16, snap.getLsbD j.val = s.snapshot.getLsbD j.val ∨
            snap.getLsbD j.val = t.snapshot.getLsbD j.val) ∧
      (∀ c, (s.input i).candidate = some c → s.pin i ≠ c.level →
        t.input i = { s.input i with candidate := none }) ∧
      (∀ c u, (s.input i).candidate = some c → s.pin i = c.level →
        u = (s.setInput i { s.input i with candidate := none }).transition i c.level c.time
          c.quality (withBit c.snapshot i.val c.level) →
        t.input i = u.input i ∧
        ((∀ j d, j ≠ i → (s.input j).candidate = some d → s.pin j ≠ d.level) →
          t.outbound = u.outbound ∧ u.journaledIn t))) ∧
    ((∀ i c, (s.input i).candidate = some c → s.pin i ≠ c.level) →
      t.outbound = s.outbound ∧ s.journaledIn t) ∧
    s.changesOnly t [.ticks, .choices, .inputs, .outbound, .journal, .counters, .host]

/-- R115, R117 to R119, R121 to R123, R125, R126, R131, R132: a qualified transition of an input in either
mode, at the time and with the time state and snapshot it is given. DISABLED takes none; every other state
takes the level and counts. SUSPENDED restarts its quiet timer. ARMED and HOLDOFF count in the chatter
window, which a chatter limit above 0 opens; above the limit a CHATTER is made and the input is SUSPENDED.
Within it an ARMED input that reports the level makes an EDGE and enters HOLDOFF where a hold-off is
configured; HOLDOFF, and a level not reported, makes no record. A record is appended and offered, or with
32 queued refused and counted. -/
def Obligations.TransitionsFollowTheInputState : Prop :=
  (∀ (i : Fin 16) (level : Bool) (stamp : Stamp) (q : TimeState) (snap : Line16) (s : State),
    ∃ (x : Input) (above reports : Prop),
      x = { s.input i with
        level := level, edgeCount := (s.input i).edgeCount + 1, window := x.window } ∧
      ((s.inputConfig i).chatterLimit = 0 → x.window = (s.input i).window) ∧
      ((s.inputConfig i).chatterLimit ≠ 0 → (s.input i).window = none →
        x.window = some ⟨1, (s.inputConfig i).chatterWindow * 10000⟩) ∧
      (∀ w, (s.inputConfig i).chatterLimit ≠ 0 → (s.input i).window = some w →
        x.window = some ⟨w.count + 1, w.left⟩) ∧
      (above ↔ (s.inputConfig i).chatterLimit ≠ 0 ∧
        ∃ w, x.window = some w ∧ (s.inputConfig i).chatterLimit < w.count) ∧
      (reports ↔ (s.inputConfig i).mode = .both ∨
        ((s.inputConfig i).mode = .rising ∧ level = true) ∨
        ((s.inputConfig i).mode = .falling ∧ level = false)) ∧
      ((s.input i).state = .disabled → s.transition i level stamp q snap = s) ∧
      ((s.input i).state = .suspended → s.transition i level stamp q snap =
        s.setInput i { x with
          window := (s.input i).window,
          quietTimer := some ((s.inputConfig i).chatterWindow * 10000) }) ∧
      ((s.input i).state = .armed ∨ (s.input i).state = .holdoff → above →
        s.transition i level stamp q snap = (s.setInput i { x with
          state := .suspended, holdoffRef := none, holdoffTimer := none, window := none,
          quietTimer := some ((s.inputConfig i).chatterWindow * 10000) }).capture stamp q
            (.chatter i x.edgeCount snap)) ∧
      ((s.input i).state = .armed → ¬ above → reports → s.transition i level stamp q snap =
        (s.setInput i (if (s.inputConfig i).holdoff = 0 then x else { x with
          state := .holdoff, holdoffRef := some level,
          holdoffTimer := some ((s.inputConfig i).holdoff * 100) })).capture stamp q
            (.edge i level false x.edgeCount snap)) ∧
      ((s.input i).state = .holdoff ∨ ((s.input i).state = .armed ∧ ¬ reports) → ¬ above →
        s.transition i level stamp q snap = s.setInput i x)) ∧
  (∀ (s : State) (r : Record), r.origin = s.ownOrigin → r.seq = s.outbound.nextSeq →
    (s.outbound.records.length < 32 → s.capture r.stamp r.quality r.detail =
      ({ s with outbound := { s.outbound with
          records := s.outbound.records ++ [r], nextSeq := s.outbound.nextSeq + 1 } } :
        State).offer r false) ∧
    (32 ≤ s.outbound.records.length → s.capture r.stamp r.quality r.detail =
      { s with outbound := { s.outbound with lost := satInc s.outbound.lost } }))

/-- R119, R122, R124, R126, R128: the expiries of an input. A hold-off that ends on another reportable
level makes a deferred EDGE and starts again, otherwise the input is ARMED; a chatter window closes; a
quiet timer makes RESUME and the input is ARMED. No expiry changes the edge count. -/
def Obligations.InputExpiries : Prop :=
  ∀ (i : Fin 16) (s : State), s.inReset = false → s.IrqKept →
    ((s.input i).state = .holdoff → (s.input i).holdoffTimer = some 0 →
      (s.input i).holdoffRef = some (s.input i).level ∨
        ((s.inputConfig i).mode = .rising ∧ (s.input i).level = false) ∨
        ((s.inputConfig i).mode = .falling ∧ (s.input i).level = true) →
      ∃ t, exec (.holdoffExpiry i) s = .next t ∧
        t.input i = { s.input i with state := .armed, holdoffRef := none, holdoffTimer := none } ∧
        (∀ j, j ≠ i → t.input j = s.input j) ∧ s.changesOnly t [.inputs]) ∧
    ((s.input i).state = .holdoff → (s.input i).holdoffTimer = some 0 →
      (s.input i).holdoffRef ≠ some (s.input i).level →
      ((s.inputConfig i).mode = .both ∨
        ((s.inputConfig i).mode = .rising ∧ (s.input i).level = true) ∨
        ((s.inputConfig i).mode = .falling ∧ (s.input i).level = false)) →
      ∃ t r, exec (.holdoffExpiry i) s = .next t ∧
        r = { origin := s.ownOrigin, seq := s.outbound.nextSeq, stamp := s.now,
              quality := s.timebase.timeState,
              detail := .edge i (s.input i).level true (s.input i).edgeCount s.snapshot : Record } ∧
        t.input i = { s.input i with
          holdoffRef := some (s.input i).level,
          holdoffTimer := some ((s.inputConfig i).holdoff * 100) } ∧
        (s.outbound.records.length < 32 →
          t.outbound = { s.outbound with
            records := s.outbound.records ++ [r], nextSeq := s.outbound.nextSeq + 1 } ∧
          (s.offer r false).journaledIn t) ∧
        (32 ≤ s.outbound.records.length →
          t.outbound = { s.outbound with lost := satInc s.outbound.lost } ∧
          s.journaledIn t) ∧
        (∀ j, j ≠ i → t.input j = s.input j) ∧
        s.changesOnly t [.inputs, .outbound, .journal, .counters, .host]) ∧
    (∀ w, (s.input i).window = some w → w.left = 0 →
      ∃ t, exec (.chatterWindowExpiry i) s = .next t ∧
        t.input i = { s.input i with window := none } ∧
        (∀ j, j ≠ i → t.input j = s.input j) ∧ s.changesOnly t [.inputs]) ∧
    ((s.input i).state = .suspended → (s.input i).quietTimer = some 0 →
      ∃ t r, exec (.quietTimerExpiry i) s = .next t ∧
        r = { origin := s.ownOrigin, seq := s.outbound.nextSeq, stamp := s.now,
              quality := s.timebase.timeState,
              detail := .resume i (s.input i).level (s.input i).edgeCount s.snapshot : Record } ∧
        t.input i = { s.input i with
          state := .armed, window := none, holdoffRef := none, holdoffTimer := none,
          quietTimer := none } ∧
        (s.outbound.records.length < 32 →
          t.outbound = { s.outbound with
            records := s.outbound.records ++ [r], nextSeq := s.outbound.nextSeq + 1 } ∧
          (s.offer r false).journaledIn t) ∧
        (32 ≤ s.outbound.records.length →
          t.outbound = { s.outbound with lost := satInc s.outbound.lost } ∧
          s.journaledIn t) ∧
        (∀ j, j ≠ i → t.input j = s.input j) ∧
        s.changesOnly t [.inputs, .outbound, .journal, .counters, .host])

/-! ### Local time, rounds and timers -/

/-- R31, R110, R172: RELEASE_TICK, SLEW_TICK and JOIN_TIMER_EXPIRY when they are due. A release tick
computes the horizon; a slew tick works 1 µs of the remainder off into the correction; the join timer's
end makes RUNNING with HELLO owed. -/
def Obligations.TicksAndJoinTimer : Prop :=
  ∀ s : State, s.inReset = false →
    (s.ticks.release = 0 → ∃ t, exec .releaseTick s = .next t ∧
      t.ticks = { s.ticks with release := 1000 } ∧ s.computeHorizon.journaledIn t ∧
      s.changesOnly t [.ticks, .journal, .host]) ∧
    (s.IrqKept → s.ticks.slew = 0 →
      (0 < s.timebase.slewRemainder → exec .slewTick s = .next { s with
        ticks := { s.ticks with slew := 100 }
        timebase := { s.timebase with
          correction := s.timebase.correction + 1
          slewRemainder := s.timebase.slewRemainder - 1 } }) ∧
      (s.timebase.slewRemainder < 0 → exec .slewTick s = .next { s with
        ticks := { s.ticks with slew := 100 }
        timebase := { s.timebase with
          correction := s.timebase.correction - 1
          slewRemainder := s.timebase.slewRemainder + 1 } }) ∧
      (s.timebase.slewRemainder = 0 →
        exec .slewTick s = .next { s with ticks := { s.ticks with slew := 100 } })) ∧
    (s.IrqKept → s.control.lifecycle = .joining → s.control.joinTimer = some 0 →
      exec .joinTimerExpiry s = .next { s with
        control := { s.control with joinTimer := none, lifecycle := .running }
        line := { s.line with helloOwed := true } })

/-- R100, R102, R103: the peer values of a round end are those of the candidates, each peer once, in address
order. A peer brings its stored offset exactly when its entry is ACTIVE without mismatch, its sample is
fresh, and it does not announce FREE to a LOCKED station. -/
def Obligations.CandidatesAreFreshActivePeers : Prop :=
  ∀ s : State, s.peerValues = (List.finRange 24).filterMap (fun p =>
    if (s.peer p).state = .active ∧ (s.peer p).mismatch = false ∧ 0 < s.fresh p ∧
        ¬ (s.timebase.timeState = .locked ∧ (s.peer p).timeState = some .free)
    then (s.peer p).offset.map (fun o => o.value.toInt) else none)

/-- R98, R104, R107, R108: ROUND_END in FREE. Without a peer candidate only the round advances: the rest of
the Timebase, the journal, the counters and the host port stay, but for IRQ. With one the correction steps
by the whole adjustment, the state becomes ACQUIRE with every count 0, and a step that is not 0 is noted at
the new time; journal and counters are those of that offer, and stay where the step is 0. -/
def Obligations.RoundEndInFree : Prop :=
  ∀ s : State, s.inReset = false → s.timebase.roundTimer = some 0 → s.timebase.timeState = .free →
    ∃ t, exec .roundEnd s = .next t ∧ s.roundAdvances t ∧
      (s.peerValues = [] → s.journaledIn t ∧ t.timebase = { s.timebase with
        freshness := t.timebase.freshness, round := t.timebase.round,
        roundTimer := t.timebase.roundTimer, timeOwed := t.timebase.timeOwed }) ∧
      (s.peerValues ≠ [] →
        t.timebase.correction =
          s.timebase.correction + BitVec.ofInt 48 (adjustment (0 :: s.peerValues)) ∧
        t.timebase.timeState = .acquire ∧ t.timebase.lockRun = 0 ∧ t.timebase.releaseRun = 0 ∧
        t.timebase.holdover = 0 ∧ t.timebase.slewRemainder = s.timebase.slewRemainder ∧
        (adjustment (0 :: s.peerValues) = 0 → s.journaledIn t) ∧
        (adjustment (0 :: s.peerValues) ≠ 0 →
          (({ s with timebase := t.timebase } : State).countNote.offer
            { origin := 0, seq := s.journal.noteCounter, stamp := t.now, quality := .acquire,
              detail := .timestep (BitVec.ofInt 48 (adjustment (0 :: s.peerValues))) }
            false).journaledIn t))

/-- R98, R105, R107, R108: ROUND_END in ACQUIRE. With a peer candidate the correction steps; the second
adjustment in a row within 50 µs makes LOCKED. Without one the lock run is 0 and the holdover count rises,
and at 8 the state is FREE. The release run is 0, a change of state leaves every count 0, the slew remainder
stays, and journal and counters are those of the offer of the step's note, or stay where there is none. -/
def Obligations.RoundEndInAcquire : Prop :=
  ∀ s : State, s.inReset = false → s.timebase.roundTimer = some 0 →
    s.timebase.timeState = .acquire → s.TimeKept →
    ∃ t, exec .roundEnd s = .next t ∧ s.roundAdvances t ∧
      t.timebase.releaseRun = 0 ∧ t.timebase.slewRemainder = s.timebase.slewRemainder ∧
      (s.peerValues = [] → t.timebase.correction = s.timebase.correction ∧
        t.timebase.lockRun = 0 ∧ s.journaledIn t ∧
        (s.timebase.holdover < 7 → t.timebase.timeState = .acquire ∧
          t.timebase.holdover = s.timebase.holdover + 1) ∧
        (s.timebase.holdover = 7 → t.timebase.timeState = .free ∧ t.timebase.holdover = 0)) ∧
      (s.peerValues ≠ [] →
        t.timebase.correction =
          s.timebase.correction + BitVec.ofInt 48 (adjustment (0 :: s.peerValues)) ∧
        t.timebase.holdover = 0 ∧
        (50 < (adjustment (0 :: s.peerValues)).natAbs →
          t.timebase.timeState = .acquire ∧ t.timebase.lockRun = 0) ∧
        ((adjustment (0 :: s.peerValues)).natAbs ≤ 50 →
          (s.timebase.lockRun = 0 → t.timebase.timeState = .acquire ∧ t.timebase.lockRun = 1) ∧
          (s.timebase.lockRun = 1 → t.timebase.timeState = .locked ∧ t.timebase.lockRun = 0)) ∧
        (adjustment (0 :: s.peerValues) = 0 → s.journaledIn t) ∧
        (adjustment (0 :: s.peerValues) ≠ 0 →
          (({ s with timebase := t.timebase } : State).countNote.offer
            { origin := 0, seq := s.journal.noteCounter, stamp := t.now,
              quality := t.timebase.timeState,
              detail := .timestep (BitVec.ofInt 48 (adjustment (0 :: s.peerValues))) }
            false).journaledIn t))

/-- R98, R106, R107, R111: ROUND_END in LOCKED never steps. With a peer candidate the capped adjustment
replaces the slew remainder, and the third uncapped adjustment in a row above 1000 µs makes ACQUIRE with
no remainder. Without one the release run is 0 and the holdover count rises, and at 8 the state is FREE with
no remainder. The lock run is 0, a change of state leaves every count 0, and no note is made: journal and
counters stay. -/
def Obligations.RoundEndInLocked : Prop :=
  ∀ s : State, s.inReset = false → s.timebase.roundTimer = some 0 →
    s.timebase.timeState = .locked → s.TimeKept →
    ∃ t, exec .roundEnd s = .next t ∧ s.roundAdvances t ∧
      t.timebase.correction = s.timebase.correction ∧ t.timebase.lockRun = 0 ∧ s.journaledIn t ∧
      (s.peerValues = [] → t.timebase.releaseRun = 0 ∧
        (s.timebase.holdover < 7 → t.timebase.timeState = .locked ∧
          t.timebase.holdover = s.timebase.holdover + 1 ∧
          t.timebase.slewRemainder = s.timebase.slewRemainder) ∧
        (s.timebase.holdover = 7 → t.timebase.timeState = .free ∧ t.timebase.holdover = 0 ∧
          t.timebase.slewRemainder = 0)) ∧
      (s.peerValues ≠ [] → t.timebase.holdover = 0 ∧
        ((adjustment (0 :: s.peerValues)).natAbs ≤ 1000 → t.timebase.timeState = .locked ∧
          t.timebase.releaseRun = 0) ∧
        (1000 < (adjustment (0 :: s.peerValues)).natAbs → s.timebase.releaseRun < 2 →
          t.timebase.timeState = .locked ∧
          t.timebase.releaseRun = s.timebase.releaseRun + 1) ∧
        (1000 < (adjustment (0 :: s.peerValues)).natAbs → s.timebase.releaseRun = 2 →
          t.timebase.timeState = .acquire ∧ t.timebase.releaseRun = 0 ∧
          t.timebase.slewRemainder = 0) ∧
        (t.timebase.timeState = .locked →
          t.timebase.slewRemainder = max (-(s.control.config.si * 10 : Int))
            (min (s.control.config.si * 10 : Int) (adjustment (0 :: s.peerValues)))))

/-- R50, R77, R78, R80, R86: SILENCE_EXPIRY of an ACTIVE entry makes it SILENT with its timer stopped and
its other fields kept, notes PEER_DOWN with its next sequence, and computes the horizon without its term.
REPAIR_TIMER_EXPIRY takes all entries of one peer that have run out. One with tries left is due again in
RUNNING, and outside it spends its try at once; one with its retries spent is declared lost with cause
EXHAUSTED. The others stay. PROXY_DELAY_EXPIRY makes the entry whose delay has run out due, and changes
nothing else. -/
def Obligations.PeerTimersExpire : Prop :=
  (∀ (p : Station) (s : State), s.inReset = false → (s.peer p).state = .active →
     (s.peer p).silenceTimer = some 0 → ∃ t, exec (.silenceExpiry p) s = .next t ∧
       t.peer p = { s.peer p with state := .silent, silenceTimer := none } ∧
       (∀ q, q ≠ p → t.peer q = s.peer q) ∧
       ((({ s with peers := t.peers } : State).countNote.offer
         { origin := 0, seq := s.journal.noteCounter, stamp := s.now,
           quality := s.timebase.timeState,
           detail := .peerDown p ((s.peer p).numbering.map (·.next)) }
         false).computeHorizon).journaledIn t ∧
       s.changesOnly t [.peers, .journal, .counters, .host]) ∧
  ((∀ (p : Station) (s : State), s.inReset = false →
      (∃ m ∈ s.missing p, m.timer = .timing 0) → ∃ t, exec (.repairTimerExpiry p) s = .next t ∧
        t.missing p = (s.missing p).filterMap (fun m =>
          if m.timer ≠ .timing 0 then some m
          else if s.control.config.retries ≤ m.tries then none
          else if s.control.lifecycle = .running then
            some { m with timer := .due 0, heard := false }
          else some { m with
            tries := m.tries + 1, timer := .timing (s.control.config.ri * 1000), heard := false }) ∧
        (∀ q, q ≠ p → t.missing q = s.missing q) ∧
        t.repair.originAnswers = s.repair.originAnswers ∧ t.repair.proxy = s.repair.proxy ∧
        (s.declareRuns p .exhausted (((s.missing p).filter (fun m =>
          decide (m.timer = .timing 0) && decide (s.control.config.retries ≤ m.tries))).map
            (·.seq))).journaledIn t ∧
        s.changesOnly t [.repair, .journal, .counters, .host]) ∧
   (∀ (p : Station) (q : Seq) (s : State), s.IrqKept → s.inReset = false →
      (⟨p, q, .timing 0⟩ : ProxyEntry) ∈ s.repair.proxy →
      exec (.proxyDelayExpiry p q) s = .next { s with repair := { s.repair with
        proxy := s.repair.proxy.map (fun e =>
          if e = ⟨p, q, .timing 0⟩ then ⟨p, q, .due 0⟩ else e) } }))

/-- R8, R15, R24, R80: the runs of a declaration: put together they are the declared sequences in their
order, none is empty, and each begins where the one before could not go on. A declaration of loss offers,
run by run in that order, one GAP note of origin 0 with the next note number, stamped now with the present
time state, that names the subject, the first sequence and the count of its run, and the cause. -/
def Obligations.GapNotesNameMaximalRuns : Prop :=
  ∀ seqs : List Seq, (seqRuns seqs).flatMap (fun run => seqRange run.1 run.2) = seqs ∧
    (∀ run ∈ seqRuns seqs, 1 ≤ run.2) ∧
    (∀ front a b behind, seqRuns seqs = front ++ a :: b :: behind →
      b.1 ≠ a.1 + BitVec.ofNat 16 a.2) ∧
    (∀ (p : Station) (cause : GapCause) (s : State),
      s.declareRuns p cause seqs = (seqRuns seqs).foldl (fun t run =>
        ({ t with journal := { t.journal with
            noteCounter := t.journal.noteCounter + 1 } } : State).offer
          { origin := 0, seq := t.journal.noteCounter, stamp := s.now,
            quality := s.timebase.timeState,
            detail := .gap p run.1 (BitVec.ofNat 16 (min run.2 65535)) cause } false) s ∧
      (s.declareRuns p cause seqs).journal.noteCounter =
        s.journal.noteCounter + BitVec.ofNat 16 (seqRuns seqs).length)

/-! ### Reception -/

/-- R99, R141, R143, R144, R153, R155, R157, R159, R160: the receiver's own events. The start of a frame
in IDLE records the SOF, and elsewhere other stations only change the levels they put on the line, where
the change from released to driven between bytes begins a bit time, and a released bit not over by then
leaves the run; hold-back clears at 24 bit times; a stuck line sets its flag and puts the receiver into
WAIT (log 16), and the first released bit clears it. An idle gap in RECEIVING is a truncation and puts the
receiver into IDLE; a framing fault and a body length above 57 are format errors and put it into WAIT. Of
an echo nothing is counted. A row whose bits the station has not read itself tells how they left the line
(log 6). -/
def Obligations.ReceiverEvents : Prop :=
  (∀ (s : State) (levels : List Bool), s.IrqKept →
     (s.inReset = false → s.line.rx = .idle → exec (.startOfFrame levels) s = .next { s with
       line := { s.line with
         rx := .receiving, echo := false, releasedRun := 0, drivenRun := 0, bitPhase := 0,
         bits := [], bytes := [], driving := false }
       medium := if s.medium.level then ⟨false, levels, levels.isEmpty⟩ else s.medium
       timebase := { s.timebase with sofCounter := s.timebase.localCounter } }) ∧
     (s.inReset = true ∨ s.line.rx ≠ .idle →
       (levels = [] → exec (.startOfFrame levels) s = .next s) ∧
       (levels ≠ [] → exec (.startOfFrame levels) s = .next { s with
         line := if s.line.tx = .free ∧ s.line.bits = [] ∧ s.line.driving = false ∧ s.medium.level = true
           then { s.line with
             releasedRun := if s.control.bitRate.middle ≤ s.line.bitPhase
               then s.line.releasedRun - 1 else s.line.releasedRun,
             bitPhase := 0 }
           else s.line
         medium := ⟨false, levels, false⟩ }))) ∧
  (∀ s : State, s.IrqKept → s.inReset = false →
     (s.line.rx = .idle → 24 < s.line.releasedRun ∨
         (24 = s.line.releasedRun ∧ s.line.bitPhase < s.control.bitRate.middle) →
       exec .holdBackClear s = .next { s with line := { s.line with holdBack := false } }) ∧
     (s.line.tx = .free → s.line.stuck = false → exec .lineStuck s = .next { s with
       line := { s.line with
         stuck := true, rx := .waiting, echo := false, bits := [], bytes := [],
         releasedRun := if 100 < s.line.drivenRun then s.line.releasedRun else 0,
         drivenRun := if 100 < s.line.drivenRun then s.line.drivenRun else 101,
         bitPhase := if 100 < s.line.drivenRun then s.line.bitPhase else s.justRead,
         driving := decide (100 < s.line.drivenRun) && s.line.driving }
       medium := if 100 < s.line.drivenRun then s.medium else ⟨false, [], false⟩ }) ∧
     (s.line.stuck = true → exec .lineStuckClear s = .next { s with
       line := { s.line with
         stuck := false,
         releasedRun := if 1 ≤ s.line.releasedRun then s.line.releasedRun else 1,
         drivenRun := if 1 ≤ s.line.releasedRun then s.line.drivenRun else 0,
         bitPhase := if 1 ≤ s.line.releasedRun then s.line.bitPhase else s.justRead,
         driving := decide (1 ≤ s.line.releasedRun) && s.line.driving }
       medium := if 1 ≤ s.line.releasedRun then s.medium else ⟨true, [], false⟩ })) ∧
  (∀ s : State, s.IrqKept → s.inReset = false → s.line.tx = .free →
     (s.line.stuck = false → s.line.rx ≠ .idle → ∀ read : Bool,
       (read = true ↔ 12 < s.line.releasedRun ∨
         (12 = s.line.releasedRun ∧ s.line.bitPhase < s.control.bitRate.middle)) →
       exec .idleGap s = .next { s with
       line := { s.line with
         rx := .idle, echo := false, bits := [], bytes := [],
         releasedRun := if read then s.line.releasedRun else 12,
         drivenRun := if read then s.line.drivenRun else 0,
         bitPhase := if read then s.line.bitPhase else 0, driving := false }
       medium := if read then s.medium else ⟨true, [], false⟩
       counters := if s.line.rx = .receiving ∧ s.line.echo = false
         then { s.counters with truncated := satInc s.counters.truncated } else s.counters }) ∧
     (s.line.rx = .receiving → ∀ c read told, (∃ b : Byte, c = .framingFault b ∧
           (read = true ↔ s.line.bits.length = 10 ∧ (s.line.bits.tail.take 8) = dataBits b) ∧
           told = ⟨false, [], true⟩) ∨
         (∃ len : Byte, 57 < len.toNat ∧ c = .bodyLengthAbove57 len ∧
           (read = true ↔ ∃ a k, s.line.bytes = [a, k, len]) ∧ told = ⟨true, [], true⟩) →
       ∃ t, exec c s = .next t ∧
       t.line = { s.line with
         rx := .waiting, echo := false, bits := [], bytes := [], bitPhase := t.line.bitPhase,
         releasedRun := t.line.releasedRun, drivenRun := t.line.drivenRun,
         driving := t.line.driving } ∧ t.line.driving = (read && s.line.driving) ∧
       (read = true → t.medium = s.medium ∧ t.line.bitPhase = s.line.bitPhase ∧
         t.line.releasedRun = s.line.releasedRun ∧ t.line.drivenRun = s.line.drivenRun) ∧
       (read = false → t.medium = told ∧ t.line.bitPhase = s.justRead ∧
         t.line.releasedRun ≤ 9 ∧ t.line.drivenRun ≤ 10) ∧
       t.counters = (if s.line.echo = false
         then { s.counters with formatErrors := satInc s.counters.formatErrors }
         else s.counters) ∧
       s.changesOnly t [.line, .medium, .counters]))

/-- R143, R158: a frame whose CRC field differs from the CRC over its bytes is discarded at its declared end,
whatever row brings it (log 8): the crc-errors counter rises, the receiver goes to WAIT, and nothing else
changes, so it is no clash and counts as heard from no station. Where the station has not read its bits
itself, the row tells how they left the line (log 6). -/
def Obligations.CrcErrorIsCountedAlone : Prop :=
  ∀ (c : Instr) (raw : List Byte) (s : State), s.IrqKept → s.hears → frameBytes c = some raw →
    c.wellFormed = true →
    raw.drop (raw.length - 2) ≠ bytes16 (crcOf (raw.take (raw.length - 2))) →
    ∃ t, exec c s = .next t ∧
      t.counters = { s.counters with crcErrors := satInc s.counters.crcErrors } ∧
      t.line = { s.line with
        rx := .waiting, echo := false, bits := [], bytes := [], bitPhase := t.line.bitPhase,
        releasedRun := t.line.releasedRun, drivenRun := t.line.drivenRun,
        driving := decide (frameBytes c = some s.line.bytes) && s.line.driving } ∧
      s.changesOnly t [.line, .medium, .counters]

/-- R142, R156, R159 to R161, R202 to R204: the other outcomes of a whole frame. At its end the receiver
goes to WAIT; where the station has not read its bits itself, the row tells that they left the line released
(log 6). An echo is not processed; a failed content check is a format error; a valid frame is discarded in
UNCONFIGURED, and with the own address in QUIET; with the own address in JOINING or RUNNING it is a clash
that makes QUIET. A whole frame has a body of up to 57 bytes, as its length byte says, and two bytes of CRC;
a RECEIVED row carries one of its kind (log 8), CRC_ERROR any. With another CRC than its own it is a CRC
error. With its own it is a format error exactly where a content check fails: the arbitration address or
class, the kind or its class, the length, a flag, the SI, the time state, a subject, a sequence or record
count, a sequence named twice, a record's kind or quality, or a LOSS count of 0. Every other one is valid,
from the station of its arbitration byte, and carries what its bytes say but for the bits marked as zero,
which are not examined. -/
def Obligations.FrameOutcomes : Prop :=
  (∀ raw : List Byte, (frameWhole raw = true ↔ ∃ (arb kind : Byte) (body crc : List Byte),
      body.length ≤ 57 ∧ crc.length = 2 ∧
      raw = arb :: kind :: BitVec.ofNat 8 body.length :: body ++ crc) ∧
    ((Instr.helloReceived raw).wellFormed = true ↔ frameWhole raw = true ∧ raw[1]? = some 0x01) ∧
    ((Instr.timeReceived raw).wellFormed = true ↔ frameWhole raw = true ∧ raw[1]? = some 0x02) ∧
    ((Instr.repairReqReceived raw).wellFormed = true ↔
      frameWhole raw = true ∧ raw[1]? = some 0x03) ∧
    ((Instr.repairDataReceived raw).wellFormed = true ↔
      frameWhole raw = true ∧ raw[1]? = some 0x04) ∧
    ((Instr.repairNoneReceived raw).wellFormed = true ↔
      frameWhole raw = true ∧ raw[1]? = some 0x05) ∧
    ((Instr.eventReceived raw).wellFormed = true ↔ frameWhole raw = true ∧ raw[1]? = some 0x06) ∧
    ((Instr.crcError raw).wellFormed = true ↔ frameWhole raw = true)) ∧
  (∀ (arb kind : Byte) (body : List Byte), body.length ≤ 57 →
    (∀ crc, crc.length = 2 → arb :: kind :: BitVec.ofNat 8 body.length :: body ++ crc ≠
        wholeFrame arb kind body →
      checkFrame (arb :: kind :: BitVec.ofNat 8 body.length :: body ++ crc) = .crcError) ∧
    (contentFails arb kind body = true → checkFrame (wholeFrame arb kind body) = .formatError) ∧
    (contentFails arb kind body = false → ∃ p f, checkFrame (wholeFrame arb kind body) = .valid p f ∧
      p.val + 1 = arb.toNat % 32 ∧ f.sendable p ∧
      encodeFrame (originOf p) f = wholeFrame arb kind (zeroedBody kind body))) ∧
  ∀ (c : Instr) (raw : List Byte) (s : State), s.inReset = false → s.line.rx = .receiving →
    s.line.tx = .free → frameBytes c = some raw → c.wellFormed = true →
    ((∀ p f, checkFrame raw = .valid p f → c ≠ .crcError raw) → ∃ t, exec c s = .next t ∧
      t.line.rx = .waiting ∧ t.line.echo = false ∧ t.line.bits = [] ∧ t.line.bytes = [] ∧
      (t.line.driving = true → s.line.driving = true ∧ s.line.bytes = raw) ∧
      (s.line.bytes = raw → t.medium = s.medium ∧ t.line.bitPhase = s.line.bitPhase ∧
        t.line.releasedRun = s.line.releasedRun ∧ t.line.drivenRun = s.line.drivenRun) ∧
      (s.line.bytes ≠ raw → t.medium = ⟨true, [], false⟩ ∧ t.line.bitPhase = s.justRead ∧
        1 ≤ t.line.releasedRun ∧ t.line.releasedRun ≤ 9 ∧ t.line.drivenRun = 0)) ∧
    (s.IrqKept → s.line.echo = true → (∀ p f, checkFrame raw = .valid p f → c ≠ .crcError raw) →
      ∃ t, exec c s = .next t ∧
      t.line = { s.line with
        rx := .waiting, echo := false, bits := [], bytes := [], bitPhase := t.line.bitPhase,
        releasedRun := t.line.releasedRun, drivenRun := t.line.drivenRun,
        driving := decide (frameBytes c = some s.line.bytes) && s.line.driving } ∧
      s.changesOnly t [.line, .medium]) ∧
    (s.IrqKept → s.line.echo = false → checkFrame raw = .formatError → ∃ t, exec c s = .next t ∧
      t.counters = { s.counters with formatErrors := satInc s.counters.formatErrors } ∧
      s.changesOnly t [.line, .medium, .counters]) ∧
    (∀ p f, s.line.echo = false → checkFrame raw = .valid p f → (∀ r, c ≠ .crcError r) →
      (s.IrqKept → s.control.lifecycle = .unconfigured ∨
          (s.own = some p ∧ s.control.lifecycle = .quiet) →
        ∃ t, exec c s = .next t ∧ s.changesOnly t [.line, .medium]) ∧
      (s.own = some p → s.control.lifecycle = .joining ∨ s.control.lifecycle = .running →
        ∃ t, exec c s = .next t ∧ s.quietened .clash t ∧ t.line.failures = s.line.failures ∧
          s.changesOnly t [.line, .medium, .control, .timebase, .repair, .host]))

/-- R15, R24, R46 to R49, R51, R54, R68, R143, R156: a frame passed on makes its sender's entry ACTIVE, last
heard now, with the silence timer restarted at M × SI and the mismatch value of a HELLO or TIME frame's SI. An entry
that was not ACTIVE, and a restart, take CT at H and make a PEER_UP note, a restart after its missing
sequences are declared lost. The first frame from an ABSENT address, and a restart, set base and next
sequence to the next sequence of a HELLO or TIME frame or to the sequence of the first record of an EVENT
frame; after a REPAIR frame from an ABSENT address they are unknown. Otherwise they continue. All this
stands before the content is taken, in takeSender. After it only a TIME frame changes the sender's CT, and
of all frames only a TIME frame changes the offset or the peer time state; a REPAIR_REQ, a REPAIR_NONE or a
REPAIR_DATA of another subject sets no numbering. Another entry changes only in its numbering, and only by a
REPAIR_DATA of it. A note takes the next note number, is stamped now with the present time state, and is
offered. Where the station has not read the frame's bits itself, its row tells how they left the line
(log 6). -/
def Obligations.SenderIsHeard : Prop :=
  (∀ (s : State) (d : Detail), s.note d = ({ s with journal := { s.journal with
      noteCounter := s.journal.noteCounter + 1 } } : State).offer
    ⟨0, s.journal.noteCounter, s.now, s.timebase.timeState, d⟩ false) ∧
  (∀ (f : Frame) (si : BitVec 16), f.si = some si ↔ (∃ next restart, f = .hello next restart si) ∨
    ∃ now settled next state, f = .time now settled next si state) ∧
  (∀ (f : Frame) (next : Seq), f.restartNext = some next ↔ ∃ si, f = .hello next true si) ∧
  ∀ (c : Instr) (p : Station) (f : Frame) (s : State), s.takesValid c p f → ∃ t u,
    exec c s = .next t ∧ u = s.takeSender p f ∧
      (t.peer p).state = .active ∧ (t.peer p).lastHeard = some s.now ∧
      (t.peer p).silenceTimer = some (s.control.config.m * s.control.config.si * 1000) ∧
      (∀ si, f.si = some si → ((t.peer p).mismatch = true ↔ si.toNat ≠ s.control.config.si)) ∧
      (f.si = none → (t.peer p).mismatch = (s.peer p).mismatch) ∧
      u.peer p = { t.peer p with
        numbering := (u.peer p).numbering
        ct := if (s.peer p).state = .active ∧ f.restartNext = none then (s.peer p).ct
          else s.journal.horizon
        offset := (s.peer p).offset
        timeState := (s.peer p).timeState } ∧
      ((s.peer p).state ≠ .absent → f.restartNext = none →
        (u.peer p).numbering = (s.peer p).numbering) ∧
      ((s.peer p).state = .absent ∨ f.restartNext ≠ none →
        (∀ next restart si, f = .hello next restart si →
          (u.peer p).numbering = some ⟨next, next⟩) ∧
        (∀ now settled next si state, f = .time now settled next si state →
          (u.peer p).numbering = some ⟨next, next⟩) ∧
        (∀ r rs, f = .event (r :: rs) → (u.peer p).numbering = some ⟨r.seq, r.seq⟩) ∧
        (∀ subject proxy seqs, f = .repairReq subject proxy seqs →
          (u.peer p).numbering = none) ∧
        (∀ subject rs, f = .repairData subject rs → (u.peer p).numbering = none) ∧
        (∀ subject seqs, f = .repairNone subject seqs → (u.peer p).numbering = none)) ∧
      (∀ q, q ≠ p → u.peer q = s.peer q) ∧
      (∀ q, u.missing q =
        if q = p ∧ (s.peer p).state ≠ .absent ∧ f.restartNext ≠ none then [] else s.missing q) ∧
      u.repair.originAnswers = s.repair.originAnswers ∧ u.repair.proxy = s.repair.proxy ∧
      s.changesOnly u (.peers :: .repair :: offerBlocks) ∧
      ((s.peer p).state = .active → f.restartNext = none → s.journaledIn u) ∧
      ((s.peer p).state ≠ .active → ((s.peer p).state = .absent ∨ f.restartNext = none) →
        (s.note (.peerUp p f.restartNext.isSome (t.peer p).mismatch)).journaledIn u) ∧
      ((s.peer p).state ≠ .absent → f.restartNext ≠ none →
        ((s.declareRuns p .restart ((s.missing p).map (·.seq))).note
          (.peerUp p true (t.peer p).mismatch)).journaledIn u) ∧
      ((∀ a b d si ti, f ≠ .time a b d si ti) →
        t.peer p = { u.peer p with numbering := (t.peer p).numbering }) ∧
      (∀ subject proxy seqs, f = .repairReq subject proxy seqs → t.peer p = u.peer p) ∧
      (∀ subject rs, f = .repairData subject rs → subject ≠ p → t.peer p = u.peer p) ∧
      (∀ subject seqs, f = .repairNone subject seqs → t.peer p = u.peer p) ∧
      (∀ q, q ≠ p → t.peer q = { s.peer q with numbering := (t.peer q).numbering } ∧
        ((∀ rs, f ≠ .repairData q rs) → t.peer q = s.peer q)) ∧
      t.line = { s.line with
        rx := .waiting, bits := [], bytes := [], bitPhase := t.line.bitPhase,
        releasedRun := t.line.releasedRun, drivenRun := t.line.drivenRun,
        driving := decide (frameBytes c = some s.line.bytes) && s.line.driving } ∧
      t.timebase = { s.timebase with freshness := t.timebase.freshness } ∧
      s.changesOnly t (.line :: .medium :: .timebase :: .peers :: .repair :: offerBlocks)

/-- R48, R53 to R55: a HELLO frame sets the numbering of an entry that had none or was ABSENT, and a
restart sets it afresh and leaves no sequence missing. Offset and peer time state stay. With an entry
into ACTIVE or a restart the horizon is computed at the end (log 11). -/
def Obligations.HelloSetsTheNumbering : Prop :=
  ∀ (c : Instr) (p : Station) (next : Seq) (restart : Bool) (si : BitVec 16) (s : State),
    s.takesValid c p (.hello next restart si) → ∃ t, exec c s = .next t ∧
      (t.peer p).numbering = (if restart = true ∨ (s.peer p).state = .absent then some ⟨next, next⟩
        else some ((s.peer p).numbering.getD ⟨next, next⟩)) ∧
      (t.peer p).offset = (s.peer p).offset ∧ (t.peer p).timeState = (s.peer p).timeState ∧
      (∀ q, q ≠ p → t.peer q = s.peer q ∧ t.missing q = s.missing q) ∧
      t.missing p = (if restart = true ∧ (s.peer p).state ≠ .absent then [] else s.missing p) ∧
      t.repair.originAnswers = s.repair.originAnswers ∧ t.repair.proxy = s.repair.proxy ∧
      t.timebase = s.timebase ∧
      ((s.peer p).state = .active → restart = false → s.journaledIn t) ∧
      ((s.peer p).state ≠ .active ∨ restart = true →
        (s.takeSender p (.hello next restart si)).computeHorizon.journaledIn t)

/-- R48, R49, R61, R64 to R68, R99, R100: a TIME frame stores the sender's time state and, without
mismatch, the offset sample against the recorded SOF with the round, fresh for 2 round ends. A next
sequence after the entry's makes the sequences between missing, the oldest beyond 8 being declared lost
with OVERRUN; an equal one with none missing raises CT to the settled time; any other changes neither.
Where the sender entered ACTIVE or CT rose, the horizon is computed at the end (log 11). -/
def Obligations.TimeFrameIsTaken : Prop :=
  ∀ (c : Instr) (p : Station) (sender settled : Stamp) (next : Seq) (si : BitVec 16)
    (ts : TimeState) (s : State), s.takesValid c p (.time sender settled next si ts) →
    ∃ t n ct fits, exec c s = .next t ∧
      n = (if (s.peer p).state = .absent then ⟨next, next⟩
        else (s.peer p).numbering.getD ⟨next, next⟩ : Numbering) ∧
      ct = (if (s.peer p).state = .active then (s.peer p).ct else s.journal.horizon) ∧
      fits = (s.missing p).length + (seqsUpTo n.next next).length - 8 ∧
      (t.peer p).timeState = some ts ∧
      (si.toNat = s.control.config.si →
        (t.peer p).offset = some ⟨sender + BitVec.ofNat 48 s.control.config.lineDelay -
          (s.timebase.sofCounter + s.timebase.correction), s.timebase.round⟩ ∧ t.fresh p = 2) ∧
      (si.toNat ≠ s.control.config.si →
        (t.peer p).offset = (s.peer p).offset ∧ t.fresh p = s.fresh p) ∧
      (∀ q, q ≠ p → t.fresh q = s.fresh q ∧ t.peer q = s.peer q ∧ t.missing q = s.missing q) ∧
      (seqAfter next n.next = true → (t.peer p).numbering = some { n with next := next } ∧
        (t.peer p).ct = ct ∧
        t.missing p = (s.missing p).drop fits ++
          ((seqsUpTo n.next next).drop (fits - (s.missing p).length)).map (fun q =>
            if s.control.lifecycle = .running then ⟨q, 0, .due 0, false⟩
            else ⟨q, 1, .timing (s.control.config.ri * 1000), false⟩)) ∧
      (seqAfter next n.next = false → (t.peer p).numbering = some n ∧
        t.missing p = s.missing p ∧
        (next = n.next → s.missing p = [] →
          (t.peer p).ct = if ct < settled then settled else ct) ∧
        (next ≠ n.next ∨ s.missing p ≠ [] → (t.peer p).ct = ct)) ∧
      t.repair.originAnswers = s.repair.originAnswers ∧ t.repair.proxy = s.repair.proxy ∧
      ∃ u, u = ((s.takeSender p (.time sender settled next si ts)).declareRuns p .overrun
          (if seqAfter next n.next
            then ((s.missing p).map (·.seq) ++ seqsUpTo n.next next).take fits else [])) ∧
        ((s.peer p).state = .active → (t.peer p).ct = (s.peer p).ct → u.journaledIn t) ∧
        ((s.peer p).state ≠ .active ∨ (t.peer p).ct ≠ (s.peer p).ct →
          ({ u with peers := t.peers } : State).computeHorizon.journaledIn t)

/-- R57 to R61, R72: one record of a frame, against the entry of its origin. At or after the next
sequence it is new: the sequences between become missing and it is offered. A missing one fills its place
and is offered. Any other, and one against an entry that is ABSENT, SELF or without a numbering it may
set, is a duplicate and only counted. -/
def Obligations.RecordsAreNewFillsOrDuplicates : Prop :=
  ∀ (p : Station) (repaired : Bool) (r : Record) (s : State),
    ((s.peer p).state = .absent ∨ (s.peer p).state = .self ∨ ((s.peer p).numbering = none ∧
        ((s.peer p).state = .silent ∨ repaired = true)) →
      s.takeRecord p repaired r = { s with counters := { s.counters with
        duplicates := satInc s.counters.duplicates } }) ∧
    ((s.peer p).state = .active → (s.peer p).numbering = none → repaired = false →
      s.takeRecord p repaired r =
        (s.setNumbering p ⟨r.seq, r.seq⟩).takeRecord p repaired r) ∧
    (∀ n, (s.peer p).state = .active ∨ (s.peer p).state = .silent →
      (s.peer p).numbering = some n →
      (r.seq = n.next ∨ seqAfter r.seq n.next = true → ∃ fits,
        fits = (s.missing p).length + (seqsUpTo n.next r.seq).length - 8 ∧
        s.takeRecord p repaired r =
          (((s.setMissing p ((s.missing p).drop fits ++
            ((seqsUpTo n.next r.seq).drop (fits - (s.missing p).length)).map (fun q =>
              if s.control.lifecycle = .running then ⟨q, 0, .due 0, false⟩
              else ⟨q, 1, .timing (s.control.config.ri * 1000), false⟩))).declareRuns p .overrun
            (((s.missing p).map (·.seq) ++ seqsUpTo n.next r.seq).take fits)).setNumbering p
              ⟨n.base, r.seq + 1⟩).offer r repaired) ∧
      (r.seq ≠ n.next → seqAfter r.seq n.next = false →
        ((∃ m ∈ s.missing p, m.seq = r.seq) → s.takeRecord p repaired r =
          (s.setMissing p ((s.missing p).filter (fun m => m.seq != r.seq))).offer r repaired) ∧
        ((∀ m ∈ s.missing p, m.seq ≠ r.seq) → s.takeRecord p repaired r =
          { s with counters := { s.counters with
            duplicates := satInc s.counters.duplicates } })))

/-- R46, R57, R87, R90: an EVENT frame gives its records, one after another, to the entry of its sender,
and a REPAIR_DATA frame, as repaired, to the entry of its subject, and takes the proxy entries it answers
out. The horizon is computed at the end exactly when the sender was not ACTIVE (log 11). -/
def Obligations.RecordFramesAreTaken : Prop :=
  ∀ (c : Instr) (p subject : Station) (rs : List Record) (repaired : Bool) (f : Frame) (s : State),
    (f = .event rs ∧ subject = p ∧ repaired = false) ∨
      (f = .repairData subject rs ∧ repaired = true) → s.takesValid c p f →
    ∃ t u, exec c s = .next t ∧
      u = rs.foldl (fun v r => v.takeRecord subject repaired r) (s.takeSender p f) ∧
      t.peers = u.peers ∧ t.timebase = s.timebase ∧
      (∀ q, t.missing q = u.missing q) ∧ t.repair.originAnswers = s.repair.originAnswers ∧
      t.repair.proxy = (if repaired then s.repair.proxy.filter (fun e =>
        !(decide (e.subject = subject) && decide (e.seq ∈ rs.map (·.seq)))) else s.repair.proxy) ∧
      ((s.peer p).state = .active → u.journaledIn t) ∧
      ((s.peer p).state ≠ .active → u.computeHorizon.journaledIn t)

/-- R79, R81, R83, R84, R86, R89: the record held of a sequence is the one of that sequence in the
Retained History, if it is there. A REPAIR_REQ that does not name its own sender holds back the named
timing entries once; in RUNNING a request to this station adds one answer while fewer than 4 wait, of the
held records in fours and then the sequences no longer held, and a proxy request one entry for each named
record the journal holds, while fewer than 8 wait. A REPAIR_NONE of the origin itself declares the named
missing sequences lost with EXPIRED. Where the sender was not ACTIVE the horizon is computed at the end,
after the Repair Unit has offered its GAP notes (log 11). -/
def Obligations.RepairFramesAreTaken : Prop :=
  (∀ (c : Instr) (p subject : Station) (proxy : Bool) (seqs : List Seq) (s : State),
    s.takesValid c p (.repairReq subject proxy seqs) → ∃ t, exec c s = .next t ∧
      (subject = p → t.repair = s.repair) ∧
      (∀ q, q ≠ subject → t.missing q = s.missing q) ∧
      (subject ≠ p → t.missing subject = (s.missing subject).map (fun m =>
        if m.seq ∈ seqs ∧ m.timer.isDue = false ∧ m.heard = false then
          { m with timer := .timing (s.control.config.ri * 1000), heard := true } else m)) ∧
      (subject ≠ p → s.own = some subject → t.repair.proxy = s.repair.proxy ∧
        t.repair.originAnswers = if s.control.lifecycle = .running ∧
            s.repair.originAnswers.length < 4
          then s.repair.originAnswers ++ [s.originAnswer subject seqs]
          else s.repair.originAnswers) ∧
      (subject ≠ p → s.own ≠ some subject → t.repair.originAnswers = s.repair.originAnswers ∧
        t.repair.proxy = if proxy = true ∧ s.control.lifecycle = .running
          then s.repair.proxy ++ ((seqs.filter (fun q =>
              (s.journal.lookup (originOf subject) q).isSome &&
                s.repair.proxy.all (fun e => !(e.subject == subject && e.seq == q)))).take
              (8 - s.repair.proxy.length)).map (fun q =>
            ⟨subject, q, .timing (s.control.address.toNat * 1000)⟩)
          else s.repair.proxy) ∧
      ((s.peer p).state = .active → s.journaledIn t) ∧
      ((s.peer p).state ≠ .active →
        (s.takeSender p (.repairReq subject proxy seqs)).computeHorizon.journaledIn t)) ∧
  (∀ (q : Seq) (s : State), (∀ r, s.retained q = some r → r ∈ s.history ∧ r.seq = q) ∧
    (s.retained q = none ↔ ∀ r ∈ s.history, r.seq ≠ q)) ∧
  (∀ (p : Station) (seqs : List Seq) (s : State), ∃ groups : List (List Record),
    s.originAnswer p seqs = groups.map (.repairData p) ++
      (if seqs.all (fun q => (s.retained q).isSome) then []
        else [.repairNone p (seqs.filter (fun q => (s.retained q).isNone))]) ∧
    groups.flatten = seqs.filterMap s.retained ∧
    (∀ g ∈ groups, 1 ≤ g.length ∧ g.length ≤ 4) ∧ (∀ g ∈ groups.dropLast, g.length = 4)) ∧
  (∀ (c : Instr) (p subject : Station) (seqs : List Seq) (s : State),
    s.takesValid c p (.repairNone subject seqs) → ∃ t u, exec c s = .next t ∧
      u = (s.takeSender p (.repairNone subject seqs)).declareRuns p .expired (if subject = p
        then ((s.missing p).filter (fun m => decide (m.seq ∈ seqs))).map (·.seq) else []) ∧
      (∀ q, q ≠ subject → t.missing q = s.missing q) ∧
      (subject ≠ p → t.missing subject = s.missing subject) ∧
      (subject = p → t.missing p = (s.missing p).filter (fun m => decide (m.seq ∉ seqs))) ∧
      t.repair.originAnswers = s.repair.originAnswers ∧ t.repair.proxy = s.repair.proxy ∧
      ((s.peer p).state = .active → u.journaledIn t) ∧
      ((s.peer p).state ≠ .active → u.computeHorizon.journaledIn t))

/-! ### Transmission -/

/-- R55, R56, R112, R113, R147, R148, R154, R172: FRAME_BEGIN when the station may send. HELLO goes
first, then TIME, then the oldest origin answer; each content is fixed now, and the SOF is recorded. When
the station may not send, nothing changes (log 2). -/
def Obligations.FrameBeginSendsTheFirstPlace : Prop :=
  ∀ s : State, s.IrqKept →
    (s.inReset = true ∨ s.line.tx ≠ .free ∨ s.control.lifecycle ≠ .running ∨
      s.line.rx ≠ .idle ∨ s.line.stuck = true → exec .frameBegin s = .next s) ∧
    (s.inReset = false → s.line.tx = .free → s.control.lifecycle = .running → s.line.rx = .idle →
      s.line.stuck = false → ∃ first settled,
      first = ((s.outbound.records.head?.map (·.seq)).getD s.outbound.nextSeq) ∧
      settled ≤ s.ownTerm ∧ (∀ r ∈ s.outbound.records, settled ≤ r.stamp) ∧
      (settled = s.ownTerm ∨ ∃ r ∈ s.outbound.records, settled = r.stamp) ∧
      (s.line.helloOwed = true → exec .frameBegin s = .next (s.sends s.repair.proxy
        (.hello s.control.restartPending)
        (.hello first s.control.restartPending (BitVec.ofNat 16 s.control.config.si)))) ∧
      (s.line.helloOwed = false → s.timebase.timeOwed = true →
        exec .frameBegin s = .next (s.sends s.repair.proxy .time (.time s.now settled first
          (BitVec.ofNat 16 s.control.config.si) s.timebase.timeState))) ∧
      (s.line.helloOwed = false → s.timebase.timeOwed = false → ∀ f frames answers,
        s.repair.originAnswers = (f :: frames) :: answers →
        exec .frameBegin s = .next (s.sends s.repair.proxy .originAnswer f)))

/-- R41, R74, R75, R88, R134, R148, R153: FRAME_BEGIN at its lower places. The record the journal holds of
an origin and sequence is the network record of them in either region. The due proxy entry that has waited
longest is answered with its subject's other due entries, up to 4, from the journal; entries without a
record leave, and with none left the next due entry is tried. Then comes the request for the peer whose
oldest due entry, the first due one in set order, has been due longest (log 9), none without a due entry,
and last, without hold-back, the first records of the queue, up to 4. -/
def Obligations.FrameBeginSendsTheLowerPlaces : Prop :=
  (∀ timer : RepairTimer, (timer.isDue = true ↔ ∃ age, timer = .due age) ∧
    ∀ age, timer = .due age → timer.age = age) ∧
  (∀ (s : State) (p : Station),
    (s.requestAge p = none ↔ ∀ m ∈ s.missing p, m.timer.isDue = false) ∧
    (∀ before m behind age, s.missing p = before ++ m :: behind →
      (∀ x ∈ before, x.timer.isDue = false) → m.timer = .due age → s.requestAge p = some age)) ∧
  (∀ (j : Journal) (origin : Fin 25) (q : Seq),
    (∀ r, j.lookup origin q = some r → (∃ h ∈ j.settling ++ j.released, h.record = r) ∧
      r.isNetwork = true ∧ r.origin = origin ∧ r.seq = q) ∧
    (j.lookup origin q = none ↔ ∀ h ∈ j.settling ++ j.released,
      ¬ (h.record.isNetwork = true ∧ h.record.origin = origin ∧ h.record.seq = q))) ∧
  ∀ s : State, s.IrqKept → s.inReset = false → s.line.tx = .free →
    s.control.lifecycle = .running → s.line.rx = .idle → s.line.stuck = false →
    s.line.helloOwed = false → s.timebase.timeOwed = false → s.repair.originAnswers = [] →
    (∀ before e behind group r rs, s.repair.proxy = before ++ e :: behind → e.timer.isDue = true →
      (∀ x ∈ before, x.timer.isDue = true → x.timer.age < e.timer.age) →
      (∀ x ∈ behind, x.timer.isDue = true → x.timer.age ≤ e.timer.age) →
      group = e :: (s.repair.proxy.filter (fun x => x.timer.isDue && x.subject == e.subject &&
        x.seq != e.seq)).take 3 →
      group.filterMap (fun x => s.journal.lookup (originOf x.subject) x.seq) = r :: rs →
      exec .frameBegin s = .next (s.sends
        (s.repair.proxy.filter (fun x => !(decide (x ∈ group) &&
          (s.journal.lookup (originOf x.subject) x.seq).isNone)))
        (.proxyAnswer e.subject ((r :: rs).map (·.seq))) (.repairData e.subject (r :: rs)))) ∧
    (∀ before e behind group, s.repair.proxy = before ++ e :: behind → e.timer.isDue = true →
      (∀ x ∈ before, x.timer.isDue = true → x.timer.age < e.timer.age) →
      (∀ x ∈ behind, x.timer.isDue = true → x.timer.age ≤ e.timer.age) →
      group = e :: (s.repair.proxy.filter (fun x => x.timer.isDue && x.subject == e.subject &&
        x.seq != e.seq)).take 3 →
      (∀ x ∈ group, s.journal.lookup (originOf x.subject) x.seq = none) →
      (∃ x ∈ s.repair.proxy, x.timer.isDue = true ∧
        s.journal.lookup (originOf x.subject) x.seq ≠ none) →
      exec .frameBegin s = exec .frameBegin { s with repair := { s.repair with
        proxy := s.repair.proxy.filter (fun x => !decide (x ∈ group)) } }) ∧
    ((∀ x ∈ s.repair.proxy, x.timer.isDue = true →
        s.journal.lookup (originOf x.subject) x.seq = none) →
      (∀ p age, s.requestAge p = some age →
        (∀ q other, s.requestAge q = some other → other ≤ age ∧ (q < p → other < age)) →
        ∃ flag : Bool, (flag = true ↔ (s.peer p).state = .silent ∨ ∃ m ∈ s.missing p,
            m.timer.isDue = true ∧ m.tries + 1 = s.control.config.retries) ∧
          exec .frameBegin s = .next (s.sends
            (s.repair.proxy.filter (fun x => !x.timer.isDue))
            (.repairReq p (((s.missing p).filter (·.timer.isDue)).map (·.seq)))
            (.repairReq p flag (((s.missing p).filter (·.timer.isDue)).map (·.seq))))) ∧
      ((∀ p, ∀ m ∈ s.missing p, m.timer.isDue = false) →
        (s.outbound.records ≠ [] → s.line.holdBack = false →
          exec .frameBegin s = .next (s.sends
            (s.repair.proxy.filter (fun x => !x.timer.isDue))
            (.event (min 4 s.outbound.records.length)) (.event (s.outbound.records.take 4)))) ∧
        (s.outbound.records = [] ∨ s.line.holdBack = true → exec .frameBegin s = .next s)))

/-- R142, R149 to R151, R175: ARBITRATION_LOSS gives the frame up and reads on, ARBITRATION_WON goes on
SENDING, and BIT_ERROR aborts the frame; each consumes nothing the frame carried. The sixteenth abort in
a row is a line fault and makes QUIET. None is taken in another transmitter state (log 2), nor against what
the station has read itself; a row it has not read itself tells the bits (log 6). -/
def Obligations.TransmitterEvents : Prop :=
  ∀ s : State, (s.IrqKept →
      (s.line.tx = .arbitrating → s.line.misread = false → ∃ t, exec .arbitrationWon s = .next t ∧
        t.line.tx = .sending ∧ s.changesOnly t [.line] ∧
        (s.line.sent = 10 → t.line = { s.line with tx := .sending }) ∧
        (s.line.sent ≠ 10 → s.line.rx = .receiving → ∀ f, s.line.prepared = some f →
          t.line = { s.line with
            tx := .sending, sent := 10, bits := [],
            bytes := (encodeFrame s.ownOrigin f.frame).take 1, bitPhase := s.justRead,
            releasedRun := t.line.releasedRun, drivenRun := 0 } ∧
          1 ≤ t.line.releasedRun ∧ t.line.releasedRun ≤ 9)) ∧
      (s.line.tx = .arbitrating → exec .arbitrationLoss s = .next { s with
        line := { s.line with
          tx := .free, prepared := none, sent := 0, misread := false, echo := false,
          bits := if s.line.misread then s.line.bits else [],
          bytes := if s.line.misread then s.line.bytes else [] }
        medium := if s.line.misread then s.medium else ⟨false, [], true⟩
        counters := { s.counters with
          arbitrationLosses := satInc s.counters.arbitrationLosses } }) ∧
      (s.line.tx ≠ .arbitrating ∨ s.line.misread = true → exec .arbitrationWon s = .next s) ∧
      (s.line.tx ≠ .arbitrating → exec .arbitrationLoss s = .next s) ∧
      (s.line.tx = .sending ∨ (s.line.tx = .arbitrating ∧ s.line.misread = false) →
        s.line.failures < 15 → exec .bitError s = .next { s with
        line := { s.line with
          tx := .free, prepared := none, sent := 0, misread := false,
          failures := s.line.failures + 1 }
        counters := { s.counters with bitErrors := satInc s.counters.bitErrors } }) ∧
      (s.line.tx = .free ∨ (s.line.tx = .arbitrating ∧ s.line.misread = true) →
        exec .bitError s = .next s)) ∧
    (s.line.tx = .sending ∨ (s.line.tx = .arbitrating ∧ s.line.misread = false) →
      s.line.failures = 15 → ∃ t, exec .bitError s = .next t ∧
      s.quietened .lineFault t ∧ t.line.failures = 16 ∧ t.line.rx = s.line.rx ∧
      t.line.echo = s.line.echo ∧
      t.counters = { s.counters with bitErrors := satInc s.counters.bitErrors } ∧
      s.changesOnly t [.line, .counters, .control, .timebase, .repair, .host])

/-- R55, R76, R84, R88, R112, R133, R136, R138, R142, R151 to R153, R173: FRAME_COMPLETE frees the
transmitter, clears the failure count, drives the last CRC bit on to the end of its bit time, if it is a 0,
and lets the supplying block consume what the frame carried (of a request, the covered entries still due,
log 24). After EVENT hold-back is set, the records sent join the last 64 of the history, and lost captures
become one LOSS record. Where the station has not read the frame's bits back itself, the row tells that they
matched (log 6). -/
def Obligations.CompletionConsumesWhatWasSent : Prop :=
  ∀ (s : State) (src : Source) (f : Frame), s.line.tx = .sending → s.line.misread = false →
    s.line.prepared = some ⟨src, f⟩ → ∃ t, exec .frameComplete s = .next t ∧
      t.line = { s.line with
        tx := .free, prepared := none, sent := 0, failures := 0, helloOwed := t.line.helloOwed,
        holdBack := t.line.holdBack, bits := t.line.bits, bytes := t.line.bytes,
        releasedRun := t.line.releasedRun, drivenRun := t.line.drivenRun,
        bitPhase := t.line.bitPhase, driving := t.line.driving } ∧
      (t.line.driving = true ↔ s.control.bitRate.middle ≤ t.line.bitPhase ∧
        ((encodeFrame s.ownOrigin f).getLastD 0).getLsbD 0 = false) ∧
      (s.line.sent + 1 = 10 * (encodeFrame s.ownOrigin f).length →
        t.line.bits = s.line.bits ∧ t.line.bytes = s.line.bytes ∧
        t.line.releasedRun = s.line.releasedRun ∧ t.line.drivenRun = s.line.drivenRun ∧
        t.line.bitPhase = s.line.bitPhase) ∧
      (s.line.sent + 1 ≠ 10 * (encodeFrame s.ownOrigin f).length → s.line.rx = .receiving →
        t.line.bytes = (encodeFrame s.ownOrigin f).dropLast ∧
        t.line.bits = false :: dataBits ((encodeFrame s.ownOrigin f).getLastD 0) ∧
        t.line.bitPhase = s.justRead) ∧
      t.control = { s.control with restartPending := t.control.restartPending } ∧
      (∀ restart, src = .hello restart → t.line.helloOwed = false ∧
        t.control.restartPending = (if restart then false else s.control.restartPending) ∧
        t.line.holdBack = s.line.holdBack ∧ s.changesOnly t [.line, .control, .host]) ∧
      ((∀ restart, src ≠ .hello restart) → t.line.helloOwed = s.line.helloOwed ∧
        t.control = s.control) ∧
      ((∀ n, src ≠ .event n) → t.line.holdBack = s.line.holdBack) ∧
      (src = .time → t.timebase = { s.timebase with timeOwed := false } ∧
        s.changesOnly t [.line, .timebase, .host]) ∧
      (src = .originAnswer → t.repair = { s.repair with
          originAnswers := t.repair.originAnswers } ∧
        (∀ g more, s.repair.originAnswers = [g] :: more → t.repair.originAnswers = more) ∧
        (∀ g g' gs more, s.repair.originAnswers = (g :: g' :: gs) :: more →
          t.repair.originAnswers = (g' :: gs) :: more) ∧
        s.changesOnly t [.line, .repair, .host]) ∧
      (∀ p seqs, src = .proxyAnswer p seqs → t.repair = { s.repair with
          proxy := s.repair.proxy.filter (fun e =>
            !(decide (e.subject = p) && decide (e.seq ∈ seqs))) } ∧
        s.changesOnly t [.line, .repair, .host]) ∧
      (∀ p seqs, src = .repairReq p seqs →
        t.missing p = (s.missing p).map (fun m =>
          if m.seq ∈ seqs ∧ m.timer.isDue = true then
            { m with tries := m.tries + 1, timer := .timing (s.control.config.ri * 1000),
                     heard := false } else m) ∧
        (∀ q, q ≠ p → t.missing q = s.missing q) ∧
        t.repair.originAnswers = s.repair.originAnswers ∧ t.repair.proxy = s.repair.proxy ∧
        s.changesOnly t [.line, .repair, .host]) ∧
      (∀ n, src = .event n → t.line.holdBack = true ∧
        t.history = (s.history ++ s.outbound.records.take n).drop
          ((s.history ++ s.outbound.records.take n).length - 64) ∧
        (s.outbound.lost = 0 →
          t.outbound = { s.outbound with records := s.outbound.records.drop n } ∧
          s.journaledIn t) ∧
        (s.outbound.lost ≠ 0 → ∃ r : Record,
          r = ⟨s.ownOrigin, s.outbound.nextSeq, s.now, s.timebase.timeState,
            .loss s.outbound.lost⟩ ∧
          t.outbound =
            ⟨s.outbound.records.drop n ++ [r], s.outbound.nextSeq + 1, 0⟩ ∧
          (s.offer r false).journaledIn t) ∧
        s.changesOnly t [.line, .outbound, .history, .journal, .counters, .host])
end

