-- ==== Sys2Proof/Laws/State.lean ====
section
/-! SUPPORT. The small lemmas of State: what each update leaves as it is, one per block, and what is
read back from the tables. -/

namespace Sys2Proof.Machine

open Sys2Proof

/-! ### Updates and the blocks they leave -/

@[simp] theorem State.setInput_inReset (s : State) (i : Fin 16) (x : Input) : (s.setInput i x).inReset = s.inReset := rfl
@[simp] theorem State.setInput_pins (s : State) (i : Fin 16) (x : Input) : (s.setInput i x).pins = s.pins := rfl
@[simp] theorem State.setInput_selLow (s : State) (i : Fin 16) (x : Input) : (s.setInput i x).selLow = s.selLow := rfl
@[simp] theorem State.setInput_wires (s : State) (i : Fin 16) (x : Input) : (s.setInput i x).wires = s.wires := rfl
@[simp] theorem State.setInput_medium (s : State) (i : Fin 16) (x : Input) : (s.setInput i x).medium = s.medium := rfl
@[simp] theorem State.setInput_control (s : State) (i : Fin 16) (x : Input) : (s.setInput i x).control = s.control := rfl
@[simp] theorem State.setInput_outbound (s : State) (i : Fin 16) (x : Input) : (s.setInput i x).outbound = s.outbound := rfl
@[simp] theorem State.setInput_history (s : State) (i : Fin 16) (x : Input) : (s.setInput i x).history = s.history := rfl
@[simp] theorem State.setInput_line (s : State) (i : Fin 16) (x : Input) : (s.setInput i x).line = s.line := rfl
@[simp] theorem State.setInput_counters (s : State) (i : Fin 16) (x : Input) : (s.setInput i x).counters = s.counters := rfl
@[simp] theorem State.setInput_timebase (s : State) (i : Fin 16) (x : Input) : (s.setInput i x).timebase = s.timebase := rfl
@[simp] theorem State.setInput_ticks (s : State) (i : Fin 16) (x : Input) : (s.setInput i x).ticks = s.ticks := rfl
@[simp] theorem State.setInput_peers (s : State) (i : Fin 16) (x : Input) : (s.setInput i x).peers = s.peers := rfl
@[simp] theorem State.setInput_repair (s : State) (i : Fin 16) (x : Input) : (s.setInput i x).repair = s.repair := rfl
@[simp] theorem State.setInput_journal (s : State) (i : Fin 16) (x : Input) : (s.setInput i x).journal = s.journal := rfl
@[simp] theorem State.setInput_host (s : State) (i : Fin 16) (x : Input) : (s.setInput i x).host = s.host := rfl
@[simp] theorem State.setInput_pending (s : State) (i : Fin 16) (x : Input) : (s.setInput i x).pending = s.pending := rfl
@[simp] theorem State.setInput_choices (s : State) (i : Fin 16) (x : Input) : (s.setInput i x).choices = s.choices := rfl

@[simp] theorem State.setPeer_inReset (s : State) (p : Station) (e : PeerEntry) : (s.setPeer p e).inReset = s.inReset := rfl
@[simp] theorem State.setPeer_pins (s : State) (p : Station) (e : PeerEntry) : (s.setPeer p e).pins = s.pins := rfl
@[simp] theorem State.setPeer_selLow (s : State) (p : Station) (e : PeerEntry) : (s.setPeer p e).selLow = s.selLow := rfl
@[simp] theorem State.setPeer_wires (s : State) (p : Station) (e : PeerEntry) : (s.setPeer p e).wires = s.wires := rfl
@[simp] theorem State.setPeer_medium (s : State) (p : Station) (e : PeerEntry) : (s.setPeer p e).medium = s.medium := rfl
@[simp] theorem State.setPeer_control (s : State) (p : Station) (e : PeerEntry) : (s.setPeer p e).control = s.control := rfl
@[simp] theorem State.setPeer_inputs (s : State) (p : Station) (e : PeerEntry) : (s.setPeer p e).inputs = s.inputs := rfl
@[simp] theorem State.setPeer_outbound (s : State) (p : Station) (e : PeerEntry) : (s.setPeer p e).outbound = s.outbound := rfl
@[simp] theorem State.setPeer_history (s : State) (p : Station) (e : PeerEntry) : (s.setPeer p e).history = s.history := rfl
@[simp] theorem State.setPeer_line (s : State) (p : Station) (e : PeerEntry) : (s.setPeer p e).line = s.line := rfl
@[simp] theorem State.setPeer_counters (s : State) (p : Station) (e : PeerEntry) : (s.setPeer p e).counters = s.counters := rfl
@[simp] theorem State.setPeer_timebase (s : State) (p : Station) (e : PeerEntry) : (s.setPeer p e).timebase = s.timebase := rfl
@[simp] theorem State.setPeer_ticks (s : State) (p : Station) (e : PeerEntry) : (s.setPeer p e).ticks = s.ticks := rfl
@[simp] theorem State.setPeer_repair (s : State) (p : Station) (e : PeerEntry) : (s.setPeer p e).repair = s.repair := rfl
@[simp] theorem State.setPeer_journal (s : State) (p : Station) (e : PeerEntry) : (s.setPeer p e).journal = s.journal := rfl
@[simp] theorem State.setPeer_host (s : State) (p : Station) (e : PeerEntry) : (s.setPeer p e).host = s.host := rfl
@[simp] theorem State.setPeer_pending (s : State) (p : Station) (e : PeerEntry) : (s.setPeer p e).pending = s.pending := rfl
@[simp] theorem State.setPeer_choices (s : State) (p : Station) (e : PeerEntry) : (s.setPeer p e).choices = s.choices := rfl

@[simp] theorem State.setMissing_inReset (s : State) (p : Station) (set : List Missing) : (s.setMissing p set).inReset = s.inReset := rfl
@[simp] theorem State.setMissing_pins (s : State) (p : Station) (set : List Missing) : (s.setMissing p set).pins = s.pins := rfl
@[simp] theorem State.setMissing_selLow (s : State) (p : Station) (set : List Missing) : (s.setMissing p set).selLow = s.selLow := rfl
@[simp] theorem State.setMissing_wires (s : State) (p : Station) (set : List Missing) : (s.setMissing p set).wires = s.wires := rfl
@[simp] theorem State.setMissing_medium (s : State) (p : Station) (set : List Missing) : (s.setMissing p set).medium = s.medium := rfl
@[simp] theorem State.setMissing_control (s : State) (p : Station) (set : List Missing) : (s.setMissing p set).control = s.control := rfl
@[simp] theorem State.setMissing_inputs (s : State) (p : Station) (set : List Missing) : (s.setMissing p set).inputs = s.inputs := rfl
@[simp] theorem State.setMissing_outbound (s : State) (p : Station) (set : List Missing) : (s.setMissing p set).outbound = s.outbound := rfl
@[simp] theorem State.setMissing_history (s : State) (p : Station) (set : List Missing) : (s.setMissing p set).history = s.history := rfl
@[simp] theorem State.setMissing_line (s : State) (p : Station) (set : List Missing) : (s.setMissing p set).line = s.line := rfl
@[simp] theorem State.setMissing_counters (s : State) (p : Station) (set : List Missing) : (s.setMissing p set).counters = s.counters := rfl
@[simp] theorem State.setMissing_timebase (s : State) (p : Station) (set : List Missing) : (s.setMissing p set).timebase = s.timebase := rfl
@[simp] theorem State.setMissing_ticks (s : State) (p : Station) (set : List Missing) : (s.setMissing p set).ticks = s.ticks := rfl
@[simp] theorem State.setMissing_peers (s : State) (p : Station) (set : List Missing) : (s.setMissing p set).peers = s.peers := rfl
@[simp] theorem State.setMissing_journal (s : State) (p : Station) (set : List Missing) : (s.setMissing p set).journal = s.journal := rfl
@[simp] theorem State.setMissing_host (s : State) (p : Station) (set : List Missing) : (s.setMissing p set).host = s.host := rfl
@[simp] theorem State.setMissing_pending (s : State) (p : Station) (set : List Missing) : (s.setMissing p set).pending = s.pending := rfl
@[simp] theorem State.setMissing_choices (s : State) (p : Station) (set : List Missing) : (s.setMissing p set).choices = s.choices := rfl

@[simp] theorem State.settleIrq_inReset (s : State) : (s.settleIrq).inReset = s.inReset := rfl
@[simp] theorem State.settleIrq_pins (s : State) : (s.settleIrq).pins = s.pins := rfl
@[simp] theorem State.settleIrq_selLow (s : State) : (s.settleIrq).selLow = s.selLow := rfl
@[simp] theorem State.settleIrq_wires (s : State) : (s.settleIrq).wires = s.wires := rfl
@[simp] theorem State.settleIrq_medium (s : State) : (s.settleIrq).medium = s.medium := rfl
@[simp] theorem State.settleIrq_control (s : State) : (s.settleIrq).control = s.control := rfl
@[simp] theorem State.settleIrq_inputs (s : State) : (s.settleIrq).inputs = s.inputs := rfl
@[simp] theorem State.settleIrq_outbound (s : State) : (s.settleIrq).outbound = s.outbound := rfl
@[simp] theorem State.settleIrq_history (s : State) : (s.settleIrq).history = s.history := rfl
@[simp] theorem State.settleIrq_line (s : State) : (s.settleIrq).line = s.line := rfl
@[simp] theorem State.settleIrq_counters (s : State) : (s.settleIrq).counters = s.counters := rfl
@[simp] theorem State.settleIrq_timebase (s : State) : (s.settleIrq).timebase = s.timebase := rfl
@[simp] theorem State.settleIrq_ticks (s : State) : (s.settleIrq).ticks = s.ticks := rfl
@[simp] theorem State.settleIrq_peers (s : State) : (s.settleIrq).peers = s.peers := rfl
@[simp] theorem State.settleIrq_repair (s : State) : (s.settleIrq).repair = s.repair := rfl
@[simp] theorem State.settleIrq_journal (s : State) : (s.settleIrq).journal = s.journal := rfl
@[simp] theorem State.settleIrq_pending (s : State) : (s.settleIrq).pending = s.pending := rfl
@[simp] theorem State.settleIrq_choices (s : State) : (s.settleIrq).choices = s.choices := rfl

@[simp] theorem State.setDropFlag_inReset (s : State) : (s.setDropFlag).inReset = s.inReset := rfl
@[simp] theorem State.setDropFlag_pins (s : State) : (s.setDropFlag).pins = s.pins := rfl
@[simp] theorem State.setDropFlag_selLow (s : State) : (s.setDropFlag).selLow = s.selLow := rfl
@[simp] theorem State.setDropFlag_wires (s : State) : (s.setDropFlag).wires = s.wires := rfl
@[simp] theorem State.setDropFlag_medium (s : State) : (s.setDropFlag).medium = s.medium := rfl
@[simp] theorem State.setDropFlag_control (s : State) : (s.setDropFlag).control = s.control := rfl
@[simp] theorem State.setDropFlag_inputs (s : State) : (s.setDropFlag).inputs = s.inputs := rfl
@[simp] theorem State.setDropFlag_outbound (s : State) : (s.setDropFlag).outbound = s.outbound := rfl
@[simp] theorem State.setDropFlag_history (s : State) : (s.setDropFlag).history = s.history := rfl
@[simp] theorem State.setDropFlag_line (s : State) : (s.setDropFlag).line = s.line := rfl
@[simp] theorem State.setDropFlag_counters (s : State) : (s.setDropFlag).counters = s.counters := rfl
@[simp] theorem State.setDropFlag_timebase (s : State) : (s.setDropFlag).timebase = s.timebase := rfl
@[simp] theorem State.setDropFlag_ticks (s : State) : (s.setDropFlag).ticks = s.ticks := rfl
@[simp] theorem State.setDropFlag_peers (s : State) : (s.setDropFlag).peers = s.peers := rfl
@[simp] theorem State.setDropFlag_repair (s : State) : (s.setDropFlag).repair = s.repair := rfl
@[simp] theorem State.setDropFlag_journal (s : State) : (s.setDropFlag).journal = s.journal := rfl
@[simp] theorem State.setDropFlag_pending (s : State) : (s.setDropFlag).pending = s.pending := rfl
@[simp] theorem State.setDropFlag_choices (s : State) : (s.setDropFlag).choices = s.choices := rfl

@[simp] theorem State.setQuietFlag_inReset (s : State) : (s.setQuietFlag).inReset = s.inReset := rfl
@[simp] theorem State.setQuietFlag_pins (s : State) : (s.setQuietFlag).pins = s.pins := rfl
@[simp] theorem State.setQuietFlag_selLow (s : State) : (s.setQuietFlag).selLow = s.selLow := rfl
@[simp] theorem State.setQuietFlag_wires (s : State) : (s.setQuietFlag).wires = s.wires := rfl
@[simp] theorem State.setQuietFlag_medium (s : State) : (s.setQuietFlag).medium = s.medium := rfl
@[simp] theorem State.setQuietFlag_control (s : State) : (s.setQuietFlag).control = s.control := rfl
@[simp] theorem State.setQuietFlag_inputs (s : State) : (s.setQuietFlag).inputs = s.inputs := rfl
@[simp] theorem State.setQuietFlag_outbound (s : State) : (s.setQuietFlag).outbound = s.outbound := rfl
@[simp] theorem State.setQuietFlag_history (s : State) : (s.setQuietFlag).history = s.history := rfl
@[simp] theorem State.setQuietFlag_line (s : State) : (s.setQuietFlag).line = s.line := rfl
@[simp] theorem State.setQuietFlag_counters (s : State) : (s.setQuietFlag).counters = s.counters := rfl
@[simp] theorem State.setQuietFlag_timebase (s : State) : (s.setQuietFlag).timebase = s.timebase := rfl
@[simp] theorem State.setQuietFlag_ticks (s : State) : (s.setQuietFlag).ticks = s.ticks := rfl
@[simp] theorem State.setQuietFlag_peers (s : State) : (s.setQuietFlag).peers = s.peers := rfl
@[simp] theorem State.setQuietFlag_repair (s : State) : (s.setQuietFlag).repair = s.repair := rfl
@[simp] theorem State.setQuietFlag_journal (s : State) : (s.setQuietFlag).journal = s.journal := rfl
@[simp] theorem State.setQuietFlag_pending (s : State) : (s.setQuietFlag).pending = s.pending := rfl
@[simp] theorem State.setQuietFlag_choices (s : State) : (s.setQuietFlag).choices = s.choices := rfl

@[simp] theorem State.countCrc_inReset (s : State) : (s.countCrc).inReset = s.inReset := rfl
@[simp] theorem State.countCrc_pins (s : State) : (s.countCrc).pins = s.pins := rfl
@[simp] theorem State.countCrc_selLow (s : State) : (s.countCrc).selLow = s.selLow := rfl
@[simp] theorem State.countCrc_wires (s : State) : (s.countCrc).wires = s.wires := rfl
@[simp] theorem State.countCrc_medium (s : State) : (s.countCrc).medium = s.medium := rfl
@[simp] theorem State.countCrc_control (s : State) : (s.countCrc).control = s.control := rfl
@[simp] theorem State.countCrc_inputs (s : State) : (s.countCrc).inputs = s.inputs := rfl
@[simp] theorem State.countCrc_outbound (s : State) : (s.countCrc).outbound = s.outbound := rfl
@[simp] theorem State.countCrc_history (s : State) : (s.countCrc).history = s.history := rfl
@[simp] theorem State.countCrc_line (s : State) : (s.countCrc).line = s.line := rfl
@[simp] theorem State.countCrc_timebase (s : State) : (s.countCrc).timebase = s.timebase := rfl
@[simp] theorem State.countCrc_ticks (s : State) : (s.countCrc).ticks = s.ticks := rfl
@[simp] theorem State.countCrc_peers (s : State) : (s.countCrc).peers = s.peers := rfl
@[simp] theorem State.countCrc_repair (s : State) : (s.countCrc).repair = s.repair := rfl
@[simp] theorem State.countCrc_journal (s : State) : (s.countCrc).journal = s.journal := rfl
@[simp] theorem State.countCrc_host (s : State) : (s.countCrc).host = s.host := rfl
@[simp] theorem State.countCrc_pending (s : State) : (s.countCrc).pending = s.pending := rfl
@[simp] theorem State.countCrc_choices (s : State) : (s.countCrc).choices = s.choices := rfl

@[simp] theorem State.countTruncated_inReset (s : State) : (s.countTruncated).inReset = s.inReset := rfl
@[simp] theorem State.countTruncated_pins (s : State) : (s.countTruncated).pins = s.pins := rfl
@[simp] theorem State.countTruncated_selLow (s : State) : (s.countTruncated).selLow = s.selLow := rfl
@[simp] theorem State.countTruncated_wires (s : State) : (s.countTruncated).wires = s.wires := rfl
@[simp] theorem State.countTruncated_medium (s : State) : (s.countTruncated).medium = s.medium := rfl
@[simp] theorem State.countTruncated_control (s : State) : (s.countTruncated).control = s.control := rfl
@[simp] theorem State.countTruncated_inputs (s : State) : (s.countTruncated).inputs = s.inputs := rfl
@[simp] theorem State.countTruncated_outbound (s : State) : (s.countTruncated).outbound = s.outbound := rfl
@[simp] theorem State.countTruncated_history (s : State) : (s.countTruncated).history = s.history := rfl
@[simp] theorem State.countTruncated_line (s : State) : (s.countTruncated).line = s.line := rfl
@[simp] theorem State.countTruncated_timebase (s : State) : (s.countTruncated).timebase = s.timebase := rfl
@[simp] theorem State.countTruncated_ticks (s : State) : (s.countTruncated).ticks = s.ticks := rfl
@[simp] theorem State.countTruncated_peers (s : State) : (s.countTruncated).peers = s.peers := rfl
@[simp] theorem State.countTruncated_repair (s : State) : (s.countTruncated).repair = s.repair := rfl
@[simp] theorem State.countTruncated_journal (s : State) : (s.countTruncated).journal = s.journal := rfl
@[simp] theorem State.countTruncated_host (s : State) : (s.countTruncated).host = s.host := rfl
@[simp] theorem State.countTruncated_pending (s : State) : (s.countTruncated).pending = s.pending := rfl
@[simp] theorem State.countTruncated_choices (s : State) : (s.countTruncated).choices = s.choices := rfl

@[simp] theorem State.countFormat_inReset (s : State) : (s.countFormat).inReset = s.inReset := rfl
@[simp] theorem State.countFormat_pins (s : State) : (s.countFormat).pins = s.pins := rfl
@[simp] theorem State.countFormat_selLow (s : State) : (s.countFormat).selLow = s.selLow := rfl
@[simp] theorem State.countFormat_wires (s : State) : (s.countFormat).wires = s.wires := rfl
@[simp] theorem State.countFormat_medium (s : State) : (s.countFormat).medium = s.medium := rfl
@[simp] theorem State.countFormat_control (s : State) : (s.countFormat).control = s.control := rfl
@[simp] theorem State.countFormat_inputs (s : State) : (s.countFormat).inputs = s.inputs := rfl
@[simp] theorem State.countFormat_outbound (s : State) : (s.countFormat).outbound = s.outbound := rfl
@[simp] theorem State.countFormat_history (s : State) : (s.countFormat).history = s.history := rfl
@[simp] theorem State.countFormat_line (s : State) : (s.countFormat).line = s.line := rfl
@[simp] theorem State.countFormat_timebase (s : State) : (s.countFormat).timebase = s.timebase := rfl
@[simp] theorem State.countFormat_ticks (s : State) : (s.countFormat).ticks = s.ticks := rfl
@[simp] theorem State.countFormat_peers (s : State) : (s.countFormat).peers = s.peers := rfl
@[simp] theorem State.countFormat_repair (s : State) : (s.countFormat).repair = s.repair := rfl
@[simp] theorem State.countFormat_journal (s : State) : (s.countFormat).journal = s.journal := rfl
@[simp] theorem State.countFormat_host (s : State) : (s.countFormat).host = s.host := rfl
@[simp] theorem State.countFormat_pending (s : State) : (s.countFormat).pending = s.pending := rfl
@[simp] theorem State.countFormat_choices (s : State) : (s.countFormat).choices = s.choices := rfl

@[simp] theorem State.countDuplicate_inReset (s : State) : (s.countDuplicate).inReset = s.inReset := rfl
@[simp] theorem State.countDuplicate_pins (s : State) : (s.countDuplicate).pins = s.pins := rfl
@[simp] theorem State.countDuplicate_selLow (s : State) : (s.countDuplicate).selLow = s.selLow := rfl
@[simp] theorem State.countDuplicate_wires (s : State) : (s.countDuplicate).wires = s.wires := rfl
@[simp] theorem State.countDuplicate_medium (s : State) : (s.countDuplicate).medium = s.medium := rfl
@[simp] theorem State.countDuplicate_control (s : State) : (s.countDuplicate).control = s.control := rfl
@[simp] theorem State.countDuplicate_inputs (s : State) : (s.countDuplicate).inputs = s.inputs := rfl
@[simp] theorem State.countDuplicate_outbound (s : State) : (s.countDuplicate).outbound = s.outbound := rfl
@[simp] theorem State.countDuplicate_history (s : State) : (s.countDuplicate).history = s.history := rfl
@[simp] theorem State.countDuplicate_line (s : State) : (s.countDuplicate).line = s.line := rfl
@[simp] theorem State.countDuplicate_timebase (s : State) : (s.countDuplicate).timebase = s.timebase := rfl
@[simp] theorem State.countDuplicate_ticks (s : State) : (s.countDuplicate).ticks = s.ticks := rfl
@[simp] theorem State.countDuplicate_peers (s : State) : (s.countDuplicate).peers = s.peers := rfl
@[simp] theorem State.countDuplicate_repair (s : State) : (s.countDuplicate).repair = s.repair := rfl
@[simp] theorem State.countDuplicate_journal (s : State) : (s.countDuplicate).journal = s.journal := rfl
@[simp] theorem State.countDuplicate_host (s : State) : (s.countDuplicate).host = s.host := rfl
@[simp] theorem State.countDuplicate_pending (s : State) : (s.countDuplicate).pending = s.pending := rfl
@[simp] theorem State.countDuplicate_choices (s : State) : (s.countDuplicate).choices = s.choices := rfl

@[simp] theorem State.countBitError_inReset (s : State) : (s.countBitError).inReset = s.inReset := rfl
@[simp] theorem State.countBitError_pins (s : State) : (s.countBitError).pins = s.pins := rfl
@[simp] theorem State.countBitError_selLow (s : State) : (s.countBitError).selLow = s.selLow := rfl
@[simp] theorem State.countBitError_wires (s : State) : (s.countBitError).wires = s.wires := rfl
@[simp] theorem State.countBitError_medium (s : State) : (s.countBitError).medium = s.medium := rfl
@[simp] theorem State.countBitError_control (s : State) : (s.countBitError).control = s.control := rfl
@[simp] theorem State.countBitError_inputs (s : State) : (s.countBitError).inputs = s.inputs := rfl
@[simp] theorem State.countBitError_outbound (s : State) : (s.countBitError).outbound = s.outbound := rfl
@[simp] theorem State.countBitError_history (s : State) : (s.countBitError).history = s.history := rfl
@[simp] theorem State.countBitError_line (s : State) : (s.countBitError).line = s.line := rfl
@[simp] theorem State.countBitError_timebase (s : State) : (s.countBitError).timebase = s.timebase := rfl
@[simp] theorem State.countBitError_ticks (s : State) : (s.countBitError).ticks = s.ticks := rfl
@[simp] theorem State.countBitError_peers (s : State) : (s.countBitError).peers = s.peers := rfl
@[simp] theorem State.countBitError_repair (s : State) : (s.countBitError).repair = s.repair := rfl
@[simp] theorem State.countBitError_journal (s : State) : (s.countBitError).journal = s.journal := rfl
@[simp] theorem State.countBitError_host (s : State) : (s.countBitError).host = s.host := rfl
@[simp] theorem State.countBitError_pending (s : State) : (s.countBitError).pending = s.pending := rfl
@[simp] theorem State.countBitError_choices (s : State) : (s.countBitError).choices = s.choices := rfl

@[simp] theorem State.countArbitrationLoss_inReset (s : State) : (s.countArbitrationLoss).inReset = s.inReset := rfl
@[simp] theorem State.countArbitrationLoss_pins (s : State) : (s.countArbitrationLoss).pins = s.pins := rfl
@[simp] theorem State.countArbitrationLoss_selLow (s : State) : (s.countArbitrationLoss).selLow = s.selLow := rfl
@[simp] theorem State.countArbitrationLoss_wires (s : State) : (s.countArbitrationLoss).wires = s.wires := rfl
@[simp] theorem State.countArbitrationLoss_medium (s : State) : (s.countArbitrationLoss).medium = s.medium := rfl
@[simp] theorem State.countArbitrationLoss_control (s : State) : (s.countArbitrationLoss).control = s.control := rfl
@[simp] theorem State.countArbitrationLoss_inputs (s : State) : (s.countArbitrationLoss).inputs = s.inputs := rfl
@[simp] theorem State.countArbitrationLoss_outbound (s : State) : (s.countArbitrationLoss).outbound = s.outbound := rfl
@[simp] theorem State.countArbitrationLoss_history (s : State) : (s.countArbitrationLoss).history = s.history := rfl
@[simp] theorem State.countArbitrationLoss_line (s : State) : (s.countArbitrationLoss).line = s.line := rfl
@[simp] theorem State.countArbitrationLoss_timebase (s : State) : (s.countArbitrationLoss).timebase = s.timebase := rfl
@[simp] theorem State.countArbitrationLoss_ticks (s : State) : (s.countArbitrationLoss).ticks = s.ticks := rfl
@[simp] theorem State.countArbitrationLoss_peers (s : State) : (s.countArbitrationLoss).peers = s.peers := rfl
@[simp] theorem State.countArbitrationLoss_repair (s : State) : (s.countArbitrationLoss).repair = s.repair := rfl
@[simp] theorem State.countArbitrationLoss_journal (s : State) : (s.countArbitrationLoss).journal = s.journal := rfl
@[simp] theorem State.countArbitrationLoss_host (s : State) : (s.countArbitrationLoss).host = s.host := rfl
@[simp] theorem State.countArbitrationLoss_pending (s : State) : (s.countArbitrationLoss).pending = s.pending := rfl
@[simp] theorem State.countArbitrationLoss_choices (s : State) : (s.countArbitrationLoss).choices = s.choices := rfl

@[simp] theorem State.countDrop_inReset (s : State) : (s.countDrop).inReset = s.inReset := rfl
@[simp] theorem State.countDrop_pins (s : State) : (s.countDrop).pins = s.pins := rfl
@[simp] theorem State.countDrop_selLow (s : State) : (s.countDrop).selLow = s.selLow := rfl
@[simp] theorem State.countDrop_wires (s : State) : (s.countDrop).wires = s.wires := rfl
@[simp] theorem State.countDrop_medium (s : State) : (s.countDrop).medium = s.medium := rfl
@[simp] theorem State.countDrop_control (s : State) : (s.countDrop).control = s.control := rfl
@[simp] theorem State.countDrop_inputs (s : State) : (s.countDrop).inputs = s.inputs := rfl
@[simp] theorem State.countDrop_outbound (s : State) : (s.countDrop).outbound = s.outbound := rfl
@[simp] theorem State.countDrop_history (s : State) : (s.countDrop).history = s.history := rfl
@[simp] theorem State.countDrop_line (s : State) : (s.countDrop).line = s.line := rfl
@[simp] theorem State.countDrop_timebase (s : State) : (s.countDrop).timebase = s.timebase := rfl
@[simp] theorem State.countDrop_ticks (s : State) : (s.countDrop).ticks = s.ticks := rfl
@[simp] theorem State.countDrop_peers (s : State) : (s.countDrop).peers = s.peers := rfl
@[simp] theorem State.countDrop_repair (s : State) : (s.countDrop).repair = s.repair := rfl
@[simp] theorem State.countDrop_journal (s : State) : (s.countDrop).journal = s.journal := rfl
@[simp] theorem State.countDrop_host (s : State) : (s.countDrop).host = s.host := rfl
@[simp] theorem State.countDrop_pending (s : State) : (s.countDrop).pending = s.pending := rfl
@[simp] theorem State.countDrop_choices (s : State) : (s.countDrop).choices = s.choices := rfl

@[simp] theorem State.countLate_inReset (s : State) : (s.countLate).inReset = s.inReset := rfl
@[simp] theorem State.countLate_pins (s : State) : (s.countLate).pins = s.pins := rfl
@[simp] theorem State.countLate_selLow (s : State) : (s.countLate).selLow = s.selLow := rfl
@[simp] theorem State.countLate_wires (s : State) : (s.countLate).wires = s.wires := rfl
@[simp] theorem State.countLate_medium (s : State) : (s.countLate).medium = s.medium := rfl
@[simp] theorem State.countLate_control (s : State) : (s.countLate).control = s.control := rfl
@[simp] theorem State.countLate_inputs (s : State) : (s.countLate).inputs = s.inputs := rfl
@[simp] theorem State.countLate_outbound (s : State) : (s.countLate).outbound = s.outbound := rfl
@[simp] theorem State.countLate_history (s : State) : (s.countLate).history = s.history := rfl
@[simp] theorem State.countLate_line (s : State) : (s.countLate).line = s.line := rfl
@[simp] theorem State.countLate_timebase (s : State) : (s.countLate).timebase = s.timebase := rfl
@[simp] theorem State.countLate_ticks (s : State) : (s.countLate).ticks = s.ticks := rfl
@[simp] theorem State.countLate_peers (s : State) : (s.countLate).peers = s.peers := rfl
@[simp] theorem State.countLate_repair (s : State) : (s.countLate).repair = s.repair := rfl
@[simp] theorem State.countLate_journal (s : State) : (s.countLate).journal = s.journal := rfl
@[simp] theorem State.countLate_host (s : State) : (s.countLate).host = s.host := rfl
@[simp] theorem State.countLate_pending (s : State) : (s.countLate).pending = s.pending := rfl
@[simp] theorem State.countLate_choices (s : State) : (s.countLate).choices = s.choices := rfl

@[simp] theorem State.dropRecord_inReset (s : State) : (s.dropRecord).inReset = s.inReset := rfl
@[simp] theorem State.dropRecord_pins (s : State) : (s.dropRecord).pins = s.pins := rfl
@[simp] theorem State.dropRecord_selLow (s : State) : (s.dropRecord).selLow = s.selLow := rfl
@[simp] theorem State.dropRecord_wires (s : State) : (s.dropRecord).wires = s.wires := rfl
@[simp] theorem State.dropRecord_medium (s : State) : (s.dropRecord).medium = s.medium := rfl
@[simp] theorem State.dropRecord_control (s : State) : (s.dropRecord).control = s.control := rfl
@[simp] theorem State.dropRecord_inputs (s : State) : (s.dropRecord).inputs = s.inputs := rfl
@[simp] theorem State.dropRecord_outbound (s : State) : (s.dropRecord).outbound = s.outbound := rfl
@[simp] theorem State.dropRecord_history (s : State) : (s.dropRecord).history = s.history := rfl
@[simp] theorem State.dropRecord_line (s : State) : (s.dropRecord).line = s.line := rfl
@[simp] theorem State.dropRecord_timebase (s : State) : (s.dropRecord).timebase = s.timebase := rfl
@[simp] theorem State.dropRecord_ticks (s : State) : (s.dropRecord).ticks = s.ticks := rfl
@[simp] theorem State.dropRecord_peers (s : State) : (s.dropRecord).peers = s.peers := rfl
@[simp] theorem State.dropRecord_repair (s : State) : (s.dropRecord).repair = s.repair := rfl
@[simp] theorem State.dropRecord_pending (s : State) : (s.dropRecord).pending = s.pending := rfl
@[simp] theorem State.dropRecord_choices (s : State) : (s.dropRecord).choices = s.choices := rfl

@[simp] theorem State.insertLate_inReset (s : State) (r : Record) (b : Bool) : (s.insertLate r b).inReset = s.inReset := rfl
@[simp] theorem State.insertLate_pins (s : State) (r : Record) (b : Bool) : (s.insertLate r b).pins = s.pins := rfl
@[simp] theorem State.insertLate_selLow (s : State) (r : Record) (b : Bool) : (s.insertLate r b).selLow = s.selLow := rfl
@[simp] theorem State.insertLate_wires (s : State) (r : Record) (b : Bool) : (s.insertLate r b).wires = s.wires := rfl
@[simp] theorem State.insertLate_medium (s : State) (r : Record) (b : Bool) : (s.insertLate r b).medium = s.medium := rfl
@[simp] theorem State.insertLate_control (s : State) (r : Record) (b : Bool) : (s.insertLate r b).control = s.control := rfl
@[simp] theorem State.insertLate_inputs (s : State) (r : Record) (b : Bool) : (s.insertLate r b).inputs = s.inputs := rfl
@[simp] theorem State.insertLate_outbound (s : State) (r : Record) (b : Bool) : (s.insertLate r b).outbound = s.outbound := rfl
@[simp] theorem State.insertLate_history (s : State) (r : Record) (b : Bool) : (s.insertLate r b).history = s.history := rfl
@[simp] theorem State.insertLate_line (s : State) (r : Record) (b : Bool) : (s.insertLate r b).line = s.line := rfl
@[simp] theorem State.insertLate_timebase (s : State) (r : Record) (b : Bool) : (s.insertLate r b).timebase = s.timebase := rfl
@[simp] theorem State.insertLate_ticks (s : State) (r : Record) (b : Bool) : (s.insertLate r b).ticks = s.ticks := rfl
@[simp] theorem State.insertLate_peers (s : State) (r : Record) (b : Bool) : (s.insertLate r b).peers = s.peers := rfl
@[simp] theorem State.insertLate_repair (s : State) (r : Record) (b : Bool) : (s.insertLate r b).repair = s.repair := rfl
@[simp] theorem State.insertLate_host (s : State) (r : Record) (b : Bool) : (s.insertLate r b).host = s.host := rfl
@[simp] theorem State.insertLate_pending (s : State) (r : Record) (b : Bool) : (s.insertLate r b).pending = s.pending := rfl
@[simp] theorem State.insertLate_choices (s : State) (r : Record) (b : Bool) : (s.insertLate r b).choices = s.choices := rfl

@[simp] theorem State.insertSettling_inReset (s : State) (r : Record) (b : Bool) : (s.insertSettling r b).inReset = s.inReset := rfl
@[simp] theorem State.insertSettling_pins (s : State) (r : Record) (b : Bool) : (s.insertSettling r b).pins = s.pins := rfl
@[simp] theorem State.insertSettling_selLow (s : State) (r : Record) (b : Bool) : (s.insertSettling r b).selLow = s.selLow := rfl
@[simp] theorem State.insertSettling_wires (s : State) (r : Record) (b : Bool) : (s.insertSettling r b).wires = s.wires := rfl
@[simp] theorem State.insertSettling_medium (s : State) (r : Record) (b : Bool) : (s.insertSettling r b).medium = s.medium := rfl
@[simp] theorem State.insertSettling_control (s : State) (r : Record) (b : Bool) : (s.insertSettling r b).control = s.control := rfl
@[simp] theorem State.insertSettling_inputs (s : State) (r : Record) (b : Bool) : (s.insertSettling r b).inputs = s.inputs := rfl
@[simp] theorem State.insertSettling_outbound (s : State) (r : Record) (b : Bool) : (s.insertSettling r b).outbound = s.outbound := rfl
@[simp] theorem State.insertSettling_history (s : State) (r : Record) (b : Bool) : (s.insertSettling r b).history = s.history := rfl
@[simp] theorem State.insertSettling_line (s : State) (r : Record) (b : Bool) : (s.insertSettling r b).line = s.line := rfl
@[simp] theorem State.insertSettling_counters (s : State) (r : Record) (b : Bool) : (s.insertSettling r b).counters = s.counters := rfl
@[simp] theorem State.insertSettling_timebase (s : State) (r : Record) (b : Bool) : (s.insertSettling r b).timebase = s.timebase := rfl
@[simp] theorem State.insertSettling_ticks (s : State) (r : Record) (b : Bool) : (s.insertSettling r b).ticks = s.ticks := rfl
@[simp] theorem State.insertSettling_peers (s : State) (r : Record) (b : Bool) : (s.insertSettling r b).peers = s.peers := rfl
@[simp] theorem State.insertSettling_repair (s : State) (r : Record) (b : Bool) : (s.insertSettling r b).repair = s.repair := rfl
@[simp] theorem State.insertSettling_host (s : State) (r : Record) (b : Bool) : (s.insertSettling r b).host = s.host := rfl
@[simp] theorem State.insertSettling_pending (s : State) (r : Record) (b : Bool) : (s.insertSettling r b).pending = s.pending := rfl
@[simp] theorem State.insertSettling_choices (s : State) (r : Record) (b : Bool) : (s.insertSettling r b).choices = s.choices := rfl

@[simp] theorem State.countNote_inReset (s : State) : (s.countNote).inReset = s.inReset := rfl
@[simp] theorem State.countNote_pins (s : State) : (s.countNote).pins = s.pins := rfl
@[simp] theorem State.countNote_selLow (s : State) : (s.countNote).selLow = s.selLow := rfl
@[simp] theorem State.countNote_wires (s : State) : (s.countNote).wires = s.wires := rfl
@[simp] theorem State.countNote_medium (s : State) : (s.countNote).medium = s.medium := rfl
@[simp] theorem State.countNote_control (s : State) : (s.countNote).control = s.control := rfl
@[simp] theorem State.countNote_inputs (s : State) : (s.countNote).inputs = s.inputs := rfl
@[simp] theorem State.countNote_outbound (s : State) : (s.countNote).outbound = s.outbound := rfl
@[simp] theorem State.countNote_history (s : State) : (s.countNote).history = s.history := rfl
@[simp] theorem State.countNote_line (s : State) : (s.countNote).line = s.line := rfl
@[simp] theorem State.countNote_counters (s : State) : (s.countNote).counters = s.counters := rfl
@[simp] theorem State.countNote_timebase (s : State) : (s.countNote).timebase = s.timebase := rfl
@[simp] theorem State.countNote_ticks (s : State) : (s.countNote).ticks = s.ticks := rfl
@[simp] theorem State.countNote_peers (s : State) : (s.countNote).peers = s.peers := rfl
@[simp] theorem State.countNote_repair (s : State) : (s.countNote).repair = s.repair := rfl
@[simp] theorem State.countNote_host (s : State) : (s.countNote).host = s.host := rfl
@[simp] theorem State.countNote_pending (s : State) : (s.countNote).pending = s.pending := rfl
@[simp] theorem State.countNote_choices (s : State) : (s.countNote).choices = s.choices := rfl

@[simp] theorem State.releaseTo_inReset (s : State) (h : Stamp) : (s.releaseTo h).inReset = s.inReset := rfl
@[simp] theorem State.releaseTo_pins (s : State) (h : Stamp) : (s.releaseTo h).pins = s.pins := rfl
@[simp] theorem State.releaseTo_selLow (s : State) (h : Stamp) : (s.releaseTo h).selLow = s.selLow := rfl
@[simp] theorem State.releaseTo_wires (s : State) (h : Stamp) : (s.releaseTo h).wires = s.wires := rfl
@[simp] theorem State.releaseTo_medium (s : State) (h : Stamp) : (s.releaseTo h).medium = s.medium := rfl
@[simp] theorem State.releaseTo_control (s : State) (h : Stamp) : (s.releaseTo h).control = s.control := rfl
@[simp] theorem State.releaseTo_inputs (s : State) (h : Stamp) : (s.releaseTo h).inputs = s.inputs := rfl
@[simp] theorem State.releaseTo_outbound (s : State) (h : Stamp) : (s.releaseTo h).outbound = s.outbound := rfl
@[simp] theorem State.releaseTo_history (s : State) (h : Stamp) : (s.releaseTo h).history = s.history := rfl
@[simp] theorem State.releaseTo_line (s : State) (h : Stamp) : (s.releaseTo h).line = s.line := rfl
@[simp] theorem State.releaseTo_counters (s : State) (h : Stamp) : (s.releaseTo h).counters = s.counters := rfl
@[simp] theorem State.releaseTo_timebase (s : State) (h : Stamp) : (s.releaseTo h).timebase = s.timebase := rfl
@[simp] theorem State.releaseTo_ticks (s : State) (h : Stamp) : (s.releaseTo h).ticks = s.ticks := rfl
@[simp] theorem State.releaseTo_peers (s : State) (h : Stamp) : (s.releaseTo h).peers = s.peers := rfl
@[simp] theorem State.releaseTo_repair (s : State) (h : Stamp) : (s.releaseTo h).repair = s.repair := rfl
@[simp] theorem State.releaseTo_host (s : State) (h : Stamp) : (s.releaseTo h).host = s.host := rfl
@[simp] theorem State.releaseTo_pending (s : State) (h : Stamp) : (s.releaseTo h).pending = s.pending := rfl
@[simp] theorem State.releaseTo_choices (s : State) (h : Stamp) : (s.releaseTo h).choices = s.choices := rfl

@[simp] theorem State.clearDrops_inReset (s : State) : (s.clearDrops).inReset = s.inReset := rfl
@[simp] theorem State.clearDrops_pins (s : State) : (s.clearDrops).pins = s.pins := rfl
@[simp] theorem State.clearDrops_selLow (s : State) : (s.clearDrops).selLow = s.selLow := rfl
@[simp] theorem State.clearDrops_wires (s : State) : (s.clearDrops).wires = s.wires := rfl
@[simp] theorem State.clearDrops_medium (s : State) : (s.clearDrops).medium = s.medium := rfl
@[simp] theorem State.clearDrops_control (s : State) : (s.clearDrops).control = s.control := rfl
@[simp] theorem State.clearDrops_inputs (s : State) : (s.clearDrops).inputs = s.inputs := rfl
@[simp] theorem State.clearDrops_outbound (s : State) : (s.clearDrops).outbound = s.outbound := rfl
@[simp] theorem State.clearDrops_history (s : State) : (s.clearDrops).history = s.history := rfl
@[simp] theorem State.clearDrops_line (s : State) : (s.clearDrops).line = s.line := rfl
@[simp] theorem State.clearDrops_counters (s : State) : (s.clearDrops).counters = s.counters := rfl
@[simp] theorem State.clearDrops_timebase (s : State) : (s.clearDrops).timebase = s.timebase := rfl
@[simp] theorem State.clearDrops_ticks (s : State) : (s.clearDrops).ticks = s.ticks := rfl
@[simp] theorem State.clearDrops_peers (s : State) : (s.clearDrops).peers = s.peers := rfl
@[simp] theorem State.clearDrops_repair (s : State) : (s.clearDrops).repair = s.repair := rfl
@[simp] theorem State.clearDrops_host (s : State) : (s.clearDrops).host = s.host := rfl
@[simp] theorem State.clearDrops_pending (s : State) : (s.clearDrops).pending = s.pending := rfl
@[simp] theorem State.clearDrops_choices (s : State) : (s.clearDrops).choices = s.choices := rfl

@[simp] theorem State.enqueue_inReset (s : State) (r : Record) : (s.enqueue r).inReset = s.inReset := rfl
@[simp] theorem State.enqueue_pins (s : State) (r : Record) : (s.enqueue r).pins = s.pins := rfl
@[simp] theorem State.enqueue_selLow (s : State) (r : Record) : (s.enqueue r).selLow = s.selLow := rfl
@[simp] theorem State.enqueue_wires (s : State) (r : Record) : (s.enqueue r).wires = s.wires := rfl
@[simp] theorem State.enqueue_medium (s : State) (r : Record) : (s.enqueue r).medium = s.medium := rfl
@[simp] theorem State.enqueue_control (s : State) (r : Record) : (s.enqueue r).control = s.control := rfl
@[simp] theorem State.enqueue_inputs (s : State) (r : Record) : (s.enqueue r).inputs = s.inputs := rfl
@[simp] theorem State.enqueue_history (s : State) (r : Record) : (s.enqueue r).history = s.history := rfl
@[simp] theorem State.enqueue_line (s : State) (r : Record) : (s.enqueue r).line = s.line := rfl
@[simp] theorem State.enqueue_counters (s : State) (r : Record) : (s.enqueue r).counters = s.counters := rfl
@[simp] theorem State.enqueue_timebase (s : State) (r : Record) : (s.enqueue r).timebase = s.timebase := rfl
@[simp] theorem State.enqueue_ticks (s : State) (r : Record) : (s.enqueue r).ticks = s.ticks := rfl
@[simp] theorem State.enqueue_peers (s : State) (r : Record) : (s.enqueue r).peers = s.peers := rfl
@[simp] theorem State.enqueue_repair (s : State) (r : Record) : (s.enqueue r).repair = s.repair := rfl
@[simp] theorem State.enqueue_journal (s : State) (r : Record) : (s.enqueue r).journal = s.journal := rfl
@[simp] theorem State.enqueue_host (s : State) (r : Record) : (s.enqueue r).host = s.host := rfl
@[simp] theorem State.enqueue_pending (s : State) (r : Record) : (s.enqueue r).pending = s.pending := rfl
@[simp] theorem State.enqueue_choices (s : State) (r : Record) : (s.enqueue r).choices = s.choices := rfl

@[simp] theorem State.respond_inReset (s : State) (c : Option HostCommand) (bytes : List Byte) : (s.respond c bytes).inReset = s.inReset := rfl
@[simp] theorem State.respond_pins (s : State) (c : Option HostCommand) (bytes : List Byte) : (s.respond c bytes).pins = s.pins := rfl
@[simp] theorem State.respond_selLow (s : State) (c : Option HostCommand) (bytes : List Byte) : (s.respond c bytes).selLow = s.selLow := rfl
@[simp] theorem State.respond_wires (s : State) (c : Option HostCommand) (bytes : List Byte) : (s.respond c bytes).wires = s.wires := rfl
@[simp] theorem State.respond_medium (s : State) (c : Option HostCommand) (bytes : List Byte) : (s.respond c bytes).medium = s.medium := rfl
@[simp] theorem State.respond_control (s : State) (c : Option HostCommand) (bytes : List Byte) : (s.respond c bytes).control = s.control := rfl
@[simp] theorem State.respond_inputs (s : State) (c : Option HostCommand) (bytes : List Byte) : (s.respond c bytes).inputs = s.inputs := rfl
@[simp] theorem State.respond_outbound (s : State) (c : Option HostCommand) (bytes : List Byte) : (s.respond c bytes).outbound = s.outbound := rfl
@[simp] theorem State.respond_history (s : State) (c : Option HostCommand) (bytes : List Byte) : (s.respond c bytes).history = s.history := rfl
@[simp] theorem State.respond_line (s : State) (c : Option HostCommand) (bytes : List Byte) : (s.respond c bytes).line = s.line := rfl
@[simp] theorem State.respond_counters (s : State) (c : Option HostCommand) (bytes : List Byte) : (s.respond c bytes).counters = s.counters := rfl
@[simp] theorem State.respond_timebase (s : State) (c : Option HostCommand) (bytes : List Byte) : (s.respond c bytes).timebase = s.timebase := rfl
@[simp] theorem State.respond_ticks (s : State) (c : Option HostCommand) (bytes : List Byte) : (s.respond c bytes).ticks = s.ticks := rfl
@[simp] theorem State.respond_peers (s : State) (c : Option HostCommand) (bytes : List Byte) : (s.respond c bytes).peers = s.peers := rfl
@[simp] theorem State.respond_repair (s : State) (c : Option HostCommand) (bytes : List Byte) : (s.respond c bytes).repair = s.repair := rfl
@[simp] theorem State.respond_journal (s : State) (c : Option HostCommand) (bytes : List Byte) : (s.respond c bytes).journal = s.journal := rfl
@[simp] theorem State.respond_pending (s : State) (c : Option HostCommand) (bytes : List Byte) : (s.respond c bytes).pending = s.pending := rfl
@[simp] theorem State.respond_choices (s : State) (c : Option HostCommand) (bytes : List Byte) : (s.respond c bytes).choices = s.choices := rfl

/-! ### What an update writes -/

@[simp] theorem State.setMissing_originAnswers (s : State) (p : Station) (set : List Missing) :
    (s.setMissing p set).repair.originAnswers = s.repair.originAnswers := rfl
@[simp] theorem State.setMissing_proxy (s : State) (p : Station) (set : List Missing) :
    (s.setMissing p set).repair.proxy = s.repair.proxy := rfl
@[simp] theorem State.releaseTo_horizon (s : State) (h : Stamp) :
    (s.releaseTo h).journal.horizon = h := rfl
@[simp] theorem State.insertLate_released (s : State) (r : Record) (b : Bool) :
    (s.insertLate r b).journal.released = s.journal.released ++ [Held.mk r true b] := rfl
@[simp] theorem State.insertLate_settling (s : State) (r : Record) (b : Bool) :
    (s.insertLate r b).journal.settling = s.journal.settling := rfl
@[simp] theorem State.insertLate_horizon (s : State) (r : Record) (b : Bool) :
    (s.insertLate r b).journal.horizon = s.journal.horizon := rfl
@[simp] theorem State.insertSettling_released (s : State) (r : Record) (b : Bool) :
    (s.insertSettling r b).journal.released = s.journal.released := rfl
@[simp] theorem State.insertSettling_settling (s : State) (r : Record) (b : Bool) :
    (s.insertSettling r b).journal.settling = insertByKey (Held.mk r false b) s.journal.settling := rfl
@[simp] theorem State.insertSettling_horizon (s : State) (r : Record) (b : Bool) :
    (s.insertSettling r b).journal.horizon = s.journal.horizon := rfl
@[simp] theorem State.dropRecord_settling (s : State) :
    s.dropRecord.journal.settling = s.journal.settling := rfl
@[simp] theorem State.dropRecord_released (s : State) :
    s.dropRecord.journal.released = s.journal.released := rfl
@[simp] theorem State.dropRecord_horizon (s : State) :
    s.dropRecord.journal.horizon = s.journal.horizon := rfl
@[simp] theorem State.countNote_settling (s : State) :
    s.countNote.journal.settling = s.journal.settling := rfl
@[simp] theorem State.countNote_released (s : State) :
    s.countNote.journal.released = s.journal.released := rfl
@[simp] theorem State.countNote_horizon (s : State) :
    s.countNote.journal.horizon = s.journal.horizon := rfl
@[simp] theorem State.countNote_noteCounter (s : State) :
    s.countNote.journal.noteCounter = s.journal.noteCounter + 1 := rfl
@[simp] theorem State.clearDrops_settling (s : State) :
    s.clearDrops.journal.settling = s.journal.settling := rfl
@[simp] theorem State.clearDrops_released (s : State) :
    s.clearDrops.journal.released = s.journal.released := rfl
@[simp] theorem State.clearDrops_horizon (s : State) :
    s.clearDrops.journal.horizon = s.journal.horizon := rfl
@[simp] theorem State.enqueue_records (s : State) (r : Record) :
    (s.enqueue r).outbound.records = s.outbound.records ++ [r] := rfl
@[simp] theorem State.enqueue_nextSeq (s : State) (r : Record) :
    (s.enqueue r).outbound.nextSeq = s.outbound.nextSeq + 1 := rfl
@[simp] theorem State.enqueue_lost (s : State) (r : Record) :
    (s.enqueue r).outbound.lost = s.outbound.lost := rfl
@[simp] theorem State.settleIrq_irq (s : State) : s.settleIrq.host.irq = s.irqLevel := rfl
@[simp] theorem State.settleIrq_txn (s : State) : s.settleIrq.host.txn = s.host.txn := rfl
@[simp] theorem State.settleIrq_quietFlag (s : State) :
    s.settleIrq.host.quietFlag = s.host.quietFlag := rfl
@[simp] theorem State.settleIrq_dropFlag (s : State) :
    s.settleIrq.host.dropFlag = s.host.dropFlag := rfl

/-! ### The tables read back -/

@[simp] theorem State.input_setInput_same (s : State) (i : Fin 16) (x : Input) :
    (s.setInput i x).input i = x := by
  simp [State.input, State.setInput]

theorem State.input_setInput_other (s : State) (i j : Fin 16) (x : Input) (h : j ≠ i) :
    (s.setInput i x).input j = s.input j := by
  have : i.val ≠ j.val := fun e => h (Fin.ext e.symm)
  simp [State.input, State.setInput, this]

@[simp] theorem State.peer_setPeer_same (s : State) (p : Station) (e : PeerEntry) :
    (s.setPeer p e).peer p = e := by
  simp [State.peer, State.setPeer]

theorem State.peer_setPeer_other (s : State) (p q : Station) (e : PeerEntry) (h : q ≠ p) :
    (s.setPeer p e).peer q = s.peer q := by
  have : p.val ≠ q.val := fun h' => h (Fin.ext h'.symm)
  simp [State.peer, State.setPeer, this]

@[simp] theorem State.missing_setMissing_same (s : State) (p : Station) (set : List Missing) :
    (s.setMissing p set).missing p = set := by
  simp [State.missing, State.setMissing]

theorem State.missing_setMissing_other (s : State) (p q : Station) (set : List Missing) (h : q ≠ p) :
    (s.setMissing p set).missing q = s.missing q := by
  have : p.val ≠ q.val := fun h' => h (Fin.ext h'.symm)
  simp [State.missing, State.setMissing, this]

/-- Two states with one inputs block read the same inputs. -/
theorem State.input_congr {s t : State} (h : t.inputs = s.inputs) (i : Fin 16) :
    t.input i = s.input i := by
  simp [State.input, h]

/-- Two states with one peers block read the same entries. -/
theorem State.peer_congr {s t : State} (h : t.peers = s.peers) (p : Station) :
    t.peer p = s.peer p := by
  simp [State.peer, h]

/-- Two states with one repair block read the same missing sets. -/
theorem State.missing_congr {s t : State} (h : t.repair = s.repair) (p : Station) :
    t.missing p = s.missing p := by
  simp [State.missing, h]

/-- Settling IRQ at its level changes nothing. -/
theorem State.settleIrq_of_kept {s : State} (h : s.IrqKept) : s.settleIrq = s := by
  have hl : s.irqLevel = s.host.irq := h.symm
  simp [State.settleIrq, hl]

/-- After settling, IRQ is at its level. -/
theorem State.settleIrq_kept (s : State) : s.settleIrq.IrqKept := rfl

end Sys2Proof.Machine
end

