-- ==== Sys2Proof/Laws/Frames.lean ====
section
/-! SUPPORT. Frames: the algebra of `changesOnly`, and for each shared operation the blocks it may
change. -/

namespace Sys2Proof.Machine

open Sys2Proof

/-! ### The algebra -/

theorem State.sameIn_refl (s : State) (b : Block) : s.sameIn s b := by
  cases b <;> rfl

theorem State.sameIn_trans {s t u : State} {b : Block} (h : s.sameIn t b) (h' : t.sameIn u b) :
    s.sameIn u b := by
  cases b <;> exact Eq.trans h' h

theorem State.changesOnly_refl (s : State) (bs : List Block) : s.changesOnly s bs :=
  fun b _ => s.sameIn_refl b

theorem State.changesOnly_trans {s t u : State} {bs : List Block} (h : s.changesOnly t bs)
    (h' : t.changesOnly u bs) : s.changesOnly u bs :=
  fun b hb => State.sameIn_trans (h b hb) (h' b hb)

theorem State.changesOnly_mono {s t : State} {bs cs : List Block} (h : s.changesOnly t bs)
    (hs : ∀ b ∈ bs, b ∈ cs) : s.changesOnly t cs :=
  fun b hb => h b (fun hm => hb (hs b hm))

/-- A fold of steps that each change only some blocks changes only those. -/
theorem State.changesOnly_foldl {α : Type} {f : State → α → State} {bs : List Block}
    (hf : ∀ (s : State) a, s.changesOnly (f s a) bs) (xs : List α) (s : State) :
    s.changesOnly (xs.foldl f s) bs := by
  induction xs generalizing s with
  | nil => exact s.changesOnly_refl bs
  | cons x xs ih => exact State.changesOnly_trans (hf s x) (ih (f s x))

/-! ### The journal -/

theorem State.dropRecord_frame (s : State) : s.changesOnly s.dropRecord offerBlocks := by
  intro b hb
  cases b <;> first | exact absurd (by decide) hb | rfl

theorem State.insertLate_frame (s : State) (r : Record) (x : Bool) :
    s.changesOnly (s.insertLate r x) offerBlocks := by
  intro b hb
  cases b <;> first | exact absurd (by decide) hb | rfl

theorem State.insertSettling_frame (s : State) (r : Record) (x : Bool) :
    s.changesOnly (s.insertSettling r x) [.journal] := by
  intro b hb
  cases b <;> first | exact absurd (by decide) hb | rfl

/-- What an offer can do: drop the record, append it LATE, or let it settle (R20). -/
theorem State.offer_cases (s : State) (r : Record) (x : Bool) :
    s.offer r x = s.dropRecord ∨
      (s.journal.occupancy < Config.journalCapacity ∧
        (r.isNetwork = true → s.journal.lookup r.origin r.seq = none) ∧
        ((r.stamp < s.journal.horizon ∧ s.offer r x = s.insertLate r x) ∨
          (s.journal.horizon ≤ r.stamp ∧ s.offer r x = s.insertSettling r x))) := by
  unfold State.offer
  split
  · exact .inl rfl
  · rename_i h
    split
    · exact .inl rfl
    · rename_i h'
      refine .inr ⟨by omega, ?_, ?_⟩
      · intro hn
        cases hl : s.journal.lookup r.origin r.seq with
        | none => rfl
        | some v => simp [hn, hl] at h
      · split
        · rename_i hl
          exact .inl ⟨hl, rfl⟩
        · rename_i hl
          exact .inr ⟨BitVec.not_lt.mp hl, rfl⟩

theorem State.offer_frame (s : State) (r : Record) (x : Bool) :
    s.changesOnly (s.offer r x) offerBlocks := by
  rcases s.offer_cases r x with h | ⟨-, -, ⟨-, h⟩ | ⟨-, h⟩⟩ <;> rw [h]
  · exact s.dropRecord_frame
  · exact s.insertLate_frame r x
  · exact State.changesOnly_mono (s.insertSettling_frame r x) (by decide)

theorem State.note_frame (s : State) (d : Detail) : s.changesOnly (s.note d) offerBlocks := by
  refine State.changesOnly_trans ?_ (s.countNote.offer_frame (s.makeNote d) false)
  intro b hb
  cases b <;> first | exact absurd (by decide) hb | rfl

theorem State.releaseTo_frame (s : State) (h : Stamp) : s.changesOnly (s.releaseTo h) [.journal] := by
  intro b hb
  cases b <;> first | exact absurd (by decide) hb | rfl

/-- What a horizon computation can do: nothing, or a release step to a later horizon (R29, R32). -/
theorem State.computeHorizon_cases (s : State) :
    s.computeHorizon = s ∨
      ∃ h, s.journal.horizon < h ∧ h = s.computedHorizon ∧ s.computeHorizon = s.releaseTo h := by
  unfold State.computeHorizon
  split
  · rename_i h
    exact .inr ⟨_, h, rfl, rfl⟩
  · exact .inl rfl

theorem State.computeHorizon_frame (s : State) : s.changesOnly s.computeHorizon [.journal] := by
  rcases s.computeHorizon_cases with h | ⟨v, -, -, h⟩ <;> rw [h]
  · exact s.changesOnly_refl _
  · exact s.releaseTo_frame v

theorem State.consumeHead_frame (s : State) : s.changesOnly s.consumeHead offerBlocks := by
  unfold State.consumeHead
  split
  · intro b hb
    cases b <;> first | exact absurd (by decide) hb | rfl
  · refine State.changesOnly_trans ?_ (State.note_frame _ _)
    intro b hb
    cases b <;> first | exact absurd (by decide) hb | rfl

/-! ### The Outbound Queue and the inputs -/

theorem State.appendOwn_frame (s : State) (stamp : Stamp) (q : TimeState) (d : Detail) :
    s.changesOnly (s.appendOwn stamp q d) (.outbound :: offerBlocks) := by
  refine State.changesOnly_trans (t := s.enqueue (s.ownRecord stamp q d)) ?_
    (State.changesOnly_mono (State.offer_frame _ _ _) (by decide))
  intro b hb
  cases b <;> first | exact absurd (by decide) hb | rfl

/-- What a capture can do: the record is appended and offered, or refused and counted (R131, R132). -/
theorem State.capture_cases (s : State) (stamp : Stamp) (q : TimeState) (d : Detail) :
    (s.outbound.records.length < Config.queueCapacity ∧
        s.capture stamp q d = s.appendOwn stamp q d) ∨
      (Config.queueCapacity ≤ s.outbound.records.length ∧
        s.capture stamp q d =
          { s with outbound := { s.outbound with lost := satInc s.outbound.lost } }) := by
  unfold State.capture State.queueHasRoom
  split
  · rename_i h
    exact .inl ⟨by simpa using h, rfl⟩
  · rename_i h
    exact .inr ⟨by simpa using h, rfl⟩

theorem State.capture_frame (s : State) (stamp : Stamp) (q : TimeState) (d : Detail) :
    s.changesOnly (s.capture stamp q d) (.outbound :: offerBlocks) := by
  rcases s.capture_cases stamp q d with ⟨-, h⟩ | ⟨-, h⟩ <;> rw [h]
  · exact s.appendOwn_frame stamp q d
  · intro b hb
    cases b <;> first | exact absurd (by decide) hb | rfl

theorem State.setInput_frame (s : State) (i : Fin 16) (x : Input) :
    s.changesOnly (s.setInput i x) [.inputs] := by
  intro b hb
  cases b <;> first | exact absurd (by decide) hb | rfl

/-- The blocks a transition or an expiry of an input may change. -/
def captureBlocks : List Block := [.inputs, .outbound] ++ offerBlocks

theorem State.setInput_capture_frame (s : State) (i : Fin 16) (x : Input) (stamp : Stamp)
    (q : TimeState) (d : Detail) :
    s.changesOnly ((s.setInput i x).capture stamp q d) captureBlocks :=
  State.changesOnly_trans (State.changesOnly_mono (s.setInput_frame i x) (by decide))
    (State.changesOnly_mono (State.capture_frame _ _ _ _) (by decide))

theorem State.transition_frame (s : State) (i : Fin 16) (level : Bool) (stamp : Stamp)
    (q : TimeState) (snap : Line16) :
    s.changesOnly (s.transition i level stamp q snap) captureBlocks := by
  have hi : ∀ x, s.changesOnly (s.setInput i x) captureBlocks :=
    fun x => State.changesOnly_mono (s.setInput_frame i x) (by decide)
  unfold State.transition
  simp only
  split
  · exact s.changesOnly_refl _
  · exact hi _
  · split
    · exact s.setInput_capture_frame i _ _ _ _
    · split
      · exact s.setInput_capture_frame i _ _ _ _
      · exact hi _
  · split
    · exact s.setInput_capture_frame i _ _ _ _
    · exact hi _

theorem State.readDirect_frame (s : State) (i : Fin 16) :
    s.changesOnly (s.readDirect i) captureBlocks := by
  unfold State.readDirect
  split
  · exact State.changesOnly_trans (State.changesOnly_mono (s.setInput_frame i _) (by decide))
      (State.transition_frame _ _ _ _ _ _)
  · exact s.changesOnly_refl _

theorem State.sampleInput_frame (s : State) (i : Fin 16) :
    s.changesOnly (s.sampleInput i) captureBlocks := by
  have hi : ∀ x, s.changesOnly (s.setInput i x) captureBlocks :=
    fun x => State.changesOnly_mono (s.setInput_frame i x) (by decide)
  unfold State.sampleInput
  split
  · split
    · exact s.changesOnly_refl _
    · exact hi _
  · simp only
    split
    · exact State.changesOnly_trans (hi _) (State.transition_frame _ _ _ _ _ _)
    · exact hi _

theorem State.reportLoss_frame (s : State) :
    s.changesOnly s.reportLoss (.outbound :: offerBlocks) := by
  unfold State.reportLoss
  split
  · exact s.changesOnly_refl _
  · refine State.changesOnly_trans ?_ (State.appendOwn_frame _ _ _ _)
    intro b hb
    cases b <;> first | exact absurd (by decide) hb | rfl

theorem State.eventSent_frame (s : State) (n : Nat) :
    s.changesOnly (s.eventSent n) ([.outbound, .history] ++ offerBlocks) := by
  refine State.changesOnly_trans ?_ (State.changesOnly_mono (State.reportLoss_frame _) (by decide))
  intro b hb
  cases b <;> first | exact absurd (by decide) hb | rfl

/-! ### The Repair Unit and the Peer Table -/

theorem State.setMissing_frame (s : State) (p : Station) (set : List Missing) :
    s.changesOnly (s.setMissing p set) [.repair] := by
  intro b hb
  cases b <;> first | exact absurd (by decide) hb | rfl

theorem State.setPeer_frame (s : State) (p : Station) (e : PeerEntry) :
    s.changesOnly (s.setPeer p e) [.peers] := by
  intro b hb
  cases b <;> first | exact absurd (by decide) hb | rfl

theorem State.declareRuns_frame (s : State) (p : Station) (c : GapCause) (seqs : List Seq) :
    s.changesOnly (s.declareRuns p c seqs) offerBlocks :=
  State.changesOnly_foldl (fun t _ => t.note_frame _) _ s

/-- The blocks a declaration of loss may change. -/
def declareBlocks : List Block := .repair :: offerBlocks

theorem State.declareLost_frame (s : State) (p : Station) (c : GapCause) (gone : Missing → Bool) :
    s.changesOnly (s.declareLost p c gone) declareBlocks :=
  State.changesOnly_trans (State.changesOnly_mono (s.setMissing_frame p _) (by decide))
    (State.changesOnly_mono (State.declareRuns_frame _ p c _) (by decide))

theorem State.addMissing_frame (s : State) (p : Station) (new : List Seq) :
    s.changesOnly (s.addMissing p new) declareBlocks :=
  State.changesOnly_trans (State.changesOnly_mono (s.setMissing_frame p _) (by decide))
    (State.changesOnly_mono (State.declareRuns_frame _ p _ _) (by decide))

theorem State.expireMissing_frame (s : State) (p : Station) :
    s.changesOnly (s.expireMissing p) declareBlocks :=
  State.changesOnly_trans (State.declareLost_frame s p _ _)
    (State.changesOnly_mono (State.setMissing_frame _ p _) (by decide))

/-- The blocks the Peer Table may change while it takes a frame. -/
def tableBlocks : List Block := [.peers, .repair] ++ offerBlocks

theorem State.advance_frame (s : State) (p : Station) (n : Numbering) (a b : Seq) :
    s.changesOnly (s.advance p n a b) tableBlocks :=
  State.changesOnly_trans (State.changesOnly_mono (s.addMissing_frame p _) (by decide))
    (State.changesOnly_mono (State.setPeer_frame _ p _) (by decide))

theorem State.classify_frame (s : State) (p : Station) (n : Numbering) (x : Bool) (r : Record) :
    s.changesOnly (s.classify p n x r) tableBlocks := by
  unfold State.classify
  split
  · exact State.changesOnly_trans (s.advance_frame p n _ _)
      (State.changesOnly_mono (State.offer_frame _ _ _) (by decide))
  · split
    · exact State.changesOnly_trans (State.changesOnly_mono (s.setMissing_frame p _) (by decide))
        (State.changesOnly_mono (State.offer_frame _ _ _) (by decide))
    · intro b hb
      cases b <;> first | exact absurd (by decide) hb | rfl

theorem State.countDuplicate_frame (s : State) : s.changesOnly s.countDuplicate [.counters] := by
  intro b hb
  cases b <;> first | exact absurd (by decide) hb | rfl

theorem State.takeRecord_frame (p : Station) (x : Bool) (s : State) (r : Record) :
    s.changesOnly (State.takeRecord p x s r) tableBlocks := by
  have hd : s.changesOnly s.countDuplicate tableBlocks :=
    State.changesOnly_mono s.countDuplicate_frame (by decide)
  unfold State.takeRecord
  split
  · exact hd
  · exact hd
  · exact s.classify_frame p _ _ _
  · exact s.classify_frame p _ _ _
  · split
    · exact hd
    · exact State.changesOnly_trans (State.changesOnly_mono (s.setPeer_frame p _) (by decide))
        (State.classify_frame _ p _ _ _)
  · exact hd

theorem State.takeRecords_frame (s : State) (p : Station) (x : Bool) (rs : List Record) :
    s.changesOnly (s.takeRecords p x rs) tableBlocks :=
  State.changesOnly_foldl (State.takeRecord_frame p x) rs s

theorem State.bringActive_frame (s : State) (p : Station) (n : Option Numbering) (x : Bool) :
    s.changesOnly (s.bringActive p n x) tableBlocks :=
  State.changesOnly_trans (State.changesOnly_mono (s.setPeer_frame p _) (by decide))
    (State.changesOnly_mono (State.note_frame _ _) (by decide))

theorem State.takeSender_frame (s : State) (p : Station) (f : Frame) :
    s.changesOnly (s.takeSender p f) tableBlocks := by
  have hm : s.changesOnly (s.takeMismatch p f) tableBlocks := by
    unfold State.takeMismatch
    split
    · exact State.changesOnly_mono (s.setPeer_frame p _) (by decide)
    · exact s.changesOnly_refl _
  have he : ∀ t : State, t.changesOnly (t.enterSender p f) tableBlocks := by
    intro t
    unfold State.enterSender
    split
    · exact t.changesOnly_refl _
    · exact t.bringActive_frame p _ _
    · exact State.changesOnly_trans (State.changesOnly_mono (t.declareLost_frame p _ _) (by decide))
        (State.bringActive_frame _ p _ _)
    · exact State.changesOnly_trans (State.changesOnly_mono (t.declareLost_frame p _ _) (by decide))
        (State.bringActive_frame _ p _ _)
    · exact t.bringActive_frame p _ _
    · exact t.changesOnly_refl _
  exact State.changesOnly_trans (State.changesOnly_trans hm (he _))
    (State.changesOnly_mono (State.setPeer_frame _ p _) (by decide))

/-- The blocks a frame passed on may change. -/
def passBlocks : List Block := .timebase :: tableBlocks

theorem State.takeContent_frame (s : State) (p : Station) (f : Frame) :
    s.changesOnly (s.takeContent p f) passBlocks := by
  have hl : ∀ (t : State) n, t.changesOnly (t.learnNumbering p n) passBlocks := by
    intro t n
    unfold State.learnNumbering
    split
    · exact t.changesOnly_refl _
    · exact State.changesOnly_mono (t.setPeer_frame p _) (by decide)
  have hs : ∀ (t : State) x, t.changesOnly (t.takeSample p x) passBlocks := by
    intro t x
    unfold State.takeSample
    split
    · exact t.changesOnly_refl _
    · intro b hb
      cases b <;> first | exact absurd (by decide) hb | rfl
  have hc : ∀ (t : State) x n, t.changesOnly (t.compareNext p x n) passBlocks := by
    intro t x n
    unfold State.compareNext
    split
    · exact t.changesOnly_refl _
    · split
      · exact State.changesOnly_mono (t.advance_frame p _ _ _) (by decide)
      · split
        · exact State.changesOnly_mono (t.setPeer_frame p _) (by decide)
        · exact t.changesOnly_refl _
  unfold State.takeContent
  split
  · exact hl s _
  · exact State.changesOnly_trans (State.changesOnly_trans (State.changesOnly_trans (hl s _)
      (State.changesOnly_mono (State.setPeer_frame _ p _) (by decide))) (hs _ _)) (hc _ _ _)
  · exact State.changesOnly_mono (s.takeRecords_frame p _ _) (by decide)
  · exact State.changesOnly_mono (s.takeRecords_frame _ _ _) (by decide)
  · exact s.changesOnly_refl _
  · exact s.changesOnly_refl _

theorem State.takeRequest_frame (s : State) (sender subject : Station) (proxy : Bool)
    (seqs : List Seq) : s.changesOnly (s.takeRequest sender subject proxy seqs) [.repair] := by
  have hp : ∀ (t : State) q, t.changesOnly (t.addProxy subject q) [.repair] := by
    intro t q
    unfold State.addProxy
    split
    · intro b hb
      cases b <;> first | exact absurd (by decide) hb | rfl
    · exact t.changesOnly_refl _
  have hs : s.changesOnly (s.suppress subject seqs) [.repair] := s.setMissing_frame subject _
  unfold State.takeRequest
  split
  · exact s.changesOnly_refl _
  · simp only
    split
    · refine State.changesOnly_trans hs ?_
      unfold State.takeOriginRequest
      split
      · intro b hb
        cases b <;> first | exact absurd (by decide) hb | rfl
      · exact State.changesOnly_refl _ _
    · split
      · refine State.changesOnly_trans hs ?_
        unfold State.takeProxyRequest
        split
        · exact State.changesOnly_foldl hp seqs _
        · exact State.changesOnly_refl _ _
      · exact hs

theorem State.takeRepair_frame (s : State) (p : Station) (f : Frame) :
    s.changesOnly (s.takeRepair p f) declareBlocks := by
  unfold State.takeRepair
  split
  · exact State.changesOnly_mono (s.takeRequest_frame p _ _ _) (by decide)
  · split
    · exact s.declareLost_frame _ _ _
    · exact s.changesOnly_refl _
  · intro b hb
    cases b <;> first | exact absurd (by decide) hb | rfl
  · exact s.changesOnly_refl _
  · exact s.changesOnly_refl _
  · exact s.changesOnly_refl _

theorem State.passOn_frame (s : State) (p : Station) (f : Frame) :
    s.changesOnly (s.passOn p f) passBlocks := by
  have h : s.changesOnly (((s.takeSender p f).takeContent p f).takeRepair p f) passBlocks :=
    State.changesOnly_trans (State.changesOnly_trans
      (State.changesOnly_mono (s.takeSender_frame p f) (by decide)) (State.takeContent_frame _ p f))
      (State.changesOnly_mono (State.takeRepair_frame _ p f) (by decide))
  unfold State.passOn
  simp only
  split
  · exact State.changesOnly_trans h
      (State.changesOnly_mono (State.computeHorizon_frame _) (by decide))
  · exact h

theorem State.silencePeer_frame (s : State) (p : Station) :
    s.changesOnly (s.silencePeer p) (.peers :: offerBlocks) :=
  State.changesOnly_trans (State.changesOnly_trans
    (State.changesOnly_mono (s.setPeer_frame p _) (by decide))
    (State.changesOnly_mono (State.note_frame _ _) (by decide)))
    (State.changesOnly_mono (State.computeHorizon_frame _) (by decide))

/-! ### Time, life cycle and line -/

theorem State.changeTimeState_frame (s : State) (t : TimeState) :
    s.changesOnly (s.changeTimeState t) [.timebase] := by
  intro b hb
  cases b <;> first | exact absurd (by decide) hb | rfl

theorem State.applyRound_frame (s : State) :
    s.changesOnly s.applyRound (.timebase :: offerBlocks) := by
  have hn : ∀ (t : State) a, t.changesOnly (t.noteStep a) (.timebase :: offerBlocks) := by
    intro t a
    unfold State.noteStep
    split
    · exact t.changesOnly_refl _
    · exact State.changesOnly_mono (t.note_frame _) (by decide)
  have hc : ∀ (t : State) x, t.changesOnly (t.changeTimeState x) (.timebase :: offerBlocks) :=
    fun t x => State.changesOnly_mono (t.changeTimeState_frame x) (by decide)
  have hb : ∀ x : Timebase, s.changesOnly { s with timebase := x } (.timebase :: offerBlocks) := by
    intro x b hb
    cases b <;> first | exact absurd (by decide) hb | rfl
  have hh : s.changesOnly s.holdOver (.timebase :: offerBlocks) := by
    unfold State.holdOver
    simp only
    split
    · exact State.changesOnly_trans (hb _) (hc _ _)
    · exact hb _
  unfold State.applyRound
  split
  · split
    · exact s.changesOnly_refl _
    · exact hh
    · exact hh
  · simp only
    split
    · exact State.changesOnly_trans (State.changesOnly_trans (hb _) (hc _ _)) (hn _ _)
    · refine State.changesOnly_trans ?_ (hn _ _)
      unfold State.acquireRound
      simp only
      split
      · exact State.changesOnly_trans (hb _) (hc _ _)
      · exact hb _
    · unfold State.lockedRound
      simp only
      split
      · exact State.changesOnly_trans (hb _) (hc _ _)
      · exact hb _

theorem State.nextRound_frame (s : State) : s.changesOnly s.nextRound [.timebase] := by
  intro b hb
  cases b <;> first | exact absurd (by decide) hb | rfl

theorem State.endRound_frame (s : State) :
    s.changesOnly s.endRound (.timebase :: offerBlocks) :=
  State.changesOnly_trans s.applyRound_frame
    (State.changesOnly_mono s.applyRound.nextRound_frame (by decide))

theorem State.slew_frame (s : State) : s.changesOnly s.slew [.timebase] := by
  unfold State.slew
  split
  · intro b hb
    cases b <;> first | exact absurd (by decide) hb | rfl
  · split
    · intro b hb
      cases b <;> first | exact absurd (by decide) hb | rfl
    · exact s.changesOnly_refl _

theorem State.quietRepair_frame (s : State) : s.changesOnly s.quietRepair [.repair] := by
  unfold State.quietRepair
  intro b hb
  cases b <;> first | exact absurd (by decide) hb | rfl

theorem State.enterQuiet_frame (s : State) (c : QuietCause) :
    s.changesOnly (s.enterQuiet c) [.control, .line, .timebase, .repair, .host] := by
  refine State.changesOnly_trans
    (State.changesOnly_mono s.quietRepair_frame (by decide)) ?_
  unfold State.enterQuiet
  generalize s.quietRepair = t
  intro b hb
  cases b <;> first | exact absurd (by decide) hb | rfl

theorem State.settleIrq_frame (s : State) : s.changesOnly s.settleIrq [.host] := by
  intro b hb
  cases b <;> first | exact absurd (by decide) hb | rfl

/-- What a row tells of bits that were not read changes the line alone. -/
theorem State.told_frame (s : State) (read : Bool) (bits : List Bool) (m : Medium) :
    s.changesOnly (s.told read bits m) [.line, .medium] := by
  unfold State.told
  split
  · exact s.changesOnly_refl _
  · intro b hb
    cases b <;> first | exact absurd (by decide) hb | rfl

theorem State.findBoundary_frame (s : State) : s.changesOnly s.findBoundary [.line] := by
  unfold State.findBoundary
  split
  · intro b hb
    cases b <;> first | exact absurd (by decide) hb | rfl
  · exact s.changesOnly_refl _

theorem State.toldRuns_frame (s : State) (read : Bool) (released driven phase : Nat) (m : Medium) :
    s.changesOnly (s.toldRuns read released driven phase m) [.line, .medium] := by
  unfold State.toldRuns
  split
  · exact s.changesOnly_refl _
  · intro b hb
    cases b <;> first | exact absurd (by decide) hb | rfl

theorem State.sentUpTo_frame (s : State) (n : Nat) : s.changesOnly (s.sentUpTo n) [.line] := by
  unfold State.sentUpTo
  split
  · exact s.changesOnly_refl _
  · intro b hb
    cases b <;> first | exact absurd (by decide) hb | rfl

theorem State.endReception_frame (s : State) : s.changesOnly s.endReception [.line] := by
  intro b hb
  cases b <;> first | exact absurd (by decide) hb | rfl

/-- The passing of a microsecond changes the bits of the line and nothing else of the line's block. -/
theorem State.bitClock_frame (s : State) : s.changesOnly s.bitClock [.line, .medium] := by
  unfold State.bitClock
  simp only
  split <;>
  · intro b hb
    cases b <;> first | exact absurd (by decide) hb | rfl

theorem State.takeFrame_frame (s : State) (raw : List Byte) :
    s.changesOnly (s.takeFrame raw) receptionBlocks := by
  have he : s.changesOnly (s.told (s.line.bytes == raw) (lineBits raw) Medium.released).endReception
      receptionBlocks :=
    State.changesOnly_trans (State.changesOnly_mono (s.told_frame _ _ _) (by decide))
      (State.changesOnly_mono (State.endReception_frame _) (by decide))
  have hc : ∀ t : State, t.changesOnly t.clash receptionBlocks := by
    intro t
    unfold State.clash
    split
    · exact State.changesOnly_mono (t.enterQuiet_frame _) (by decide)
    · exact State.changesOnly_mono (t.enterQuiet_frame _) (by decide)
    · exact t.changesOnly_refl _
    · exact t.changesOnly_refl _
  unfold State.takeFrame
  simp only
  split
  · exact he
  · refine State.changesOnly_trans he ?_
    unfold State.takeChecked
    split
    · intro b hb
      cases b <;> first | exact absurd (by decide) hb | rfl
    · intro b hb
      cases b <;> first | exact absurd (by decide) hb | rfl
    · unfold State.takeValid
      split
      · exact hc _
      · split
        · exact State.changesOnly_refl _ _
        · exact State.changesOnly_mono (State.passOn_frame _ _ _) (by decide)

/-! ### The wires from the host -/

/-- Nothing is sampled or shifted while SEL is high or device reset is held (R180). -/
theorem State.hostMove_idle (s : State) (h : s.host.txn = .idle) : s.hostMove.host = s.host := by
  unfold State.hostMove
  split
  · rfl
  · rfl
  · dsimp only
    split
    · rfl
    · simp [State.sampleSdi, h]
  · dsimp only
    split
    · simp [State.shiftSdo, h]
    · rfl
  · rfl

/-- A move of the host changes its wires, the bits of the host port, and the commands that wait. -/
theorem State.hostMove_frame (s : State) : s.changesOnly s.hostMove [.wires, .host, .pending] := by
  intro b hb
  unfold State.hostMove State.sampleSdi State.shiftSdo State.endByte
  cases b <;> first
    | exact absurd (by decide) hb
    | (simp only [State.sameIn]; repeat' split) <;> rfl

end Sys2Proof.Machine
end

