-- ==== Sys2Proof/Laws/Journal.lean ====
section
/-! SUPPORT. The journal: what an insertion, an offer, a horizon computation and a consumption do to its
regions, and on which parts of State they depend. -/

namespace Sys2Proof.Machine

open Sys2Proof

/-! ### Keys (R13) -/

/-- The key of a record as numbers. -/
theorem keyLt_iff (a b : Record) : keyLt a b = true ↔
    a.stamp.toNat < b.stamp.toNat ∨ (a.stamp.toNat = b.stamp.toNat ∧
      (a.origin.val < b.origin.val ∨ (a.origin.val = b.origin.val ∧ a.seq.toNat < b.seq.toNat))) := by
  simp only [keyLt, Bool.or_eq_true, Bool.and_eq_true, decide_eq_true_eq, beq_iff_eq, BitVec.lt_def,
    Fin.lt_def, Fin.ext_iff, ← BitVec.toNat_inj]

/-- A record that comes before another does not come after it. -/
theorem keyLt_asymm {a b : Record} (h : keyLt a b = true) : keyLt b a = false := by
  rw [← Bool.not_eq_true, keyLt_iff]
  rw [keyLt_iff] at h
  omega

/-- What does not come before the middle one of two in order does not come before the first. -/
theorem keyLt_false_trans {a b c : Record} (h : keyLt b a = false) (h' : keyLt c b = false) :
    keyLt c a = false := by
  rw [← Bool.not_eq_true, keyLt_iff] at h h' ⊢
  omega

/-! ### Insertion (R21) -/

/-- An insertion adds the one record. -/
theorem insertByKey_perm (h : Held) (l : List Held) : (insertByKey h l).Perm (h :: l) := by
  induction l with
  | nil => exact .refl _
  | cons x xs ih =>
    simp only [insertByKey]
    split
    · exact .refl _
    · exact (ih.cons x).trans (.swap _ _ _)

/-- The length rises by 1. -/
theorem insertByKey_length (h : Held) (l : List Held) : (insertByKey h l).length = l.length + 1 :=
  (insertByKey_perm h l).length_eq

/-- The records of the region and the new one are what the region holds after. -/
theorem mem_insertByKey {h x : Held} {l : List Held} : x ∈ insertByKey h l ↔ x = h ∨ x ∈ l := by
  rw [(insertByKey_perm h l).mem_iff, List.mem_cons]

/-- Key order is kept. -/
theorem insertByKey_sorted (h : Held) {l : List Held}
    (hl : l.Pairwise (fun a b => keyLt b.record a.record = false)) :
    (insertByKey h l).Pairwise (fun a b => keyLt b.record a.record = false) := by
  induction l with
  | nil => simp [insertByKey]
  | cons x xs ih =>
    obtain ⟨hx, hxs⟩ := List.pairwise_cons.mp hl
    simp only [insertByKey]
    split
    · rename_i hlt
      refine List.pairwise_cons.mpr ⟨fun y hy => ?_, hl⟩
      rcases List.mem_cons.mp hy with rfl | hy
      · exact keyLt_asymm hlt
      · exact keyLt_false_trans (keyLt_asymm hlt) (hx y hy)
    · rename_i hlt
      refine List.pairwise_cons.mpr ⟨fun y hy => ?_, ih hxs⟩
      rcases mem_insertByKey.mp hy with rfl | hy
      · exact Bool.not_eq_true _ ▸ hlt
      · exact hx y hy

/-! ### Offers and notes (R20) -/

/-- What an offer leaves in the regions and at H. -/
theorem State.offer_journal (s : State) (r : Record) (x : Bool) :
    (s.offer r x).journal.horizon = s.journal.horizon ∧
      (s.offer r x).journal.noteCounter = s.journal.noteCounter ∧
      (((s.offer r x).journal.settling = s.journal.settling ∧
          (s.offer r x).journal.released = s.journal.released) ∨
        (s.journal.occupancy < Config.journalCapacity ∧ r.stamp < s.journal.horizon ∧
          (s.offer r x).journal.settling = s.journal.settling ∧
          (s.offer r x).journal.released = s.journal.released ++ [⟨r, true, x⟩]) ∨
        (s.journal.occupancy < Config.journalCapacity ∧ s.journal.horizon ≤ r.stamp ∧
          (s.offer r x).journal.settling = insertByKey ⟨r, false, x⟩ s.journal.settling ∧
          (s.offer r x).journal.released = s.journal.released)) := by
  unfold State.offer
  split
  · exact ⟨rfl, rfl, .inl ⟨rfl, rfl⟩⟩
  · split
    · exact ⟨rfl, rfl, .inl ⟨rfl, rfl⟩⟩
    · rename_i hroom
      split
      · rename_i hlt
        exact ⟨rfl, rfl, .inr (.inl ⟨by omega, hlt, rfl, rfl⟩)⟩
      · rename_i hlt
        exact ⟨rfl, rfl, .inr (.inr ⟨by omega, BitVec.not_lt.mp hlt, rfl, rfl⟩)⟩

/-- An offer keeps the order and the size of the journal. -/
theorem State.offer_keeps_journal {s : State} (r : Record) (x : Bool) (h : s.JournalKept) :
    (s.offer r x).JournalKept := by
  obtain ⟨hs, hh, ho⟩ := h
  obtain ⟨h1, -, h | h | h⟩ := s.offer_journal r x
  · exact ⟨h.1 ▸ hs, by rw [h.1, h1]; exact hh, by simpa [Journal.occupancy, h.1, h.2] using ho⟩
  · obtain ⟨hr, -, h2, h3⟩ := h
    refine ⟨h2 ▸ hs, by rw [h2, h1]; exact hh, ?_⟩
    simp only [Journal.occupancy, h2, h3, List.length_append, List.length_singleton] at hr ⊢
    omega
  · obtain ⟨hr, hle, h2, h3⟩ := h
    refine ⟨h2 ▸ insertByKey_sorted _ hs, fun y hy => ?_, ?_⟩
    · rw [h2, mem_insertByKey] at hy
      rw [h1]
      rcases hy with rfl | hy
      · exact hle
      · exact hh y hy
    · simp only [Journal.occupancy, h2, h3, insertByKey_length] at hr ⊢
      omega

/-- A note keeps the order and the size of the journal. -/
theorem State.note_keeps_journal {s : State} (d : Detail) (h : s.JournalKept) :
    (s.note d).JournalKept :=
  State.offer_keeps_journal (s := s.countNote) (s.makeNote d) false h

/-- Declarations of loss keep the order and the size of the journal. -/
theorem State.declareRuns_keeps_journal {s : State} (p : Station) (c : GapCause) (seqs : List Seq)
    (h : s.JournalKept) : (s.declareRuns p c seqs).JournalKept := by
  unfold State.declareRuns
  generalize seqRuns seqs = runs
  induction runs generalizing s with
  | nil => exact h
  | cons run more ih => exact ih (State.note_keeps_journal _ h)

/-- A horizon computation keeps the order and the size of the journal. -/
theorem State.computeHorizon_keeps_journal {s : State} (h : s.JournalKept) :
    s.computeHorizon.JournalKept := by
  obtain ⟨hs, hh, ho⟩ := h
  unfold State.computeHorizon
  split
  · refine ⟨hs.filter _, fun y hy => ?_, ?_⟩
    · have := (List.mem_filter.mp hy).2
      simpa [State.releaseTo] using this
    · have : (s.journal.settling.filter (fun y => !decide (y.record.stamp < s.computedHorizon))).length +
          (s.journal.settling.filter (fun y => decide (y.record.stamp < s.computedHorizon))).length =
            s.journal.settling.length := by
        rw [Nat.add_comm]
        simpa using (List.length_eq_length_filter_add
          (l := s.journal.settling) (fun y => decide (y.record.stamp < s.computedHorizon))).symm
      simp only [Journal.occupancy, State.releaseTo, List.length_append] at ho ⊢
      omega
  · exact ⟨hs, hh, ho⟩

/-- A consumption keeps the order and the size of the journal. -/
theorem State.consumeHead_keeps_journal {s : State} (h : s.JournalKept) : s.consumeHead.JournalKept := by
  obtain ⟨hs, hh, ho⟩ := h
  have h1 : ({ s with journal := { s.journal with released := s.journal.released.tail } } :
      State).JournalKept := by
    refine ⟨hs, hh, ?_⟩
    simp only [Journal.occupancy, List.length_tail] at ho ⊢
    omega
  unfold State.consumeHead
  split
  · exact h1
  · exact State.note_keeps_journal _ h1

/-! ### What an offer and a horizon computation depend on -/

/-- An offer's effect on the journal depends on the journal and network time alone. -/
theorem State.offer_journal_congr {s t : State} (r : Record) (x : Bool) (hj : s.journal = t.journal)
    (hn : s.now = t.now) : (s.offer r x).journal = (t.offer r x).journal := by
  unfold State.offer
  rw [hj]
  split
  · simp [State.dropRecord, State.setDropFlag, State.countDrop, hj, hn]
  · split
    · simp [State.dropRecord, State.setDropFlag, State.countDrop, hj, hn]
    · split
      · simp [State.insertLate, State.countLate, hj]
      · simp [State.insertSettling, hj]

/-- An offer leaves network time and the time state. -/
theorem State.offer_timebase (s : State) (r : Record) (x : Bool) :
    (s.offer r x).timebase = s.timebase :=
  s.offer_frame r x .timebase (by decide)

/-- A note's effect on the journal depends on the journal and the Timebase alone. -/
theorem State.note_journal_congr {s t : State} (d : Detail) (hj : s.journal = t.journal)
    (ht : s.timebase = t.timebase) : (s.note d).journal = (t.note d).journal := by
  have hn : s.now = t.now := by simp [State.now, ht]
  have hr : s.makeNote d = t.makeNote d := by simp [State.makeNote, hj, hn, ht]
  unfold State.note
  rw [hr]
  exact State.offer_journal_congr _ _ (by simp [State.countNote, hj]) hn

/-- Declarations' effect on the journal depends on the journal and the Timebase alone. -/
theorem State.declareRuns_journal_congr {s t : State} (p : Station) (c : GapCause) (seqs : List Seq)
    (hj : s.journal = t.journal) (ht : s.timebase = t.timebase) :
    (s.declareRuns p c seqs).journal = (t.declareRuns p c seqs).journal := by
  unfold State.declareRuns
  generalize seqRuns seqs = runs
  induction runs generalizing s t with
  | nil => exact hj
  | cons run more ih =>
    refine ih (State.note_journal_congr _ hj ht) ?_
    have h1 := s.note_frame (.gap p run.1 (satCount run.2) c) .timebase (by decide)
    have h2 := t.note_frame (.gap p run.1 (satCount run.2) c) .timebase (by decide)
    exact h1.trans (ht.trans h2.symm)

/-- A horizon computation's effect on the journal depends on the journal, network time and the terms of the
ACTIVE entries alone. -/
theorem State.computeHorizon_journal_congr {s t : State} (hj : s.journal = t.journal)
    (hn : s.now = t.now) (hp : s.peerTerms = t.peerTerms) :
    s.computeHorizon.journal = t.computeHorizon.journal := by
  have hc : s.computedHorizon = t.computedHorizon := by
    simp [State.computedHorizon, State.ownTerm, hn, hp]
  unfold State.computeHorizon
  rw [hc, hj]
  split
  · simp [State.releaseTo, hj]
  · exact hj

/-- H rises or stays at a horizon computation. -/
theorem State.computeHorizon_rises (s : State) : s.journal.horizon ≤ s.computeHorizon.journal.horizon := by
  unfold State.computeHorizon
  split
  · rename_i h; exact BitVec.le_of_lt h
  · exact BitVec.le_refl _

end Sys2Proof.Machine
end

