-- ==== Sys2Proof/Tests/Slice0.lean ====
section
/-! SUPPORT. Small tests: what WellFormed refuses, formats, single steps from the manual's worked examples,
and one witness for the hypotheses of each statement. Expected values are the manual's, not the model's. -/

namespace Sys2Proof.Tests

set_option Elab.async false

open Sys2Proof Sys2Proof.Machine

/-! ### Small states -/

/-- The state after one command. -/
def after (c : Instr) (s : State) : State :=
  match exec c s with
  | .next t => t
  | .fault _ => s
  | .refused _ => s

/-- Station 5, released from device reset at 1000 kbit/s, UNCONFIGURED. -/
def station : State := after (.resetRelease 5 3) State.reset

/-- Station 5 in a later life-cycle state with its rounds running. -/
def living (l : Lifecycle) : State :=
  { station with
    control := { station.control with lifecycle := l, inForce := true }
    timebase := { station.timebase with roundTimer := some 5 } }

/-- Station 5, RUNNING. -/
def running : State := living .running

/-- The same with the pin of input 3 at high. -/
def high : State := { running with pins := 8 }

/-- Peer 9. -/
def nine : Station := 8

/-- The entry of a peer with this next sequence, ACTIVE. -/
def activeEntry (next : Seq) (ct : Stamp) : PeerEntry :=
  { PeerEntry.reset with
    state := .active, numbering := some ⟨40, next⟩, ct := ct, silenceTimer := some 7 }

/-- `s` at a count of the local counter. -/
def State.at (s : State) (n : Nat) : State :=
  { s with timebase := { s.timebase with localCounter := BitVec.ofNat 48 n } }

/-- `s` at the end of a frame on the line. -/
def hearing (s : State) : State :=
  { s with line := { s.line with rx := .receiving } }

/-- `s` ready to begin a frame. -/
def onIdle (s : State) : State :=
  { s with line := { s.line with rx := .idle } }

/-- `s` sending a frame. -/
def sending (tx : Transmitter) (src : Source) (f : Frame) (s : State) : State :=
  { s with line := { s.line with
    tx := tx, rx := .receiving, echo := true, prepared := some ⟨src, f⟩ } }

/-- `s` with a transaction at this point. -/
def inTxn (t : Transaction) (c : Option OperandCommand) (s : State) : State :=
  { s with selLow := true, host := { s.host with txn := t, operandsOf := c } }

/-- `s` with input 3 in this configuration and state. -/
def withInput (c : InputConfig) (x : Input) (s : State) : State :=
  ({ s with control := { s.control with config := { s.control.config with
      inputs := s.control.config.inputs.set 3 c } } } : State).setInput 3 x

/-- An EDGE of an origin. -/
def edgeOf (p : Station) (seq : Seq) (stamp : Stamp) : Record :=
  { origin := originOf p, seq := seq, stamp := stamp, quality := .locked,
    detail := .edge 1 true false 3 2 }

/-- A record held without flags. -/
def plain (r : Record) : Held := ⟨r, false, false⟩

/-- An input that reports both levels, DIRECT, hold-off 50, chatter limit as given, window 1. -/
def both (limit : Nat) : InputConfig := ⟨.both, .direct, 50, limit, 1⟩

/-- An input that is ARMED at low with edge count 10. -/
def armed : Input := { Input.reset with state := .armed, edgeCount := 10 }

/-- The frame of a peer on the line. -/
def raw (p : Station) (f : Frame) : List Byte := encodeFrame (originOf p) f

/-- Peer 9 ACTIVE with next sequence 45 and the sequences 42 and 43 missing, in RUNNING, at the end of a
frame, with the recorded SOF 100 before the time. -/
def listening : State :=
  let s := ((State.at running 1000).setPeer nine (activeEntry 45 800)).setMissing nine
    [⟨42, 1, .timing 500, false⟩, ⟨43, 1, .timing 500, false⟩]
  hearing { s with timebase := { s.timebase with sofCounter := 900 } }

/-! ### WellFormed refuses -/

theorem test_configure_needs_87_bytes :
    (Instr.configure (List.replicate 86 0)).wellFormed = false ∧
      (Instr.configure (List.replicate 88 0)).wellFormed = false ∧
      (Instr.configure (List.replicate 87 0)).wellFormed = true := by decide

theorem test_bad_command_names_no_command :
    (Instr.badCommand 0x01).wellFormed = false ∧ (Instr.badCommand 0x09).wellFormed = false ∧
      (Instr.badCommand 0x0A).wellFormed = true ∧ (Instr.badCommand 0x00).wellFormed = true := by
  decide

theorem test_command_byte_has_operands :
    (Instr.commandByte 0x01).wellFormed = false ∧ (Instr.commandByte 0x03).wellFormed = false ∧
      (Instr.commandByte 0x04).wellFormed = true := by decide

theorem test_body_length_above_57 :
    (Instr.bodyLengthAbove57 57).wellFormed = false ∧
      (Instr.bodyLengthAbove57 58).wellFormed = true := by decide

theorem test_frame_rows_need_their_kind :
    (Instr.timeReceived (raw nine (.hello 3 true 100))).wellFormed = false ∧
      (Instr.helloReceived (raw nine (.repairNone 3 [1]))).wellFormed = false ∧
      (Instr.eventReceived (raw nine (.hello 3 true 100))).wellFormed = false ∧
      (Instr.repairReqReceived (raw nine (.hello 3 true 100))).wellFormed = false ∧
      (Instr.repairDataReceived (raw nine (.hello 3 true 100))).wellFormed = false ∧
      (Instr.repairNoneReceived (raw nine (.hello 3 true 100))).wellFormed = false ∧
      (Instr.helloReceived (raw nine (.hello 3 true 100))).wellFormed = true := by decide

theorem test_frame_must_be_whole :
    (Instr.helloReceived ((raw nine (.hello 3 true 100)).dropLast)).wellFormed = false ∧
      (Instr.crcError [0x09, 0x01, 0x01, 0x00, 0x00]).wellFormed = false ∧
      (Instr.crcError [0x09, 0x01, 0x00, 0x00, 0x00]).wellFormed = true := by decide

/-! ### Words and formats -/

/-- The table gives no row any bits. -/
theorem test_no_word_spells_a_command : decodeTableWord 16 0x0001 = none := by decide

/-- R205: the check value of this CRC over the digits 1 to 9. -/
theorem test_crc_check_value :
    crcOf [0x31, 0x32, 0x33, 0x34, 0x35, 0x36, 0x37, 0x38, 0x39] = 0x29B1 := by decide +kernel

/-- R203: a HELLO frame of station 9 with next sequence 0102h, restart yes and SI 100 ms, before its CRC. -/
theorem test_hello_bytes :
    frameHead (originOf nine) (.hello 0x0102 true 100) =
      [0x09, 0x01, 0x05, 0x01, 0x02, 0x01, 0x00, 0x64] := by decide

/-- Section 7.7: the arbitration bytes of the three stations. -/
theorem test_arbitration_bytes :
    arbitrationByte 9 (.time 0 0 0 100 .free) = 0x09 ∧
      arbitrationByte 12 (.repairReq 3 false [1]) = 0x2C ∧
      arbitrationByte 5 (.event [edgeOf 4 0 0]) = 0x45 := by decide

/-- R204: the line record of an EDGE of input 1 at high, quality LOCKED. -/
theorem test_line_record_bytes :
    encodeLineRecord (edgeOf nine 0x0102 0x0A0B0C0D0E0F) =
      [0x21, 0x01, 0x02, 0x0A, 0x0B, 0x0C, 0x0D, 0x0E, 0x0F, 0x11, 0x00, 0x03, 0x00, 0x02] := by
  decide

/-- R27: the own term at network times 199, 200 and 1000. -/
theorem test_own_term :
    ((State.at running 199).ownTerm, (State.at running 200).ownTerm, (State.at running 1000).ownTerm) =
      (0, 0, 800) := by decide

/-- R159: a wrong kind class, an SI out of range and a sequence named twice are format errors. -/
theorem test_format_errors :
    checkContent 0x49 0x01 [0, 0, 0, 0, 100] = .formatError ∧
      checkContent 0x09 0x01 [0, 0, 0, 0, 95] = .formatError ∧
      checkContent 0x29 0x05 [3, 2, 0, 7, 0, 7] = .formatError ∧
      checkContent 0x09 0x01 [0, 0, 0, 0, 100] = .valid nine (.hello 0 false 100) := by decide

/-- R142: a byte on the line: start bit driven, most significant bit first, stop bit released. -/
theorem test_byte_on_the_line :
    lineBits [0x09, 0xFF] = [false, false, false, false, false, true, false, false, true, true,
      false, true, true, true, true, true, true, true, true, true] := by decide

/-- R206: the command bytes. -/
theorem test_command_bytes :
    [0x00, 0x01, 0x02, 0x03, 0x04, 0x05, 0x06, 0x07, 0x08, 0x09, 0x0A, 0xFF].map commandOf =
      [none, some .status, some .configure, some .start, some .read, some .peers, some .inputs,
        some .mark, some .rejoin, some .clearCounts, none, none] := by decide

/-- R12: the wrap of sequences. -/
theorem test_sequences_wrap :
    seqAfter 2 65530 = true ∧ seqBefore 65530 2 = true ∧ seqAfter 32768 0 = false ∧
      seqBefore 32768 0 = false ∧ seqsUpTo 65534 1 = [65534, 65535, 0] := by decide

/-- R8: two runs. -/
theorem test_runs : seqRuns [42, 43, 45, 46] = [(42, 2), (45, 2)] := by decide

/-- Sections 5.9, 5.10 and 10.4: adjustments. -/
theorem test_adjustments :
    adjustment [0, 812370040, 812370030, 812370055] = 812370035 ∧
      adjustment [0, 1800, 2200, 1900, 40] = 1246 ∧
      adjustment [0, 234, 634, 334, -1526] = 189 ∧
      adjustment [0, -15000, -22334] = -12444 ∧ adjustment [0, 2556, -7334] = -1592 := by decide

/-! ### One step each -/

/-- R167. -/
theorem test_release_places_self :
    (station.peer 4).state = .self ∧ station.control.bitRate = .kbit1000 ∧
      ((after (.resetRelease 25 0) State.reset).own).isNone = true := by decide

/-- R166. -/
theorem test_device_reset : (after .deviceReset running).control.lifecycle = .unconfigured := by
  decide

/-- R170, R188. -/
theorem test_start :
    (after .start (inTxn .command none station)).control.joinTimer = some 200000 ∧
      (after .start (inTxn .command none running)).host.response = [0x82] := by decide

/-- R180, R182. -/
theorem test_sel :
    (after (.selFall []) station).host.txn = .command ∧
      (after .selRise (inTxn .response none station)).host.txn = .idle := by decide

/-- R189: READ of none, of 17, and of an empty region. -/
theorem test_read_results :
    (after (.read 0) (inTxn .operands (some .read) station)).host.response = [0x83, 0x00] ∧
      (after (.read 17) (inTxn .operands (some .read) station)).host.response = [0x83, 0x00] ∧
      (after (.read 16) (inTxn .operands (some .read) station)).host.response = [0x81] := by decide

/-- R195, R194. -/
theorem test_clear_and_rejoin :
    (after .clearCounts (inTxn .command none
      { station with counters := { Counters.zero with crcErrors := 9 } })).counters =
        Counters.zero ∧
      (after .rejoin (inTxn .command none running)).host.response = [0x82] := by decide

/-- Section 2.9: the sixth row's free slot, and the OVERFLOW note at the first consumption. -/
theorem test_consumption_reports_drops :
    let s := State.at running 9000
    let t := after .recordConsumed { inTxn .response none s with
      journal := { s.journal with
        released := [plain (edgeOf nine 1 5), plain (edgeOf nine 2 6)]
        pendingDrops := 2, firstDrop := some 7000, lastDrop := some 8000 }
      host := { (inTxn .response none s).host with taken := some (.read 2), sending := true } }
    t.journal.pendingDrops = 0 ∧ t.journal.released.length = 1 ∧
      t.journal.settling.map (·.record.detail) = [.overflow 2 7000 8000] := by decide

/-- Section 6.6, row 1: the first transition. -/
theorem test_edge_starts_holdoff :
    let t := after (.pinChange 3 true) (withInput (both 0) armed (State.at high 1000))
    (t.input 3).state = .holdoff ∧ (t.input 3).edgeCount = 11 ∧
      (t.input 3).holdoffTimer = some 5000 ∧ t.outbound.records.map (·.stamp) = [1000] := by decide

/-- R117: a pulse between two counts makes no transition, and one count makes at most one. -/
theorem test_one_read_at_each_count :
    let s := withInput (both 0) armed running
    (after (.pinChange 3 false) (after (.pinChange 3 true) s)).dueEvents = [] ∧
      (after (.pinChange 3 true) s).dueEvents = [.pinChange 3 true] ∧
      ((after (.pinChange 3 false) (after (.pinChange 3 false) (after (.pinChange 3 true)
        (after (.pinChange 3 true) s)))).input 3).edgeCount = 11 := by decide +kernel

/-- Section 6.6, row 5: the hold-off ends on another level. -/
theorem test_deferred_edge :
    let x := { armed with
      state := .holdoff, edgeCount := 14, holdoffRef := some true, holdoffTimer := some 0 }
    let t := after (.holdoffExpiry 3) (withInput (both 0) x (State.at running 6000))
    (t.input 3).state = .holdoff ∧ (t.input 3).holdoffRef = some false ∧
      t.outbound.records.map (·.detail) = [.edge 3 false true 14 0] := by decide

/-- Section 6.6, the variant with chatter limit 3: the transition at 2,300. -/
theorem test_chatter :
    let x := { armed with
      state := .holdoff, level := true, edgeCount := 13, holdoffRef := some true,
      holdoffTimer := some 3700, window := some ⟨3, 8700⟩ }
    let t := after (.pinChange 3 false) (withInput (both 3) x (State.at running 2300))
    (t.input 3).state = .suspended ∧ (t.input 3).quietTimer = some 10000 ∧
      t.outbound.records.map (·.detail) = [.chatter 3 14 0] := by decide

/-- Section 6.6, the variant with chatter limit 3: the RESUME at 12,300. -/
theorem test_resume :
    let x := { armed with state := .suspended, edgeCount := 14, quietTimer := some 0 }
    let t := after (.quietTimerExpiry 3) (withInput (both 3) x (State.at running 12300))
    (t.input 3).state = .armed ∧
      t.outbound.records.map (·.detail) = [.resume 3 false 14 0] := by decide

/-- Section 3.7, event 3: 9/44 after next sequence 42. -/
theorem test_event_opens_a_gap :
    let s := hearing (running.setPeer nine (activeEntry 42 0))
    let t := after (.eventReceived (raw nine (.event [edgeOf nine 44 5000]))) s
    (t.missing nine).map (·.seq) = [42, 43] ∧
      (t.peer nine).numbering = some ⟨40, 45⟩ ∧ t.journal.settling.length = 1 := by decide +kernel

/-- Section 3.7, event 6: the origin answers, and both records are fills with REPAIRED. -/
theorem test_repair_data_fills :
    let t := after (.repairDataReceived (raw nine (.repairData nine
      [edgeOf nine 42 5000, edgeOf nine 43 5001]))) listening
    t.missing nine = [] ∧ t.journal.settling.map (·.repaired) = [true, true] := by decide +kernel

/-- Section 2.8, event 1: CT and H rise to 1,999,050 and one record is released. -/
theorem test_time_frame_releases :
    let s := (State.at running 2000300).setPeer nine
      { activeEntry 33 1998500 with numbering := some ⟨30, 33⟩ }
    let t := after (.timeReceived (raw nine (.time 2000000 1999050 33 100 .locked)))
      (hearing { s with journal := { s.journal with
        horizon := 1998500
        settling := [plain (edgeOf nine 31 1998700), plain (edgeOf 4 7 1999100)] } })
    t.journal.horizon = 1999050 ∧ t.journal.released.map (·.record.seq) = [31] := by decide +kernel

/-- R79: a heard request for 42 holds its timer back once. -/
theorem test_heard_request :
    let t := after (.repairReqReceived (raw 6 (.repairReq nine false [42]))) listening
    t.missing nine = [⟨42, 1, .timing 20000, true⟩, ⟨43, 1, .timing 500, false⟩] := by decide +kernel

/-- Section 3.7, the last paragraph: one GAP note, first sequence 42, count 2. -/
theorem test_repair_none :
    let t := after (.repairNoneReceived (raw nine (.repairNone nine [42, 43]))) listening
    t.missing nine = [] ∧ t.journal.settling.map (·.record.detail) = [.gap nine 42 2 .expired] := by
  decide +kernel

/-- R48, R53: the HELLO of an ABSENT peer. -/
theorem test_hello_of_absent_peer :
    let t := after (.helloReceived (raw 6 (.hello 7 true 100))) (hearing running)
    (t.peer 6).numbering = some ⟨7, 7⟩ ∧
      t.journal.settling.map (·.record.detail) = [.peerUp 6 true false] := by decide +kernel

/-- R161: a clash. -/
theorem test_clash :
    (after (.helloReceived (raw 4 (.hello 7 true 100))) (hearing running)).control.cause = .clash := by
  decide +kernel

/-- R158: a CRC error. -/
theorem test_crc_error :
    (after (.crcError [0x09, 0x01, 0x00, 0x00, 0x00]) (hearing running)).counters.crcErrors = 1 := by
  decide +kernel

/-- R157, R159: an idle gap, a framing fault and a long body length within a frame. -/
theorem test_frames_cut_short :
    (after .idleGap (hearing running)).counters.truncated = 1 ∧
      (after (.framingFault 0x55) (hearing running)).counters.formatErrors = 1 ∧
      (after (.bodyLengthAbove57 58) (hearing running)).counters.formatErrors = 1 := by decide

/-- R141, R143: in IDLE a frame is read bit by bit at 1 µs a bit, and its row is then due. -/
theorem test_frame_is_read_from_its_bits :
    let bits := lineBits (raw nine (.hello 7 true 100))
    let s := after (.startOfFrame bits.tail) (onIdle running)
    let t := (List.range bits.length).foldl (fun u _ => u.microsecond) s
    t.line.bytes = raw nine (.hello 7 true 100) ∧ t.line.bits = [] ∧
      t.frameEndDue = true := by decide +kernel

/-- R141, R142: at 125 kbit/s a bit is read 4 µs into its bit time, and the idle gap is shown 96 µs after the
last driven bit. -/
theorem test_slow_line :
    let s : State := { running with
      line := LineControl.reset, medium := Medium.released
      control := { running.control with bitRate := .kbit125 } }
    let later := fun n => (List.range n).foldl (fun u _ => u.microsecond) s
    (later 3).line.releasedRun = 0 ∧ (later 4).line.releasedRun = 1 ∧
      (later 11).line.releasedRun = 1 ∧ (later 12).line.releasedRun = 2 ∧
      (later 95).gapDue = false ∧ (later 96).gapDue = true := by
  decide +kernel

/-- R142: at 125 kbit/s a driven bit that comes before the twelfth released bit is over shows no idle gap: in
WAIT it is no start of a frame. -/
theorem test_no_early_idle_gap :
    let s : State := { running with
      line := { LineControl.reset with releasedRun := 12, bitPhase := 5 }, medium := Medium.released
      control := { running.control with bitRate := .kbit125 } }
    let t := after (.startOfFrame [true]) s
    s.gapDue = false ∧ t.line.releasedRun = 11 ∧ t.gapDue = false ∧
      t.microsecond.microsecond.microsecond.microsecond.line.releasedRun = 0 := by decide +kernel

/-- R142: the stop bit of a frame that its row tells has just been read, so that the idle gap is shown 92 µs
later at 125 kbit/s, where that stop bit is the one released bit of the run. -/
theorem test_gap_after_told_frame :
    let s := after (.crcError [0x09, 0x01, 0x00, 0x00, 0x00]) { hearing running with
      control := { running.control with bitRate := .kbit125 } }
    let later := fun n => (List.range n).foldl (fun u _ => u.microsecond) s
    s.line.releasedRun = 1 ∧ (later 91).gapDue = false ∧ (later 92).gapDue = true := by
  decide +kernel

/-- Section 7.7, bit 6: station 5 sends released and reads driven, and has lost. -/
theorem test_arbitration_by_bits :
    let s := after .frameBegin (onIdle { running with outbound := ⟨[edgeOf 4 0 1], 1, 0⟩ })
    let t := after (.startOfFrame [false, false]) s
    let u := t.microsecond.microsecond.microsecond
    s.ltx = false ∧ u.line.misread = true ∧ u.lossDue = true ∧
      t.microsecond.microsecond.ltx = true ∧ t.microsecond.microsecond.lrx = false := by
  decide +kernel

/-- R142, R152: at 125 kbit/s a HELLO whose CRC ends in 0 completes 4 µs into its last CRC bit, which this
station drives for the 4 µs that are left of its bit time; a CRC that ends in 1 leaves the line released. -/
theorem test_last_crc_bit_is_driven_to_its_end :
    let at125 := fun next => after .frameComplete (sending .sending (.hello true) (.hello next true 100)
      { running with control := { running.control with bitRate := .kbit125 } })
    let later := fun s n => ((List.range n).foldl (fun u _ => u.microsecond) s : State)
    (at125 0).line.tx = .free ∧ (at125 0).line.bitPhase = 4 ∧ (at125 0).ltx = false ∧
      (later (at125 0) 3).ltx = false ∧ (later (at125 0) 4).ltx = true ∧ (at125 4).ltx = true := by
  decide +kernel

/-- The edges of SCK with which the host sends a byte. -/
def clocked (byte : Byte) : List HostMove := (dataBits byte).flatMap (fun b => [.rise b, .fall])

/-- `n` steps from a state, while each answers a next state. -/
def stepped : Nat → State → State
  | 0, s => s
  | n + 1, s =>
    match step s with
    | .next t => stepped n t
    | .fault _ => s
    | .refused _ => s

/-- `station` in a transaction of the host, after `n` steps. -/
def clockedBy (moves : List HostMove) (n : Nat) : State :=
  stepped n (after (.selFall moves) station)

/-- R180 to R183: the byte 0Ah, clocked most significant bit first, is taken at its eighth rising edge and
no sooner, and the next byte period has BAD_COMMAND (86h) on SDO bit by bit. -/
theorem test_byte_is_clocked :
    (clockedBy (clocked 0x0A) 14).pending = [] ∧
      (clockedBy (clocked 0x0A) 15).pending = [.badCommand 0x0A] ∧
      (clockedBy (clocked 0x0A) 15).sdoPin = some false ∧
      (clockedBy (clocked 0x0A ++ clocked 0x00) 17).sdoPin = some true ∧
      (clockedBy (clocked 0x0A ++ clocked 0x00) 19).sdoPin = some false ∧
      (clockedBy (clocked 0x0A ++ clocked 0x00) 27).sdoPin = some true := by
  decide +kernel

/-- R180, R182: a byte period that SEL cuts before its eighth rising edge is discarded. -/
theorem test_cut_byte_is_discarded :
    (clockedBy ((clocked 0x0A).take 14 ++ [.lift]) 14).host.bits.length = 7 ∧
      (clockedBy ((clocked 0x0A).take 14 ++ [.lift]) 16).host = station.host ∧
      (clockedBy ((clocked 0x0A).take 14 ++ [.lift]) 16).selLow = false := by
  decide +kernel

/-- R181, R193: MARK with its tag, clocked, is taken with that tag. -/
theorem test_operand_is_clocked :
    (clockedBy (clocked 0x07 ++ clocked 0xA5) 32).pending = [.mark 0xA5] := by
  decide +kernel

/-- R181: SDO through a transaction. -/
theorem test_sdo :
    station.sdo 0 = none ∧ (after (.selFall []) station).sdo 0 = some 0x00 ∧
      (after (.badCommand 0x0A) (inTxn .command none station)).sdo 0 = some 0x86 ∧
      (after .responseEnd (after (.badCommand 0x0A) (inTxn .command none station))).sdo 0 =
        some 0x00 := by decide

/-- R50. -/
theorem test_silence :
    let s := running.setPeer nine { activeEntry 42 0 with silenceTimer := some 0 }
    let t := after (.silenceExpiry nine) s
    (t.peer nine).state = .silent ∧
      t.journal.settling.map (·.record.detail) = [.peerDown nine (some 42)] := by decide

/-- Section 4.8, the expiries at 20.5 and at 61.6. -/
theorem test_repair_timer :
    (after (.repairTimerExpiry nine) (listening.setMissing nine [⟨57, 1, .timing 0, false⟩])).missing
        nine = [⟨57, 1, .due 0, false⟩] ∧
      ((after (.repairTimerExpiry nine) (listening.setMissing nine
        [⟨57, 3, .timing 0, false⟩])).journal.settling.map (·.record.detail)) =
          [.gap nine 57 1 .exhausted] := by decide

/-- Section 2.10: the step of −3,000 that brings the round end to 4,997,600. -/
theorem test_backward_step :
    let s := (State.at running 5000600).setPeer nine { activeEntry 42 5000400 with
      offset := some ⟨BitVec.ofInt 48 (-6000), 0⟩ }
    let t := after .roundEnd { s with
      journal := { s.journal with horizon := 5000000 }
      timebase := { s.timebase with
        roundTimer := some 0, timeState := .acquire
        freshness := s.timebase.freshness.set 8 1 } }
    t.now = 4997600 ∧ t.journal.released.map (·.late) = [true] ∧
      t.journal.released.map (·.record.detail) = [.timestep (BitVec.ofInt 48 (-3000))] := by decide

/-- R110. -/
theorem test_slew_tick :
    let s := { running with
      ticks := { running.ticks with slew := 0 }
      timebase := { running.timebase with timeState := .locked, slewRemainder := -3 } }
    (after .slewTick s).timebase.slewRemainder = -2 ∧
      (after .slewTick s).timebase.correction = BitVec.ofInt 48 (-1) := by decide

/-- Section 7.7: TIME goes before the queue, and the three queued records follow in one EVENT. -/
theorem test_selection :
    let s := onIdle { running with outbound := ⟨[edgeOf 4 0 1, edgeOf 4 1 2, edgeOf 4 2 3], 3, 0⟩ }
    (after .frameBegin { s with timebase := { s.timebase with timeOwed := true } }).line.prepared.map
        (·.source) = some .time ∧
      (after .frameBegin s).line.prepared.map (·.source) = some (.event 3) := by decide

/-- R149. -/
theorem test_arbitration :
    (after .arbitrationLoss (sending .arbitrating .time (.hello 0 true 100) running)).line.tx = .free ∧
      (after .arbitrationWon (sending .arbitrating .time (.hello 0 true 100) running)).line.tx =
        .sending := by decide

/-- R151: the sixteenth abort in a row. -/
theorem test_sixteenth_bit_error :
    let s := sending .sending .time (.hello 0 true 100) running
    let t := after .bitError { s with line := { s.line with failures := 15 } }
    t.control.cause = .lineFault ∧ t.line.failures = 16 := by decide

/-- Section 6.7, row 5: the LOSS record of two lost captures takes the own next sequence. -/
theorem test_completion_reports_loss :
    let s := sending .sending (.event 1) (.event [edgeOf 4 130 1]) running
    let t := after .frameComplete
      { s with outbound := ⟨[edgeOf 4 130 1, edgeOf 4 131 2], 132, 2⟩ }
    t.outbound.records.map (fun r => (r.seq, r.detail.isNetwork)) = [(131, true), (132, true)] ∧
      t.outbound.nextSeq = 133 ∧ t.outbound.lost = 0 ∧ t.history.map (·.seq) = [130] := by
  decide +kernel

/-- Log 2: a command that cannot reach the station changes nothing. -/
theorem test_not_taken : after .frameComplete running = running := by decide

/-! ### Witnesses: every statement's hypotheses can be met together -/

/-- A state with a command waiting. -/
def waiting : State := { listening with pending := [.mark 1] }

theorem witness_StationKeepsItsSettings_config :
    waiting.ConfigKept ∧ ∃ t, step waiting = .next t := by
  refine ⟨?_, _, rfl⟩
  unfold State.ConfigKept ConfigRecord.inRange InputConfig.inRange
  decide +kernel

theorem witness_JournalStaysOrderedAndDistinct :
    waiting.JournalKept ∧ waiting.NoDoubleRecord ∧ ∃ t, step waiting = .next t := by
  refine ⟨?_, ?_, _, rfl⟩
  · unfold State.JournalKept; decide +kernel
  · unfold State.NoDoubleRecord; decide +kernel

/-- A full queue with captures lost, and a history of one. -/
def fullQueue : State :=
  let made := (List.range 33).map (fun n => edgeOf 4 (BitVec.ofNat 16 n) (BitVec.ofNat 48 n))
  { waiting with history := made.take 1, outbound := ⟨made.drop 1, 33, 2⟩ }

theorem witness_QueueAndHistoryStayConsecutive :
    fullQueue.QueueKept ∧ fullQueue.OwnRecordsKept ∧ fullQueue.LineKept ∧ fullQueue.PeersKept ∧
      fullQueue.InputsKept ∧ ∃ t, step fullQueue = .next t := by
  refine ⟨?_, ?_, ?_, ?_, ?_, _, rfl⟩
  · unfold State.QueueKept; decide +kernel
  · unfold State.OwnRecordsKept Record.onLine; decide +kernel
  · unfold State.LineKept; decide +kernel
  · unfold State.PeersKept State.peerKept; decide +kernel
  · unfold State.InputsKept State.inputKept; decide +kernel

theorem witness_RepairUnitStaysWithinLimits :
    waiting.RepairKept ∧ waiting.AnswersKept ∧ ∃ t, step waiting = .next t := by
  refine ⟨⟨by decide, fun p => ?_⟩, ?_, _, rfl⟩
  · have h : p = nine ∨ waiting.missing p = [] := by revert p; decide +kernel
    rcases h with rfl | h
    · refine ⟨by decide, ?_, by decide, by decide⟩
      intro m hm
      have : m = ⟨42, 1, .timing 500, false⟩ ∨ m = ⟨43, 1, .timing 500, false⟩ := by
        revert hm; simp [waiting, listening, hearing, State.missing, State.setMissing, nine]
      rcases this with rfl | rfl <;> exact ⟨by decide, by decide, by decide⟩
    · simp [h]
  · unfold State.AnswersKept; decide +kernel

theorem witness_MissingSetsStayInOrder :
    waiting.MissingOrdered ∧ waiting.PeersKept ∧
      (∀ p n, (waiting.peer p).numbering = some n → ∀ m ∈ waiting.missing p,
        (n.next - m.seq).toNat + 32 ≤ 32767) ∧ ∃ t, step waiting = .next t := by
  refine ⟨?_, ?_, ?_, _, rfl⟩
  · unfold State.MissingOrdered; decide +kernel
  · unfold State.PeersKept State.peerKept; decide +kernel
  · have h : ∀ p, ∀ n ∈ (waiting.peer p).numbering, ∀ m ∈ waiting.missing p,
        (n.next - m.seq).toNat + 32 ≤ 32767 := by decide +kernel
    exact fun p n hn => h p n hn

theorem witness_LineControllerStaysConsistent :
    waiting.LineKept ∧ ∃ t, step waiting = .next t := by
  refine ⟨?_, _, rfl⟩
  unfold State.LineKept; decide +kernel

theorem witness_TimebaseStaysInRange :
    waiting.TimeKept ∧ waiting.TicksKept ∧ waiting.LineKept ∧ ∃ t, step waiting = .next t := by
  refine ⟨?_, ?_, ?_, _, rfl⟩
  · unfold State.TimeKept; decide +kernel
  · unfold State.TicksKept; decide +kernel
  · unfold State.LineKept; decide +kernel

theorem witness_InputsStayConsistent :
    waiting.InputsKept ∧ waiting.LineKept ∧ ∃ t, step waiting = .next t := by
  refine ⟨?_, ?_, _, rfl⟩
  · unfold State.InputsKept State.inputKept; decide +kernel
  · unfold State.LineKept; decide +kernel

theorem witness_PeerTableStaysConsistent :
    waiting.PeersKept ∧ waiting.LineKept ∧ ∃ t, step waiting = .next t := by
  refine ⟨?_, ?_, _, rfl⟩
  · unfold State.PeersKept State.peerKept; decide +kernel
  · unfold State.LineKept; decide +kernel

theorem witness_HostPortStaysConsistent : waiting.HostKept ∧ ∃ t, step waiting = .next t := by
  refine ⟨⟨by decide, by decide, by decide, by decide, ?_, by decide, by decide, by decide⟩, _, rfl⟩
  intro h; exact absurd h (by decide)

/-- A STATUS response that shows both attention flags. -/
def quietReport : State :=
  let s := inTxn .response none { running with
    host := { running.host with quietFlag := true, dropFlag := true, irq := true } }
  { s with host := { s.host with taken := some .status, report := some s.statusReport } }

theorem witness_IrqAlwaysAtItsLevel :
    (quietReport.host.irq = true ↔ (quietReport.control.inForce = true ∧
        quietReport.control.config.threshold ≤ quietReport.journal.released.length) ∨
      quietReport.host.quietFlag = true ∨ quietReport.host.dropFlag = true) ∧
      ∃ t, step { quietReport with pending := [.mark 1] } = .next t :=
  ⟨by decide, _, rfl⟩

/-- Two released records. -/
def released : State :=
  { running with
    journal := { running.journal with released := [plain (edgeOf nine 1 5), plain (edgeOf nine 2 6)] }
    host := { running.host with irq := true } }

/-- A journal that holds 512 records. -/
def full : State :=
  { running with journal := { running.journal with
    settling := List.replicate 512 (plain (edgeOf nine 1 5)) } }

/-- The command byte is being read. -/
def atCommand : State := inTxn .command none listening

/-- The operands of CONFIGURE, READ and MARK are being read. -/
def atConfigure : State := inTxn .operands (some .configure) station
/-- See `atConfigure`. -/
def atRead : State := inTxn .operands (some .read) released
/-- See `atConfigure`. -/
def atMark : State := inTxn .operands (some .mark) running

/-- R207: a record of values on the edges of their ranges: SI 1000 ms, M 8, RI 255, retries 7, line delay
255, threshold 64, and inputs BOTH, QUALIFIED, hold-off 255, chatter limit 15, window 255. -/
def goodRecord : List Byte :=
  [0x03, 0xE8, 8, 255, 7, 255, 64] ++ (List.replicate 16 [3, 1, 255, 15, 255]).flatten

/-- That record with the byte at `k` at 0, out of the range of its field. -/
def badRecord (k : Nat) : List Byte := goodRecord.set k 0

/-- An invalid address. -/
def nowhere : State := after (.resetRelease 25 0) State.reset

/-- A READ for 2 sends its first record. -/
def sendingRecord : State :=
  let s := inTxn .response none released
  { s with host := { s.host with taken := some (.read 2), sending := true } }

/-- With drops pending. -/
def withDrops (s : State) : State :=
  { s with journal := { s.journal with pendingDrops := 2, firstDrop := some 0, lastDrop := some 0 } }

/-- An armed input with an open window of one transition, and of two. -/
def chattering : Input := { armed with window := some ⟨1, 9⟩ }
/-- See `chattering`. -/
def chatteringOn : Input := { armed with window := some ⟨2, 9⟩ }

/-- An input in HOLDOFF at the end of it, at another level than its reference. -/
def held : Input :=
  { armed with state := .holdoff, holdoffRef := some true, holdoffTimer := some 0 }

/-- An input whose candidate the next sample confirms. -/
def confirming : Input := { armed with candidate := some ⟨true, 5, .free, 0⟩ }

/-- A sample tick is due with QUALIFIED input 3 at high. -/
def sampling (x : Input) : State :=
  withInput { both 0 with qualification := .qualified } x
    { running with pins := 8, ticks := ⟨9, 9, 0⟩ }

/-- The join listen is over. -/
def joinEnding : State :=
  { living .joining with control := { (living .joining).control with joinTimer := some 0 } }

/-- A round end is due in this time state, with or without one peer candidate of this value. -/
def rounding (t : TimeState) (v : Option Int) : State :=
  let s := match v with
    | some v => running.setPeer nine { activeEntry 3 0 with offset := some ⟨BitVec.ofInt 48 v, 0⟩ }
    | none => running
  { s with timebase := { s.timebase with
    timeState := t, roundTimer := some 0, freshness := s.timebase.freshness.set 8 1 } }

/-- With these counts of holdover, lock run and release run. -/
def withCounts (h l r : Nat) (s : State) : State :=
  { s with timebase := { s.timebase with holdover := h, lockRun := l, releaseRun := r } }

/-- Timers of peer 9 have run out. -/
def silent : State :=
  let s := (running.setPeer nine { activeEntry 3 0 with silenceTimer := some 0 }).setMissing nine
    [⟨1, 1, .timing 0, false⟩]
  { s with repair := { s.repair with proxy := [⟨nine, 4, .timing 0⟩] } }

/-- A frame without a body whose CRC field is wrong. -/
def badCrc : List Byte := [0x09, 0x01, 0x00, 0x00, 0x00]

/-- A HELLO row with the frame of this station. -/
def helloFrom (p : Station) : Instr := .helloReceived (raw p (.hello 7 true 100))

/-- An origin answer waits. -/
def answering : State :=
  { onIdle running with repair := { running.repair with originAnswers := [[.repairNone 4 [1]]] } }

/-- Two proxy entries of one subject are due. -/
def proxying : State :=
  { onIdle released with repair := { released.repair with
    proxy := [⟨nine, 1, .due 3⟩, ⟨nine, 2, .due 3⟩] } }

/-- A request for peer 9 has waited 4 µs. -/
def requesting : State :=
  (onIdle running).setMissing nine [⟨42, 0, .due 4, false⟩]

/-- One record is queued. -/
def queued : State := { onIdle running with outbound := ⟨[edgeOf 4 0 1], 1, 0⟩ }

theorem witness_IdleStepPassesTime :
    station.pending = [] ∧
    station.dueEvents = [] ∧ station.moveDue = false ∧
    station.inReset = false ∧
    State.reset.inReset = true ∧
    ({ station with ticks := ⟨0, 1, 1⟩ } : State).dueEvents ≠ [] ∧
    (after (.selFall [.rise true]) station).moveDue = true ∧
    (after (.selFall [.pause]) station).wires.coming = .pause :: [] := by
  decide +kernel

/-- A frame is read with nine bits of its first byte, of which the next one is the last. -/
def reading : State :=
  let s := hearing running
  { s with line := { s.line with bits := [false, true, true, true, true, true, true, true, true] } }

/-- The same at 125 kbit/s. -/
def slow : State := { reading with control := { reading.control with bitRate := .kbit125 } }

theorem witness_BitTimesReadTheLine :
    reading.inReset = false ∧ reading.line.tx = .free ∧ reading.medium.untold = false ∧
    reading.control.bitRate = .kbit1000 ∧ reading.line.bitPhase + 1 = 1 ∧
    slow.control.bitRate = .kbit125 ∧ slow.line.bitPhase + 1 ≠ 4 ∧ slow.line.bitPhase + 1 < 8 ∧
    reading.line.rx = .receiving ∧ reading.line.bits.length = 9 ∧ (hearing running).line.bits = [] ∧
    (sending .arbitrating .time (.hello 0 true 100) running).line.tx ≠ .free ∧
    reading.medium.coming = [] ∧
    (after (.startOfFrame [true]) running).medium.coming = true :: [] ∧
    (after (.startOfFrame []) (onIdle running)).medium.untold = true := by
  decide +kernel

theorem witness_EventsFallDueAtTheirTimes :
    running.inReset = false ∧
    ({ onIdle running with medium := ⟨false, [], false⟩ } : State).medium.level = false ∧
    (12 = ({ running with line := { running.line with releasedRun := 12 } } : State).line.releasedRun ∧
      running.line.bitPhase < running.control.bitRate.middle ∧ running.line.rx ≠ .idle ∧ running.line.tx = .free ∧ running.line.stuck = false) ∧
    100 < ({ running with line := { running.line with drivenRun := 101 } } : State).line.drivenRun ∧
    frameWhole (raw nine (.hello 7 true 100)) = true ∧
    (hearing running).line.rx = .receiving ∧
    (sending .sending .time (.hello 0 true 100) running).line.misread = false ∧
    (sending .sending .time (.hello 0 true 100) running).line.prepared =
      some ⟨.time, .hello 0 true 100⟩ ∧
    ({ running.line with misread := true } : LineControl).misread = true := by
  decide +kernel

theorem witness_DeviceResetAndRelease :
    station.inReset = false ∧
    State.reset.inReset = true ∧
    (⟨23, by decide⟩ : Station).val + 1 = (24 : BitVec 5).toNat ∧
    nine.val + 1 ≠ (24 : BitVec 5).toNat := by
  decide +kernel

theorem witness_WholeMachineRules :
    (∃ t, exec (.mark 1) waiting = .next t) ∧
    Instr.mark 1 ≠ .deviceReset ∧
    Instr.mark 1 ≠ .clearCounts ∧
    waiting.inReset = false ∧
    waiting.control.lifecycle ≠ .unconfigured ∧
    (∃ t, exec .deviceReset running = .next t ∧ t.control.lifecycle ≠ running.control.lifecycle) := by
  refine ⟨⟨_, rfl⟩, ?_, ?_, ?_, ?_, ⟨_, rfl, ?_⟩⟩ <;> decide +kernel

theorem witness_HorizonAndRecordsAreKept :
    (∃ t, exec .recordConsumed waiting = .next t) := ⟨_, rfl⟩

theorem witness_OnlyRoundEndsAndSlewMoveTime :
    (∃ t, exec .slewTick waiting = .next t) ∧
    (∃ t, exec .roundEnd ({ waiting with timebase :=
      { waiting.timebase with timeState := .locked } } : State) = .next t) := ⟨⟨_, rfl⟩, ⟨_, rfl⟩⟩

theorem witness_CountersAndFlagsClearOnlyAsNamed :
    (∃ t, exec .responseEnd quietReport = .next t ∧ t.host.quietFlag = false ∧
      t.host.dropFlag = false) ∧
    quietReport.host.quietFlag = true ∧
    quietReport.host.dropFlag = true ∧
    Instr.responseEnd ≠ .deviceReset := by
  refine ⟨⟨_, rfl, ?_⟩, ?_⟩ <;> decide +kernel

theorem witness_FramesReadBackAsSent :
    (Frame.hello 0 true 10).sendable nine ∧
    (Frame.time 0 0 0 1000 .free).sendable nine ∧
    (Frame.repairReq 3 true [1, 2, 3, 4, 5, 6, 7, 8]).sendable nine ∧
    (Frame.repairNone 23 [65535]).sendable nine ∧
    (Frame.repairData 3 [edgeOf 3 0 0, edgeOf 3 1 1, edgeOf 3 2 2, edgeOf 3 3 3]).sendable nine ∧
    (Frame.event [edgeOf nine 0 0]).sendable nine ∧
    (edgeOf nine 0 0).isNetwork = true := by
  refine ⟨?_, ?_, ?_, ?_, ?_, ?_, ?_⟩ <;>
    first | rfl | (unfold Frame.sendable Record.onLine; decide +kernel)

theorem witness_FramesReadBackAsSent_bits :
    (hearing running).line.rx = .receiving ∧ (hearing running).line.bits = [] ∧
      (hearing running).line.releasedRun = 0 ∧ (hearing running).line.drivenRun = 0 := by
  decide +kernel

theorem witness_OfferTakesFirstTestThatApplies :
    (edgeOf nine 1 5).isNetwork = true ∧
    (∃ h ∈ released.journal.settling ++ released.journal.released, h.record.isNetwork = true ∧
      h.record.origin = (edgeOf nine 1 5).origin ∧ h.record.seq = (edgeOf nine 1 5).seq) ∧
    released.journal.settling.length + released.journal.released.length < 512 ∧
    (∀ h ∈ released.journal.settling ++ released.journal.released,
      ¬ (h.record.isNetwork = true ∧ h.record.origin = (edgeOf nine 3 5).origin ∧
        h.record.seq = (edgeOf nine 3 5).seq)) ∧
    (edgeOf nine 3 5).stamp < ({ released with journal := { released.journal with horizon := 6 } } : State).journal.horizon ∧
    released.journal.horizon ≤ (edgeOf nine 3 0).stamp ∧
    512 ≤ full.journal.settling.length + full.journal.released.length ∧
    full.journal.pendingDrops = 0 ∧
    ({ full with journal := { full.journal with pendingDrops := 1 } } : State).journal.pendingDrops ≠ 0 := by
  decide +kernel

theorem witness_HorizonIsTheSmallestTerm :
    (waiting.peer nine).state = .active ∧
    waiting.ownTerm ≤ ({ waiting with journal := { waiting.journal with horizon := 900 } } : State).journal.horizon ∧
    waiting.journal.horizon < waiting.ownTerm ∧
    (State.at running 199).now = 199 ∧ (State.at running 200).now = 200 := by
  decide +kernel

theorem witness_AdjustmentIsTrimmedMean :
    ([0] : List Int) ≠ [] ∧
    ([0] : List Int).length < 4 ∧
    ([0, 1, 2] : List Int).length < 4 ∧
    4 ≤ ([0, 1, 2, 3] : List Int).length := by
  decide +kernel

theorem witness_TransactionsOpenTakeAndEnd :
    station.IrqKept ∧
    station.selLow = false ∧
    station.inReset = false ∧
    State.reset.IrqKept ∧
    State.reset.selLow = false ∧
    State.reset.inReset = true ∧
    (inTxn .command none station).IrqKept ∧
    (inTxn .command none station).selLow = true ∧
    (inTxn .command none station).host.txn = .command ∧
    station.host.txn ≠ .command ∧
    (0x0A : Byte).toNat ≥ 0x0A := by
  refine ⟨?_, ?_, ?_, ?_, ?_, ?_, ?_, ?_, ?_, ?_, ?_⟩ <;> first | decide +kernel | rfl

/-- A transaction in which the host has these moves to make, at this level of SCK, with `k` bits of the
present byte period sampled. -/
def clocking (t : Transaction) (moves : List HostMove) (sck : Bool) (k : Nat) : State :=
  let s := inTxn t (if t = .operands then some .mark else none) running
  { s with
    wires := ⟨sck, false, moves⟩
    host := { s.host with bits := List.replicate k true, out := dataBits 0x00 } }

theorem witness_HostWiresCarryBytePeriods :
    (clocking .idle [.rise true] false 0).host.txn = .idle ∧
    (clocking .command [.rise true] true 0).wires.sck = true ∧
    (clocking .command [.rise true] false 6).host.bits.length < 7 ∧
    (∀ t ∈ [Transaction.command, .operands, .response, .trailing],
      (clocking t [.rise true, .pause] false 7).host.bits.length = 7 ∧
      (clocking t [.rise true, .pause] false 7).host.txn ≠ .idle ∧
      (clocking t [.rise true, .pause] false 7).wires.sck = false ∧
      (clocking t [.rise true, .pause] false 7).wires.coming = .rise true :: [.pause]) ∧
    (clocking .command [.fall] false 3).wires.sck = false ∧
    (clocking .response [.fall] true 0).wires.sck = true ∧
    (clocking .response [.fall] true 0).wires.coming = .fall :: [] ∧
    (clocking .command [.lift] false 0).wires.coming = .lift :: [] ∧
    (clocking .command ((dataBits 0x07).flatMap (fun b => [.rise b, .fall]) ++ [.lift]) false
      0).host.bits = [] := by
  decide +kernel

theorem witness_StatusReportsAndClearsShownFlags :
    (atCommand.IrqKept ∧
    atCommand.inReset = false ∧
    atCommand.host.txn = .command) ∧
    quietReport.inReset = false ∧
    quietReport.host.txn = .response ∧
    quietReport.host.sending = false ∧
    quietReport.host.taken = some .status ∧
    quietReport.host.report = some quietReport.statusReport ∧
    (inTxn .response none running).host.taken ≠ some .status ∧
    (inTxn .response none running).IrqKept := by
  refine ⟨⟨?_, ?_, ?_⟩, ?_, ?_, ?_, ?_, ?_, ?_, ?_⟩ <;> first | decide +kernel | rfl

/-- The value of the field of this index, and whether it is within R207's values. -/
def fieldOf (record : List Byte) (k : Nat) : Nat :=
  if k = 0 then 256 * (record.getD 0 0).toNat + (record.getD 1 0).toNat
  else (record.getD (k + 1) 0).toNat

/-- `ok` says of each field of `record` whether it is within R207's values. -/
abbrev okFields (record : List Byte) (ok : Nat → Bool) : Prop :=
  (ok 0 ↔ 10 ≤ fieldOf record 0 ∧ fieldOf record 0 ≤ 1000 ∧ fieldOf record 0 % 10 = 0) ∧
    (ok 1 ↔ 2 ≤ fieldOf record 1 ∧ fieldOf record 1 ≤ 8) ∧
    (ok 2 ↔ 5 ≤ fieldOf record 2 ∧ fieldOf record 2 ≤ 255) ∧
    (ok 3 ↔ 1 ≤ fieldOf record 3 ∧ fieldOf record 3 ≤ 7) ∧ (ok 4 ↔ fieldOf record 4 ≤ 255) ∧
    (ok 5 ↔ 1 ≤ fieldOf record 5 ∧ fieldOf record 5 ≤ 64) ∧
    (∀ i, i < 16 → (ok (6 + 5 * i) ↔ fieldOf record (6 + 5 * i) ≤ 3) ∧
      (ok (7 + 5 * i) ↔ fieldOf record (7 + 5 * i) ≤ 1) ∧
      (ok (8 + 5 * i) ↔ fieldOf record (8 + 5 * i) ≤ 255) ∧
      (ok (9 + 5 * i) ↔ fieldOf record (9 + 5 * i) = 0 ∨
        (2 ≤ fieldOf record (9 + 5 * i) ∧ fieldOf record (9 + 5 * i) ≤ 15)) ∧
      (ok (10 + 5 * i) ↔ 1 ≤ fieldOf record (10 + 5 * i) ∧ fieldOf record (10 + 5 * i) ≤ 255))

/-- A record accepted, one refused at its last field and one at its first; and after START. -/
theorem witness_ConfigureTakesOrRefusesTheRecord :
    (∀ record ∈ [goodRecord, badRecord 86, badRecord 0], ∃ ok : Nat → Bool, record.length = 87 ∧
      (∀ k, 1 ≤ k → k < 86 → fieldOf record k = (record.getD (k + 1) 0).toNat) ∧
      okFields record ok ∧
      ((record = goodRecord ∧ ∀ k, k < 86 → ok k) ∨
        (record = badRecord 86 ∧ ¬ ok 85 ∧ ∀ j, j < 85 → ok j) ∨
        (record = badRecord 0 ∧ ¬ ok 0))) ∧
    atConfigure.inReset = false ∧
    atConfigure.host.txn = .operands ∧
    atConfigure.host.operandsOf = some .configure ∧
    atConfigure.control.lifecycle = .unconfigured ∧
    atConfigure.IrqKept ∧
    (inTxn .operands (some .configure) running).control.lifecycle ≠ .unconfigured ∧
    (inTxn .operands (some .configure) running).IrqKept := by
  refine ⟨fun record h => ⟨fun k => fieldOk k (fieldOf record k), ?_⟩, ?_, ?_, ?_, ?_, ?_, ?_, ?_⟩
  · revert record
    decide +kernel
  all_goals first | decide +kernel | rfl

theorem witness_StartRejoinAndClearCounts :
    (inTxn .command none station).inReset = false ∧
    (inTxn .command none station).host.txn = .command ∧
    (inTxn .command none station).control.lifecycle = .unconfigured ∧
    1 ≤ (inTxn .command none station).control.address.toNat ∧
    (inTxn .command none station).control.address.toNat ≤ 24 ∧
    (inTxn .command none nowhere).IrqKept ∧
    (inTxn .command none nowhere).control.lifecycle = .unconfigured ∧
    25 ≤ (inTxn .command none nowhere).control.address.toNat ∧
    atCommand.IrqKept ∧
    atCommand.control.lifecycle ≠ .unconfigured := by
  refine ⟨?_, ?_, ?_, ?_, ?_, ?_, ?_, ?_, ?_, ?_⟩ <;> first | decide +kernel | rfl

theorem witness_ReadShowsTheHead :
    atRead.IrqKept ∧
    atRead.inReset = false ∧
    atRead.host.txn = .operands ∧
    atRead.host.operandsOf = some .read ∧
    (0 : Byte).toNat = 0 ∧
    17 ≤ (17 : Byte).toNat ∧
    1 ≤ (1 : Byte).toNat ∧
    (16 : Byte).toNat ≤ 16 ∧
    atRead.journal.released = plain (edgeOf nine 1 5) :: [plain (edgeOf nine 2 6)] ∧
    (inTxn .operands (some .read) running).journal.released = [] ∧
    (inTxn .operands (some .read) running).IrqKept := by
  refine ⟨?_, ?_, ?_, ?_, ?_, ?_, ?_, ?_, ?_, ?_, ?_⟩ <;> first | decide +kernel | rfl

theorem witness_ConsumptionTakesTheHead :
    sendingRecord.inReset = false ∧
    sendingRecord.host.txn = .response ∧
    sendingRecord.host.taken = some (.read 2) ∧
    sendingRecord.host.sending = true ∧
    sendingRecord.journal.released = plain (edgeOf nine 1 5) :: [plain (edgeOf nine 2 6)] ∧
    sendingRecord.journal.occupancy ≤ 512 ∧
    sendingRecord.journal.pendingDrops = 0 ∧
    (withDrops sendingRecord).journal.pendingDrops ≠ 0 ∧
    (withDrops sendingRecord).journal.horizon ≤ (withDrops sendingRecord).now ∧
    sendingRecord.host.delivered + 1 < (2 : Byte).toNat ∧
    (1 : Byte).toNat ≤ sendingRecord.host.delivered + 1 := by
  decide +kernel

theorem witness_ReportsShowEveryRow :
    atCommand.IrqKept ∧
    atCommand.inReset = false ∧
    atCommand.host.txn = .command ∧
    (atCommand.peer 0).state = .absent ∧
    (atCommand.peer 4).state = .self ∧
    (atCommand.peer nine).state = .active ∧
    (atCommand.input 0).state = .disabled := by
  refine ⟨?_, ?_, ?_, ?_, ?_, ?_, ?_⟩ <;> first | decide +kernel | rfl

theorem witness_MarkAppendsARecord :
    atMark.inReset = false ∧
    atMark.host.txn = .operands ∧
    atMark.host.operandsOf = some .mark ∧
    atMark.control.lifecycle ≠ .unconfigured ∧
    atMark.outbound.records.length < 32 ∧
    (inTxn .operands (some .mark) station).IrqKept ∧
    (inTxn .operands (some .mark) station).control.lifecycle = .unconfigured ∧
    (inTxn .operands (some .mark) fullQueue).IrqKept ∧
    32 ≤ (inTxn .operands (some .mark) fullQueue).outbound.records.length := by
  refine ⟨?_, ?_, ?_, ?_, ?_, ?_, ?_, ?_, ?_⟩ <;> first | decide +kernel | rfl

theorem witness_StartRejoinAndClearCounts_rejoin :
    (inTxn .command none (living .quiet)).IrqKept ∧
    (inTxn .command none (living .quiet)).inReset = false ∧
    (inTxn .command none (living .quiet)).host.txn = .command ∧
    (inTxn .command none (living .quiet)).control.lifecycle = .quiet ∧
    (inTxn .command none running).control.lifecycle ≠ .quiet ∧
    (inTxn .command none running).IrqKept := by
  refine ⟨?_, ?_, ?_, ?_, ?_, ?_⟩ <;> first | decide +kernel | rfl

theorem witness_DirectEdgeIsRecorded :
    (withInput (both 0) armed high).inReset = false ∧
    (withInput (both 0) armed high).pin 3 = true ∧
    ((withInput (both 0) armed high).input 3).countTaken = false ∧
    ((withInput (both 0) armed high).input 3).state = .armed ∧
    ((withInput (both 0) armed high).inputConfig 3).qualification = .direct ∧
    ((withInput (both 0) armed high).input 3).level ≠ true ∧
    ((withInput (both 0) armed high).inputConfig 3).mode = .both ∧
    ((withInput (both 0) armed high).inputConfig 3).chatterLimit = 0 ∧
    ((withInput (both 2) armed high).input 3).window = none ∧
    1 ≤ ((withInput (both 2) armed high).inputConfig 3).chatterLimit ∧
    ((withInput (both 2) chattering high).input 3).window = some ⟨1, 9⟩ ∧
    (⟨1, 9⟩ : ChatterWindow).count + 1 ≤ ((withInput (both 2) chattering high).inputConfig 3).chatterLimit ∧
    ((withInput (both 0) armed high).inputConfig 3).holdoff ≠ 0 ∧
    (withInput (both 0) armed high).outbound.records.length < 32 ∧
    32 ≤ (withInput (both 0) armed fullQueue).outbound.records.length := by
  decide +kernel

theorem witness_OtherPinChanges :
    (withInput (both 2) chatteringOn high).inReset = false ∧
    (withInput (both 2) chatteringOn high).pin 3 = true ∧
    ((withInput (both 2) chatteringOn high).input 3).countTaken = false ∧
    high.pin 3 ≠ false ∧
    ((withInput (both 2) chatteringOn high).input 3).state = .armed ∧
    ((withInput (both 2) chatteringOn high).inputConfig 3).qualification = .direct ∧
    ((withInput (both 2) chatteringOn high).input 3).level ≠ true ∧
    ((withInput (both 2) chatteringOn high).inputConfig 3).chatterLimit ≠ 0 ∧
    ((withInput (both 2) chatteringOn high).input 3).window = some ⟨2, 9⟩ ∧
    ((withInput (both 2) chatteringOn high).inputConfig 3).chatterLimit < (⟨2, 9⟩ : ChatterWindow).count + 1 ∧
    (withInput (both 0) armed high).IrqKept ∧
    (high.input 3).state = .disabled ∧
    ((withInput (both 0) { armed with state := .suspended } high).input 3).state = .suspended ∧
    ((withInput (both 0) { armed with state := .holdoff } high).input 3).state = .holdoff ∧
    ((withInput { both 0 with mode := .falling } armed high).inputConfig 3).mode = .falling ∧
    ((withInput { both 2 with mode := .falling } armed high).input 3).window = none ∧
    ((withInput { both 2 with mode := .falling } chattering high).input 3).window = some ⟨1, 9⟩ := by
  refine ⟨?_, ?_, ?_, ?_, ?_, ?_, ?_, ?_, ?_, ?_, ?_, ?_, ?_, ?_, ?_, ?_, ?_⟩ <;> first | decide +kernel | rfl

theorem witness_SampleTickQualifiesLevels :
    (sampling armed).inReset = false ∧
    (sampling armed).ticks.sample = 0 ∧
    ((sampling armed).input 3).state ≠ .disabled ∧
    ((sampling armed).inputConfig 3).qualification = .qualified ∧
    ((sampling armed).inputConfig 3).mode = .both ∧
    ((sampling armed).inputConfig 3).chatterLimit = 0 ∧
    ((sampling armed).input 3).candidate = none ∧
    (sampling armed).pin 3 ≠ ((sampling armed).input 3).level ∧
    ((sampling confirming).input 3).candidate = some ⟨true, 5, .free, 0⟩ ∧
    (sampling confirming).pin 3 = (⟨true, 5, .free, 0⟩ : Candidate).level ∧
    (∀ j, j ≠ 3 → ((sampling confirming).input j).candidate = none) ∧
    ((sampling confirming).input 3).state = .armed ∧
    ({ (sampling confirming) with pins := 0 } : State).pin 3 ≠
      (⟨true, 5, .free, 0⟩ : Candidate).level ∧
    (∀ i, (sampling armed).input i ≠ confirming) ∧
    ((sampling armed).input 0).state = .disabled := by
  decide +kernel

theorem witness_TransitionsFollowTheInputState :
    ((withInput (both 2) chatteringOn high).input 3).state = .armed ∧
    ((withInput (both 2) chatteringOn high).inputConfig 3).chatterLimit ≠ 0 ∧
    ((withInput (both 2) armed high).input 3).window = none ∧
    ((withInput (both 0) { armed with state := .suspended } high).input 3).state = .suspended ∧
    ((withInput (both 0) { armed with state := .holdoff } high).input 3).state = .holdoff ∧
    (high.input 3).state = .disabled ∧
    (edgeOf 4 0 1).origin = high.ownOrigin ∧ (edgeOf 4 0 1).seq = high.outbound.nextSeq ∧
    high.outbound.records.length < 32 ∧ 32 ≤ fullQueue.outbound.records.length := by
  decide +kernel

theorem witness_InputExpiries :
    running.inReset = false ∧
    (withInput (both 0) held running).IrqKept ∧
    ((withInput (both 0) held running).input 3).state = .holdoff ∧
    ((withInput (both 0) held running).input 3).holdoffTimer = some 0 ∧
    ((withInput (both 0) held running).input 3).holdoffRef ≠ some ((withInput (both 0) held running).input 3).level ∧
    ((withInput (both 0) held running).inputConfig 3).mode = .both ∧
    ((withInput (both 0) { held with level := true } running).input 3).holdoffRef = some true ∧
    ((withInput (both 2) { chattering with window := some ⟨1, 0⟩ } running).input 3).window = some ⟨1, 0⟩ ∧
    ((withInput (both 2) { armed with state := .suspended, quietTimer := some 0 } running).input 3).state = .suspended ∧
    ((withInput (both 2) { armed with state := .suspended, quietTimer := some 0 } running).input 3).quietTimer = some 0 := by
  refine ⟨?_, ?_, ?_, ?_, ?_, ?_, ?_, ?_, ?_, ?_⟩ <;> first | decide +kernel | rfl

theorem witness_TicksAndJoinTimer :
    ({ running with ticks := ⟨0, 0, 0⟩ } : State).inReset = false ∧
    ({ running with ticks := ⟨0, 0, 0⟩ } : State).ticks.release = 0 ∧
    ({ running with ticks := ⟨0, 0, 0⟩ } : State).ticks.slew = 0 ∧
    ({ running with ticks := ⟨0, 0, 0⟩ } : State).IrqKept ∧
    (0 : Int) < ({ running with timebase := { running.timebase with slewRemainder := 1 } } : State).timebase.slewRemainder ∧
    ({ running with timebase := { running.timebase with slewRemainder := -1 } } : State).timebase.slewRemainder < 0 ∧
    running.timebase.slewRemainder = 0 ∧
    joinEnding.IrqKept ∧
    joinEnding.control.lifecycle = .joining ∧
    joinEnding.control.joinTimer = some 0 := by
  refine ⟨?_, ?_, ?_, ?_, ?_, ?_, ?_, ?_, ?_, ?_⟩ <;> first | decide +kernel | rfl

theorem witness_CandidatesAreFreshActivePeers :
    (rounding .locked (some 12)).peerValues = [12] ∧
    (rounding .locked none).peerValues = [] := by
  decide +kernel

theorem witness_RoundEndInFree :
    (rounding .free none).inReset = false ∧
    (rounding .free none).timebase.roundTimer = some 0 ∧
    (rounding .free none).timebase.timeState = .free ∧
    (rounding .free none).peerValues = [] ∧
    (rounding .free (some 12)).peerValues ≠ [] ∧
    adjustment (0 :: (rounding .free (some 12)).peerValues) ≠ 0 ∧
    adjustment (0 :: (rounding .free (some 1)).peerValues) = 0 := by
  decide +kernel

theorem witness_RoundEndInAcquire :
    (rounding .acquire none).inReset = false ∧
    (rounding .acquire none).timebase.roundTimer = some 0 ∧
    (rounding .acquire none).timebase.timeState = .acquire ∧
    (rounding .acquire none).TimeKept ∧
    (rounding .acquire none).peerValues = [] ∧
    (rounding .acquire (some 100)).TimeKept ∧
    (rounding .acquire (some 100)).peerValues ≠ [] ∧
    (adjustment (0 :: (rounding .acquire (some 100)).peerValues)).natAbs ≤ 50 ∧
    50 < (adjustment (0 :: (rounding .acquire (some 102)).peerValues)).natAbs ∧
    (withCounts 7 1 0 (rounding .acquire none)).TimeKept ∧
    (withCounts 7 1 0 (rounding .acquire none)).timebase.holdover = 7 ∧
    (withCounts 7 1 0 (rounding .acquire (some 100))).timebase.lockRun = 1 := by
  refine ⟨?_, ?_, ?_, ?_, ?_, ?_, ?_, ?_, ?_, ?_, ?_, ?_⟩ <;>
    first | decide +kernel | rfl | (unfold State.TimeKept; decide +kernel)

theorem witness_RoundEndInLocked :
    (rounding .locked none).inReset = false ∧
    (rounding .locked none).timebase.roundTimer = some 0 ∧
    (rounding .locked none).timebase.timeState = .locked ∧
    (rounding .locked none).TimeKept ∧
    (rounding .locked none).peerValues = [] ∧
    (withCounts 7 0 2 (rounding .locked (some 2002))).TimeKept ∧
    (withCounts 7 0 2 (rounding .locked (some 2002))).peerValues ≠ [] ∧
    1000 < (adjustment (0 :: (rounding .locked (some 2002)).peerValues)).natAbs ∧
    (adjustment (0 :: (rounding .locked (some 2000)).peerValues)).natAbs ≤ 1000 ∧
    (withCounts 7 0 2 (rounding .locked (some 2002))).timebase.releaseRun = 2 ∧
    (withCounts 7 0 2 (rounding .locked none)).timebase.holdover = 7 := by
  refine ⟨?_, ?_, ?_, ?_, ?_, ?_, ?_, ?_, ?_, ?_, ?_⟩ <;>
    first | decide +kernel | rfl | (unfold State.TimeKept; decide +kernel)

theorem witness_PeerTimersExpire :
    running.inReset = false ∧
    (silent.peer nine).state = .active ∧
    (silent.peer nine).silenceTimer = some 0 ∧
    (∃ m ∈ silent.missing nine, m.timer = .timing 0) ∧
    silent.IrqKept ∧
    (⟨nine, 4, .timing 0⟩ : ProxyEntry) ∈ silent.repair.proxy := by
  refine ⟨?_, ?_, ?_, ?_, ?_, ?_⟩ <;> first | decide +kernel | rfl

/-- The retries of one missing entry of peer 9 are spent when its timer has run out. -/
def spent : State := silent.setMissing nine [⟨1, 3, .timing 0, true⟩, ⟨2, 0, .timing 5, false⟩]

/-- The same in QUIET, where another entry has one try left. -/
def spentQuiet : State :=
  (silent.setMissing nine [⟨1, 3, .timing 0, true⟩, ⟨2, 2, .timing 0, false⟩]).enterQuiet .clash

theorem witness_PeerTimersExpire_exhausted :
    spent.inReset = false ∧ (∃ m ∈ spent.missing nine, m.timer = .timing 0 ∧
      spent.control.config.retries ≤ m.tries) := by
  decide +kernel

theorem witness_PeerTimersExpire_outsideRunning :
    spentQuiet.inReset = false ∧ spentQuiet.control.lifecycle ≠ .running ∧
    (∃ m ∈ spentQuiet.missing nine, m.timer = .timing 0 ∧
      m.tries + 1 = spentQuiet.control.config.retries) := by
  decide +kernel

/-- R77, R78, R80: an entry with its retries spent is declared lost with EXHAUSTED, and one with tries left
spends a try at once in QUIET. -/
theorem test_repair_expiry :
    (after (.repairTimerExpiry nine) spent).missing nine = [⟨2, 0, .timing 5, false⟩] ∧
      (after (.repairTimerExpiry nine) spent).journal.settling.map (·.record.detail) =
        [.gap nine 1 1 .exhausted] ∧
      (after (.repairTimerExpiry nine) spentQuiet).missing nine = [⟨2, 3, .timing 20000, false⟩] := by
  decide +kernel

theorem witness_ReceiverEvents :
    (onIdle running).IrqKept ∧
    (onIdle running).inReset = false ∧
    (onIdle running).line.rx = .idle ∧
    24 = ({ onIdle running with line := { (onIdle running).line with releasedRun := 24 } } : State).line.releasedRun ∧
    (onIdle running).line.bitPhase < (onIdle running).control.bitRate.middle ∧
    running.line.tx = .free ∧
    running.line.stuck = false ∧
    running.line.rx ≠ .idle ∧
    ({ running with line := { running.line with stuck := true } } : State).line.stuck = true ∧
    (hearing running).IrqKept ∧
    (hearing running).line.rx = .receiving ∧
    State.reset.inReset = true ∧ State.reset.IrqKept ∧ State.reset.line.rx ≠ .idle ∧
    57 < (58 : Byte).toNat := by
  refine ⟨?_, ?_, ?_, ?_, ?_, ?_, ?_, ?_, ?_, ?_, ?_, ?_, ?_, ?_, ?_⟩ <;> first | decide +kernel | rfl

theorem witness_CrcErrorIsCountedAlone :
    (hearing running).IrqKept ∧
    (hearing running).hears ∧
    frameBytes (.crcError badCrc) = some badCrc ∧
    (Instr.crcError badCrc).wellFormed = true ∧
    badCrc.drop (badCrc.length - 2) ≠ bytes16 (crcOf (badCrc.take (badCrc.length - 2))) := by
  refine ⟨?_, ⟨?_, ?_, ?_, ?_⟩, ?_, ?_, ?_⟩ <;> first | decide +kernel | rfl

/-- The line record of an EDGE with every bit set that R204 marks as zero, from a first byte on. -/
def edgeBytes (first : Byte) : List Byte := [first, 0, 1, 0, 0, 0, 0, 0, 5, 0xD1, 0, 3, 0, 2]

/-- One frame for each content check of R159, which fails it alone. -/
theorem witness_FrameOutcomes_fails :
    contentFails 0x69 0x01 [0, 7, 1, 0, 100] = true ∧
    contentFails 0x00 0x01 [0, 7, 1, 0, 100] = true ∧
    contentFails 0x19 0x01 [0, 7, 1, 0, 100] = true ∧
    contentFails 0x09 0x00 [] = true ∧
    contentFails 0x09 0x07 [] = true ∧
    contentFails 0x29 0x01 [0, 7, 1, 0, 100] = true ∧
    contentFails 0x09 0x01 [0, 7, 1, 0, 100, 0] = true ∧
    contentFails 0x09 0x01 [0, 7, 2, 0, 100] = true ∧
    contentFails 0x09 0x01 [0, 7, 1, 0, 95] = true ∧
    contentFails 0x09 0x01 [0, 7, 1, 0x03, 0xF2] = true ∧
    contentFails 0x09 0x02 [0, 0, 0, 0, 0, 9, 0, 0, 0, 0, 0, 8, 0, 7, 0, 100, 3] = true ∧
    contentFails 0x29 0x03 [0, 1, 1, 0, 7] = true ∧
    contentFails 0x29 0x03 [25, 1, 1, 0, 7] = true ∧
    contentFails 0x29 0x03 [4, 2, 1, 0, 7] = true ∧
    contentFails 0x29 0x03 [4, 1, 0] = true ∧
    contentFails 0x29 0x03 ([4, 1, 9] ++ (List.range 18).map (BitVec.ofNat 8)) = true ∧
    contentFails 0x29 0x05 [4, 2, 0, 7, 0, 7] = true ∧
    contentFails 0x49 0x06 [] = true ∧
    contentFails 0x49 0x06 (edgeBytes 0x00) = true ∧
    contentFails 0x49 0x06 (edgeBytes 0x06) = true ∧
    contentFails 0x49 0x06 (edgeBytes 0x31) = true ∧
    contentFails 0x29 0x04 [4, 0x04, 0, 1, 0, 0, 0, 0, 0, 5, 0, 0, 0, 0, 0] = true := by
  decide +kernel

/-- R204: a frame with bits set that are marked as zero passes every check, and so do frames of each kind. -/
theorem witness_FrameOutcomes_passes :
    contentFails 0x49 0x06 (edgeBytes 0xC1) = false ∧
    contentFails 0x29 0x04 (4 :: edgeBytes 0x01) = false ∧
    contentFails 0x09 0x01 [0, 7, 1, 0, 10] = false ∧
    contentFails 0x09 0x02 [0, 0, 0, 0, 0, 9, 0, 0, 0, 0, 0, 8, 0, 7, 0x03, 0xE8, 2] = false ∧
    contentFails 0x29 0x03 [24, 1, 1, 0, 7] = false ∧
    contentFails 0x29 0x05 [1, 2, 0, 7, 1, 7] = false := by
  decide +kernel

/-- The bits marked as zero do not reach the record (R204). -/
theorem test_zero_bits_are_not_examined :
    checkFrame (wholeFrame 0x49 0x06 (edgeBytes 0xC1)) =
        .valid nine (.event [⟨9, 1, 5, .free, .edge 1 true false 3 2⟩]) ∧
      zeroedBody 0x06 (edgeBytes 0xC1) = [0x01, 0, 1, 0, 0, 0, 0, 0, 5, 0x11, 0, 3, 0, 2] := by
  decide +kernel

theorem witness_FrameOutcomes_crc :
    ([0, 0] : List Byte).length = 2 ∧ ([] : List Byte).length ≤ 57 ∧
    (0x09 :: 0x01 :: BitVec.ofNat 8 ([] : List Byte).length :: [] ++ [0, 0] : List Byte) ≠
      wholeFrame 0x09 0x01 [] := by
  decide +kernel

theorem witness_FrameOutcomes :
    (hearing running).inReset = false ∧
    (hearing running).line.rx = .receiving ∧
    (hearing running).line.tx = .free ∧
    frameBytes (helloFrom 4) = some (raw 4 (.hello 7 true 100)) ∧
    (helloFrom 4).wellFormed = true ∧
    (hearing running).IrqKept ∧
    ({ hearing running with line := { (hearing running).line with echo := true } } : State).line.echo = true ∧
    (hearing running).line.echo = false ∧
    checkFrame (raw 4 (.hello 7 true 95)) = .formatError ∧
    checkFrame (raw 4 (.hello 7 true 100)) = .valid 4 (.hello 7 true 100) ∧
    (∀ r, helloFrom 4 ≠ .crcError r) ∧ (hearing running).line.bytes ≠ raw 4 (.hello 7 true 100) ∧
    (hearing station).control.lifecycle = .unconfigured ∧
    (hearing station).IrqKept ∧
    (hearing running).own = some 4 ∧
    (hearing running).control.lifecycle = .running ∧
    (hearing (living .quiet)).IrqKept ∧
    (hearing (living .quiet)).own = some 4 ∧
    (hearing (living .quiet)).control.lifecycle = .quiet := by
  refine ⟨?_, ?_, ?_, ?_, ?_, ?_, ?_, ?_, ?_, ?_, ?_, ?_, ?_, ?_, ?_, ?_, ?_, ?_, ?_⟩ <;>
    first | (intro r; simp only [helloFrom, ne_eq, reduceCtorEq, not_false_eq_true]) | decide +kernel | rfl

/-- The station at the end of a frame of any kind from peer 9 takes it as valid. -/
theorem witness_SenderIsHeard :
    listening.takesValid (.eventReceived (raw nine (.event [edgeOf nine 44 5000]))) nine
      (.event [edgeOf nine 44 5000]) ∧ (listening.peer nine).state = .active := by
  refine ⟨⟨⟨by decide, by decide, by decide, by decide⟩, ⟨_, rfl, ?_, ?_⟩, ?_, ?_, ?_, ?_⟩, by decide⟩ <;>
    first | exact fun h => nomatch h | decide +kernel

theorem witness_SenderIsHeard_absent :
    listening.takesValid (.eventReceived (raw 23 (.event [edgeOf 23 44 5000]))) 23
      (.event [edgeOf 23 44 5000]) ∧ (listening.peer 23).state = .absent := by
  refine ⟨⟨⟨by decide, by decide, by decide, by decide⟩, ⟨_, rfl, ?_, ?_⟩, ?_, ?_, ?_, ?_⟩, by decide⟩ <;>
    first | exact fun h => nomatch h | decide +kernel

theorem witness_SenderIsHeard_absentRepair :
    listening.takesValid (.repairReqReceived (raw 23 (.repairReq nine false [44]))) 23
      (.repairReq nine false [44]) ∧ (listening.peer 23).state = .absent := by
  refine ⟨⟨⟨by decide, by decide, by decide, by decide⟩, ⟨_, rfl, ?_, ?_⟩, ?_, ?_, ?_, ?_⟩, by decide⟩ <;>
    first | exact fun h => nomatch h | decide +kernel

/-- R48: the first frame of an ABSENT peer numbers it from the first record of an EVENT frame, and not at all
from a REPAIR_REQ. -/
theorem test_first_frame_numbers_an_absent_peer :
    ((after (.eventReceived (raw 23 (.event [edgeOf 23 44 5000]))) listening).peer 23).numbering =
        some ⟨44, 45⟩ ∧
      ((after (.repairReqReceived (raw 23 (.repairReq nine false [44]))) listening).peer 23).numbering =
        none := by
  decide +kernel

theorem witness_HelloSetsTheNumbering :
    listening.takesValid (.helloReceived (raw nine (.hello 7 true 100))) nine (.hello 7 true 100) := by
  refine ⟨⟨by decide, by decide, by decide, by decide⟩, ⟨_, rfl, ?_, ?_⟩, ?_, ?_, ?_, ?_⟩ <;>
    first | exact fun h => nomatch h | decide +kernel

theorem witness_HelloSetsTheNumbering_absent :
    listening.takesValid (.helloReceived (raw 23 (.hello 7 false 100))) 23 (.hello 7 false 100) := by
  refine ⟨⟨by decide, by decide, by decide, by decide⟩, ⟨_, rfl, ?_, ?_⟩, ?_, ?_, ?_, ?_⟩ <;>
    first | exact fun h => nomatch h | decide +kernel

theorem witness_TimeFrameIsTaken :
    listening.takesValid (.timeReceived (raw nine (.time 5 6 47 100 .locked))) nine (.time 5 6 47 100 .locked) ∧
    seqAfter 47 45 = true ∧
    seqAfter 45 45 = false := by
  refine ⟨⟨⟨by decide, by decide, by decide, by decide⟩, ⟨_, rfl, ?_, ?_⟩, ?_, ?_, ?_, ?_⟩, ?_, ?_⟩ <;>
    first | exact fun h => nomatch h | decide +kernel

theorem witness_RecordsAreNewFillsOrDuplicates :
    (listening.peer nine).state = .active ∧
    (listening.peer nine).numbering = some ⟨40, 45⟩ ∧
    (edgeOf nine 45 0).seq = (⟨40, 45⟩ : Numbering).next ∧
    (edgeOf nine 42 0).seq ≠ (⟨40, 45⟩ : Numbering).next ∧
    seqAfter (edgeOf nine 42 0).seq (⟨40, 45⟩ : Numbering).next = false ∧
    (∃ m ∈ listening.missing nine, m.seq = (edgeOf nine 42 0).seq) ∧
    (∀ m ∈ listening.missing nine, m.seq ≠ (edgeOf nine 44 0).seq) ∧
    (listening.peer 23).state = .absent ∧
    (listening.peer 4).state = .self ∧
    ((listening.setPeer nine { activeEntry 3 0 with numbering := none }).peer nine).numbering = none := by
  decide +kernel

theorem witness_RecordFramesAreTaken :
    listening.takesValid (.repairDataReceived (raw 6 (.repairData nine [edgeOf nine 42 5000]))) 6 (.repairData nine [edgeOf nine 42 5000]) := by
  refine ⟨⟨by decide, by decide, by decide, by decide⟩, ⟨_, rfl, ?_, ?_⟩, ?_, ?_, ?_, ?_⟩ <;>
    first | exact fun h => nomatch h | decide +kernel

theorem witness_RepairFramesAreTaken_request :
    listening.takesValid (.repairReqReceived (raw nine (.repairReq 4 false [1]))) nine (.repairReq 4 false [1]) ∧
    (4 : Station) ≠ nine ∧
    listening.own = some 4 := by
  refine ⟨⟨⟨by decide, by decide, by decide, by decide⟩, ⟨_, rfl, ?_, ?_⟩, ?_, ?_, ?_, ?_⟩, ?_, ?_⟩ <;>
    first | exact fun h => nomatch h | decide +kernel

theorem witness_RepairFramesAreTaken_proxy :
    listening.takesValid (.repairReqReceived (raw nine (.repairReq 6 true [1]))) nine (.repairReq 6 true [1]) ∧
    (6 : Station) ≠ nine ∧
    listening.own ≠ some 6 := by
  refine ⟨⟨⟨by decide, by decide, by decide, by decide⟩, ⟨_, rfl, ?_, ?_⟩, ?_, ?_, ?_, ?_⟩, ?_, ?_⟩ <;>
    first | exact fun h => nomatch h | decide +kernel

theorem witness_RepairFramesAreTaken_none :
    listening.takesValid (.repairNoneReceived (raw nine (.repairNone nine [42]))) nine (.repairNone nine [42]) := by
  refine ⟨⟨by decide, by decide, by decide, by decide⟩, ⟨_, rfl, ?_, ?_⟩, ?_, ?_, ?_, ?_⟩ <;>
    first | exact fun h => nomatch h | decide +kernel

theorem witness_RepairFramesAreTaken_retained :
    ({ running with history := [edgeOf 4 1 0, edgeOf 4 2 0] } : State).retained 2 =
      some (edgeOf 4 2 0) := by
  decide +kernel

theorem witness_FrameBeginSendsTheFirstPlace :
    (onIdle running).IrqKept ∧
    (onIdle running).inReset = false ∧
    (onIdle running).line.tx = .free ∧
    (onIdle running).control.lifecycle = .running ∧
    (onIdle running).line.rx = .idle ∧
    (onIdle running).line.stuck = false ∧
    running.line.rx ≠ .idle ∧
    ({ onIdle running with line := { (onIdle running).line with helloOwed := true } } : State).line.helloOwed = true ∧
    (onIdle running).line.helloOwed = false ∧
    ({ onIdle running with timebase := { running.timebase with timeOwed := true } } : State).timebase.timeOwed = true ∧
    (answering).repair.originAnswers = (.repairNone 4 [1] :: []) :: [] ∧
    answering.line.helloOwed = false ∧
    answering.timebase.timeOwed = false := by
  refine ⟨?_, ?_, ?_, ?_, ?_, ?_, ?_, ?_, ?_, ?_, ?_, ?_, ?_⟩ <;> first | decide +kernel | rfl

theorem witness_FrameBeginSendsTheLowerPlaces :
    proxying.IrqKept ∧
    proxying.inReset = false ∧
    proxying.line.tx = .free ∧
    proxying.control.lifecycle = .running ∧
    proxying.line.rx = .idle ∧
    proxying.line.stuck = false ∧
    proxying.line.helloOwed = false ∧
    proxying.timebase.timeOwed = false ∧
    proxying.repair.originAnswers = [] ∧
    proxying.repair.proxy = [] ++ ⟨nine, 1, .due 3⟩ :: [⟨nine, 2, .due 3⟩] ∧
    ([⟨nine, 1, .due 3⟩, ⟨nine, 2, .due 3⟩] : List ProxyEntry).filterMap (fun x =>
      proxying.journal.lookup (originOf x.subject) x.seq) = edgeOf nine 1 5 :: [edgeOf nine 2 6] ∧
    (∀ x ∈ [(⟨nine, 7, .due 3⟩ : ProxyEntry)],
      proxying.journal.lookup (originOf x.subject) x.seq = none) ∧
    proxying.journal.lookup (originOf nine) 1 ≠ none ∧
    requesting.requestAge nine = some 4 ∧
    (∀ q other, requesting.requestAge q = some other → other ≤ 4 ∧ (q < nine → other < 4)) ∧
    (∀ p, ∀ m ∈ (onIdle running).missing p, m.timer.isDue = false) ∧
    queued.outbound.records ≠ [] ∧
    queued.line.holdBack = false ∧
    (onIdle running).outbound.records = [] := by
  refine ⟨?_, ?_, ?_, ?_, ?_, ?_, ?_, ?_, ?_, ?_, ?_, ?_, ?_, ?_, ?_, ?_, ?_, ?_, ?_⟩ <;>
    first
    | decide +kernel
    | rfl

/-- R74: the oldest due entry is the first due one of the set (log 9). -/
theorem witness_FrameBeginSendsTheLowerPlaces_age :
    (running.setMissing nine [⟨41, 0, .timing 5, false⟩, ⟨42, 0, .due 4, false⟩]).missing nine =
      [⟨41, 0, .timing 5, false⟩] ++ ⟨42, 0, .due 4, false⟩ :: [] ∧
    (∀ x ∈ [(⟨41, 0, .timing 5, false⟩ : Missing)], x.timer.isDue = false) := by
  decide +kernel

theorem witness_TransmitterEvents :
    (sending .arbitrating .time (.hello 0 true 100) running).IrqKept ∧
    (sending .arbitrating .time (.hello 0 true 100) running).line.tx = .arbitrating ∧
    running.line.tx ≠ .arbitrating ∧
    (sending .sending .time (.hello 0 true 100) running).line.tx = .sending ∧
    (sending .arbitrating .time (.hello 0 true 100) running).line.misread = false ∧
    (sending .arbitrating .time (.hello 0 true 100) running).line.rx = .receiving ∧
    (sending .arbitrating .time (.hello 0 true 100) running).line.prepared =
      some ⟨.time, .hello 0 true 100⟩ ∧
    (sending .arbitrating .time (.hello 0 true 100) running).line.sent ≠ 10 ∧
    running.line.failures < 15 ∧
    ({ running with line := { running.line with failures := 15 } } : State).line.failures = 15 := by
  refine ⟨?_, ?_, ?_, ?_, ?_, ?_, ?_, ?_, ?_, ?_⟩ <;> first | decide +kernel | rfl

theorem witness_CompletionConsumesWhatWasSent :
    (sending .sending (.hello true) (.hello 0 true 100) running).line.tx = .sending ∧
    (sending .sending (.hello true) (.hello 0 true 100) running).line.misread = false ∧
    (sending .sending (.hello true) (.hello 0 true 100) running).line.rx = .receiving ∧
    (sending .sending (.hello true) (.hello 0 true 100) running).line.sent + 1 ≠
      10 * (encodeFrame running.ownOrigin (.hello 0 true 100)).length ∧
    (sending .sending (.hello true) (.hello 0 true 100) running).line.prepared =
      some ⟨.hello true, .hello 0 true 100⟩ ∧
    answering.repair.originAnswers = [.repairNone 4 [1]] :: [] ∧
    fullQueue.outbound.lost ≠ 0 ∧
    running.outbound.lost = 0 := by
  decide +kernel

end Sys2Proof.Tests
end

section
namespace Sys2Proof.SequenceLaws

open Sys2Proof Sys2Proof.Machine

/-! ### R12: the relations of two sequences -/

/-- The distances of two different sequences, one way and the other, go once around the circle. -/
theorem toNat_sub_add_toNat_sub_swap {a b : Seq} (hne : a ≠ b) :
    (a - b).toNat + (b - a).toNat = 65536 := by
  bv_omega

theorem seqDistance_eq_zero_iff (a b : Seq) : (a - b).toNat = 0 ↔ a = b := by
  bv_omega

theorem seqAfter_iff (a b : Seq) :
    seqAfter a b = true ↔ 1 ≤ (a - b).toNat ∧ (a - b).toNat ≤ 32767 := by
  simp [seqAfter]

theorem seqBefore_iff (a b : Seq) : seqBefore a b = true ↔ 32769 ≤ (a - b).toNat := by
  simp [seqBefore]

theorem seqBefore_iff_range (a b : Seq) :
    seqBefore a b = true ↔ 32769 ≤ (a - b).toNat ∧ (a - b).toNat ≤ 65535 := by
  have hlt : (a - b).toNat < 65536 := (a - b).isLt
  rw [seqBefore_iff]
  omega

theorem seqBefore_iff_seqAfter_swap (a b : Seq) : seqBefore a b = true ↔ seqAfter b a = true := by
  rw [seqBefore_iff, seqAfter_iff]
  obtain rfl | hne := eq_or_ne a b
  · simp
  · have hsum := toNat_sub_add_toNat_sub_swap hne
    have hlt : (a - b).toNat < 65536 := (a - b).isLt
    omega

/-- At the opposite point of the circle neither sequence is after the other. -/
theorem seq_incomparable_of_opposite {a b : Seq} (hopp : (a - b).toNat = 32768) :
    seqAfter a b = false ∧ seqBefore a b = false := by
  simp [seqAfter, seqBefore, hopp]

/-! ### R12: the sequences from one up to another -/

@[simp] theorem seqRange_length (a : Seq) (n : Nat) : (seqRange a n).length = n := by
  induction n generalizing a with
  | zero => rfl
  | succ n ih => simp [seqRange, ih]

theorem seqRange_getElem? (a : Seq) {n k : Nat} (hk : k < n) :
    (seqRange a n)[k]? = some (a + BitVec.ofNat 16 k) := by
  induction n generalizing a k with
  | zero => omega
  | succ n ih =>
    cases k with
    | zero => simp [seqRange]
    | succ k =>
      have hshift : a + 1 + BitVec.ofNat 16 k = a + BitVec.ofNat 16 (k + 1) := by
        rw [BitVec.ofNat_add, BitVec.add_assoc, BitVec.add_comm 1]
        rfl
      have hk' : k < n := by omega
      calc (seqRange a (n + 1))[k + 1]? = (seqRange (a + 1) n)[k]? := by simp [seqRange]
        _ = some (a + 1 + BitVec.ofNat 16 k) := ih (a + 1) hk'
        _ = some (a + BitVec.ofNat 16 (k + 1)) := by rw [hshift]

@[simp] theorem seqsUpTo_length (a b : Seq) : (seqsUpTo a b).length = (b - a).toNat :=
  seqRange_length a _

theorem seqsUpTo_getElem? {a b : Seq} {k : Nat} (hk : k < (b - a).toNat) :
    (seqsUpTo a b)[k]? = some (a + BitVec.ofNat 16 k) :=
  seqRange_getElem? a hk

@[simp] theorem seqsUpTo_self (a : Seq) : seqsUpTo a a = [] := by
  simp [seqsUpTo, seqRange]

/-- Settles O23: the relations from the distance and its reverse, the range by induction on its length. -/
theorem sequencesCompareModulo65536 : Obligations.SequencesCompareModulo65536 := by
  refine ⟨fun a b => ⟨seqDistance_eq_zero_iff a b, seqAfter_iff a b, seqBefore_iff_range a b,
    seqBefore_iff_seqAfter_swap a b, seq_incomparable_of_opposite⟩,
    fun a b => ⟨seqsUpTo_length a (b + 1), fun k hk => seqsUpTo_getElem? hk, ?_⟩⟩
  rintro rfl
  rw [BitVec.sub_add_cancel, seqsUpTo_self]

end Sys2Proof.SequenceLaws
end

section
namespace Sys2Proof.OfferLaws

open Sys2Proof Sys2Proof.Machine

/-! ### The regions: what is held, and where an insertion goes (R13, R17, R41) -/

theorem held_names_iff (origin : Fin 25) (seq : Seq) (h : Held) :
    h.names origin seq = true ↔
      h.record.isNetwork = true ∧ h.record.origin = origin ∧ h.record.seq = seq := by
  simp [Held.names, and_assoc]

/-- A lookup succeeds exactly for a network record that one of the regions holds. -/
theorem lookup_isSome_iff (j : Journal) (origin : Fin 25) (seq : Seq) :
    (j.lookup origin seq).isSome = true ↔ ∃ h ∈ j.settling ++ j.released,
      h.record.isNetwork = true ∧ h.record.origin = origin ∧ h.record.seq = seq := by
  rw [Journal.lookup, Option.isSome_map, List.find?_isSome]
  simp only [held_names_iff]

/-- The key order as R13 spells it: stamp, then origin, then sequence as a plain number. -/
theorem keyLt_iff_lex (a b : Record) : keyLt a b = true ↔ a.stamp < b.stamp ∨ (a.stamp = b.stamp ∧
    (a.origin < b.origin ∨ (a.origin = b.origin ∧ a.seq < b.seq))) := by
  simp [keyLt]

/-- An insertion goes directly before the first record whose key is larger. -/
theorem insertByKey_split (h : Held) (l : List Held) : ∃ before behind, l = before ++ behind ∧
    insertByKey h l = before ++ h :: behind ∧
    (∀ x ∈ before, keyLt h.record x.record = false) ∧
    (∀ x ∈ behind.head?, keyLt h.record x.record = true) := by
  induction l with
  | nil => exact ⟨[], [], rfl, rfl, by simp, by simp⟩
  | cons x xs ih =>
    cases hlt : keyLt h.record x.record with
    | true => exact ⟨[], x :: xs, rfl, by simp [insertByKey, hlt], by simp, by simpa using hlt⟩
    | false =>
      obtain ⟨before, behind, hsplit, hins, hbefore, hbehind⟩ := ih
      exact ⟨x :: before, behind, by rw [hsplit, List.cons_append],
        by simp [insertByKey, hlt, hins],
        List.forall_mem_cons.mpr ⟨hlt, hbefore⟩, hbehind⟩

/-! ### The four tests of an offer, one equation each (R20) -/

section Offer

variable {s : State} {r : Record} (repaired : Bool)

theorem offer_of_held (hn : r.isNetwork = true)
    (hheld : (s.journal.lookup r.origin r.seq).isSome = true) :
    s.offer r repaired = s.dropRecord := by
  simp [State.offer, hn, hheld]

theorem offer_of_full (hfull : Config.journalCapacity ≤ s.journal.occupancy) :
    s.offer r repaired = s.dropRecord := by
  simp [State.offer, hfull]

/-- A record that is not held already, offered while there is room, is taken: its stamp decides where. -/
theorem offer_of_room (hroom : s.journal.occupancy < Config.journalCapacity)
    (hnew : r.isNetwork = true → ¬ (s.journal.lookup r.origin r.seq).isSome = true) :
    s.offer r repaired =
      if r.stamp < s.journal.horizon then s.insertLate r repaired else s.insertSettling r repaired := by
  have hfirst : ¬ (r.isNetwork && (s.journal.lookup r.origin r.seq).isSome) = true := by
    simpa using hnew
  rw [State.offer, if_neg hfirst, if_neg (Nat.not_le.mpr hroom)]

end Offer

/-! ### What a taken record leaves (R21, R22) -/

theorem satInc_toNat (n : Count) : (satInc n).toNat = min (n.toNat + 1) 65535 := by
  unfold satInc
  split <;> bv_omega

theorem insertLate_eq (s : State) (r : Record) (repaired : Bool) : ∃ late : Count,
    late.toNat = min (s.counters.lateRecords.toNat + 1) 65535 ∧
    s.insertLate r repaired = { s with
      journal := { s.journal with released := s.journal.released ++ [⟨r, true, repaired⟩] }
      counters := { s.counters with lateRecords := late } } :=
  ⟨satInc s.counters.lateRecords, satInc_toNat _, rfl⟩

theorem insertSettling_eq (s : State) (r : Record) (repaired : Bool) :
    ∃ before behind, s.journal.settling = before ++ behind ∧
      s.insertSettling r repaired = { s with
        journal := { s.journal with settling := before ++ ⟨r, false, repaired⟩ :: behind } } ∧
      (∀ h ∈ before, keyLt r h.record = false) ∧
      (∀ h ∈ behind.head?, keyLt r h.record = true) := by
  obtain ⟨before, behind, hsplit, hins, hbefore, hbehind⟩ :=
    insertByKey_split ⟨r, false, repaired⟩ s.journal.settling
  exact ⟨before, behind, hsplit, by rw [State.insertSettling, hins], hbefore, hbehind⟩

/-! ### What a drop leaves (R23) -/

theorem dropRecord_firstDrop (s : State) : s.dropRecord.journal.firstDrop =
    if s.journal.pendingDrops = 0 then some s.now else s.journal.firstDrop := rfl

theorem dropRecord_pendingDrops (s : State) :
    s.dropRecord.journal.pendingDrops = satInc s.journal.pendingDrops := rfl

theorem dropRecord_counters (s : State) : s.dropRecord.counters =
    { s.counters with journalDrops := satInc s.counters.journalDrops } := rfl

/-- Settles O24: one equation for each test of the offer, the place of an insertion by induction on the
settling region, and the drop field by field. -/
theorem offerTakesFirstTestThatApplies : Obligations.OfferTakesFirstTestThatApplies := by
  refine ⟨fun s r repaired => ⟨fun hn hheld => ?held, offer_of_full repaired, fun hroom hnew => ?taken⟩,
    keyLt_iff_lex, fun s => ?drop⟩
  case held => exact offer_of_held repaired hn ((lookup_isSome_iff _ _ _).mpr hheld)
  case taken =>
    have hoffer := offer_of_room repaired hroom fun hn hheld =>
      have ⟨h, hmem, hsame⟩ := (lookup_isSome_iff _ _ _).mp hheld
      hnew hn h hmem hsame
    refine ⟨fun hlate => ?_, fun hle => ?_⟩
    · rw [hoffer, if_pos hlate]
      exact insertLate_eq s r repaired
    · rw [hoffer, if_neg (BitVec.not_lt.mpr hle)]
      exact insertSettling_eq s r repaired
  case drop =>
    refine ⟨s.dropRecord_settling, s.dropRecord_released, s.dropRecord_horizon, rfl, ?_,
      fun hzero => ?_, fun hpending => ?_, rfl, ?_, ?_, rfl, s.dropRecord_frame⟩
    · rw [dropRecord_pendingDrops, satInc_toNat]
    · rw [dropRecord_firstDrop, if_pos hzero]
    · rw [dropRecord_firstDrop, if_neg hpending]
    · rw [dropRecord_counters, satInc_toNat]
    · rw [dropRecord_counters]

end Sys2Proof.OfferLaws
end

section
namespace Sys2Proof.AdjustmentLaws

open Sys2Proof Sys2Proof.Machine

/-! ### R103: the highest and the lowest value -/

theorem max?_eq_highest {vs : List Int} (hne : vs ≠ []) : vs.max? = some (highest vs) := by
  cases vs with
  | nil => contradiction
  | cons v vs => rfl

theorem min?_eq_lowest {vs : List Int} (hne : vs ≠ []) : vs.min? = some (lowest vs) := by
  cases vs with
  | nil => contradiction
  | cons v vs => rfl

theorem highest_isGreatest {vs : List Int} (hne : vs ≠ []) :
    highest vs ∈ vs ∧ ∀ v ∈ vs, v ≤ highest vs :=
  List.max?_eq_some_iff.mp (max?_eq_highest hne)

theorem lowest_isLeast {vs : List Int} (hne : vs ≠ []) :
    lowest vs ∈ vs ∧ ∀ v ∈ vs, lowest vs ≤ v :=
  List.min?_eq_some_iff.mp (min?_eq_lowest hne)

/-! ### R103: the values that go -/

/-- One lowest value is still there when one highest is gone, also where every value is the same. -/
theorem lowest_mem_erase_highest {vs : List Int} (hlen : 2 ≤ vs.length) :
    lowest vs ∈ vs.erase (highest vs) := by
  have hne : vs ≠ [] := List.ne_nil_of_length_pos (by omega)
  obtain ⟨hhigh, hle⟩ := highest_isGreatest hne
  obtain ⟨hlow, hge⟩ := lowest_isLeast hne
  by_cases hsame : lowest vs = highest vs
  · have hrest : 0 < (vs.erase (highest vs)).length := by
      rw [List.length_erase_of_mem hhigh]; omega
    obtain ⟨v, hv⟩ := List.exists_mem_of_length_pos hrest
    have hv' := List.mem_of_mem_erase hv
    have : v = lowest vs := le_antisymm (hsame ▸ hle v hv') (hge v hv')
    exact this ▸ hv
  · exact (List.mem_erase_of_ne hsame).mpr hlow

theorem trimmed_of_few {vs : List Int} (hlen : vs.length < 4) : trimmed vs = vs :=
  if_neg (by omega)

/-- With 4 or more values, the trimmed list with one highest and one lowest put back is the whole list. -/
theorem perm_highest_lowest_trimmed {vs : List Int} (hlen : 4 ≤ vs.length) :
    vs.Perm (highest vs :: lowest vs :: trimmed vs) := by
  have hhigh := (highest_isGreatest (List.ne_nil_of_length_pos (by omega : 0 < vs.length))).1
  have hlow := lowest_mem_erase_highest (by omega : 2 ≤ vs.length)
  rw [trimmed, if_pos hlen]
  exact (List.perm_cons_erase hhigh).trans ((List.perm_cons_erase hlow).cons _)

/-- Settles O26: below 4 values nothing is trimmed; from 4 on the trimmed list is what one highest and one
lowest value leave. -/
theorem adjustmentIsTrimmedMean : Obligations.AdjustmentIsTrimmedMean := by
  refine ⟨fun vs _ hfew => ?few, fun vs hmany => ?many⟩
  case few => rw [adjustment, trimmed_of_few hfew]
  case many =>
    have hne : vs ≠ [] := List.ne_nil_of_length_pos (by omega)
    exact ⟨highest vs, lowest vs, trimmed vs, perm_highest_lowest_trimmed hmany,
      (highest_isGreatest hne).2, (lowest_isLeast hne).2, rfl⟩

end Sys2Proof.AdjustmentLaws
end

section
namespace Sys2Proof.Machine

open Sys2Proof

/-! ### What a command does where it is taken -/

/-- Where `exec` takes command `c` on `s`, and the state it leaves before IRQ settles. A command that the byte
of COMMAND_BYTE names stands with that byte, and the rows of a whole frame stand together. -/
inductive Taken (s : State) : Instr → State → Prop
  | deviceReset : Taken s .deviceReset s.hold
  | resetRelease {adr : BitVec 5} {br : BitVec 2} (held : s.inReset = true) :
    Taken s (.resetRelease adr br) (s.release adr br)
  | selFall {moves : List HostMove} (high : s.selLow = false) :
    Taken s (.selFall moves) (s.beginTransaction moves)
  | selRise (low : s.selLow = true) : Taken s .selRise s.endTransaction
  | status {c : Instr} (row : c = .status ∨ c = .commandByte 0x01) (reads : s.atCommand = true) :
    Taken s c s.takeStatus
  | start {c : Instr} (row : c = .start ∨ c = .commandByte 0x03) (reads : s.atCommand = true) :
    Taken s c s.takeStart
  | peers {c : Instr} (row : c = .peers ∨ c = .commandByte 0x05) (reads : s.atCommand = true) :
    Taken s c s.takePeers
  | inputs {c : Instr} (row : c = .inputs ∨ c = .commandByte 0x06) (reads : s.atCommand = true) :
    Taken s c s.takeInputs
  | rejoin {c : Instr} (row : c = .rejoin ∨ c = .commandByte 0x08) (reads : s.atCommand = true) :
    Taken s c s.takeRejoin
  | clearCounts {c : Instr} (row : c = .clearCounts ∨ c = .commandByte 0x09)
    (reads : s.atCommand = true) : Taken s c s.takeClearCounts
  | badCommand {c : Instr} {byte : Byte} (row : c = .badCommand byte ∨ c = .commandByte byte)
    (reads : s.atCommand = true) : Taken s c s.takeBadCommand
  | readOperands {byte : Byte} (o : OperandCommand) (reads : s.atCommand = true) :
    Taken s (.commandByte byte) (s.readOperands o)
  | endResponse {c : Instr} (row : (c = .statusResponseEnd ∧ s.host.taken = some .status) ∨
      (c = .responseEnd ∧ s.host.sending = false)) (responding : s.inResponse = true) :
    Taken s c s.endResponse
  | configure {record : List Byte} (reads : s.atOperands .configure = true)
    (whole : record.length = configBytes) : Taken s (.configure record) (s.takeConfigure record)
  | read {n : Byte} (reads : s.atOperands .read = true) : Taken s (.read n) (s.takeRead n)
  | mark {tag : Byte} (reads : s.atOperands .mark = true) : Taken s (.mark tag) (s.takeMark tag)
  | recordConsumed {n : Byte} (asked : s.host.taken = some (.read n))
    (held : s.journal.released ≠ []) (responding : s.inResponse = true)
    (sending : s.host.sending = true) :
    Taken s .recordConsumed (s.consumeHead.boundary n (s.host.delivered + 1))
  | pinRead {i : Fin 16} {level : Bool} (there : s.pin i = level) :
    Taken s (.pinChange i level) (s.readDirect i)
  | pinMove {i : Fin 16} {level : Bool} (away : s.pin i ≠ level) :
    Taken s (.pinChange i level) { s with pins := withBit s.pins i.val level }
  | sampleTick (due : s.sampleTickDue = true) : Taken s .sampleTick
      ({ s with ticks := { s.ticks with sample := Config.samplePeriod } } : State).sampleAll
  | holdoffExpiry {i : Fin 16} (due : s.holdoffDue i = true) :
    Taken s (.holdoffExpiry i) (s.endHoldoff i)
  | windowExpiry {i : Fin 16} (due : s.windowDue i = true) :
    Taken s (.chatterWindowExpiry i) (s.closeWindow i)
  | quietExpiry {i : Fin 16} (due : s.quietDue i = true) :
    Taken s (.quietTimerExpiry i) (s.resumeInput i)
  | releaseTick (due : s.releaseTickDue = true) : Taken s .releaseTick
      ({ s with ticks := { s.ticks with release := Config.releasePeriod } } : State).computeHorizon
  | roundEnd (due : s.roundEndDue = true) : Taken s .roundEnd s.endRound
  | slewTick (due : s.slewTickDue = true) : Taken s .slewTick
      ({ s with ticks := { s.ticks with slew := Config.slewPeriod } } : State).slew
  | joinExpiry (due : s.joinExpiryDue = true) : Taken s .joinTimerExpiry s.beginRunning
  | silenceExpiry {p : Station} (due : s.silenceDue p = true) :
    Taken s (.silenceExpiry p) (s.silencePeer p)
  | repairExpiry {p : Station} (due : s.repairDue p = true) :
    Taken s (.repairTimerExpiry p) (s.expireMissing p)
  | proxyExpiry {p : Station} {seq : Seq} (due : s.proxyDue p seq = true) :
    Taken s (.proxyDelayExpiry p seq) (s.endProxyDelay p seq)
  | sofIdle {levels : List Bool} (out : s.inReset = false) (idle : s.line.rx = .idle) :
    Taken s (.startOfFrame levels)
      ((if s.medium.level then s.othersDrive levels else s).beginReception false)
  | sofElsewhere {levels : List Bool} (elsewhere : s.inReset = true ∨ s.line.rx ≠ .idle)
    (told : levels ≠ []) : Taken s (.startOfFrame levels) (s.findBoundary.othersDrive levels)
  | idleGap (out : s.inReset = false) (busy : s.line.rx ≠ .idle) (free : s.line.tx = .free)
    (clear : s.line.stuck = false) : Taken s .idleGap s.showIdleGap
  | holdBackClear (due : s.holdBackOver = true) :
    Taken s .holdBackClear { s with line := { s.line with holdBack := false } }
  | lineStuck (out : s.inReset = false) (free : s.line.tx = .free) (clear : s.line.stuck = false) :
    Taken s .lineStuck s.stickLine
  | lineStuckClear (out : s.inReset = false) (stuck : s.line.stuck = true) :
    Taken s .lineStuckClear s.freeLine
  | framingFault {byte : Byte} (reads : s.receiving = true) :
    Taken s (.framingFault byte) (s.faultFrame byte)
  | bodyLength {len : Byte} (reads : s.receiving = true) (above : Config.bodyLimit < len.toNat) :
    Taken s (.bodyLengthAbove57 len) (s.refuseLength len)
  | receivedFrame {c : Instr} {raw : List Byte} (row : frameBytes c = some raw) (reads : s.receiving = true)
    (whole : c.wellFormed = true)
    (failed : c = .crcError raw → checkFrame raw = .crcError ∨ checkFrame raw = .formatError) :
    Taken s c (s.takeFrame raw)
  | frameBegin {sel : Selection} (selected : s.select = some sel) (may : s.mayBegin = true) :
    Taken s .frameBegin (s.beginFrame sel)
  | arbitrationLoss (arbitrating : s.line.tx = .arbitrating) :
    Taken s .arbitrationLoss s.loseArbitration
  | arbitrationWon (arbitrating : s.line.tx = .arbitrating) (matched : s.line.misread = false) :
    Taken s .arbitrationWon s.winArbitration
  | bitError (busy : s.line.tx ≠ .free) : Taken s .bitError s.abortFrame
  | frameComplete (sending : s.line.tx = .sending) (matched : s.line.misread = false) :
    Taken s .frameComplete s.completeFrame

/-- What an answer of `commit` behind a guard can be. -/
theorem commit_or_notTaken {b : Bool} {s t u : State}
    (h : (if b then commit u else notTaken s) = .next t) :
    t = s ∨ (b = true ∧ t = u.settleIrq) := by
  cases b with
  | true => exact .inr ⟨rfl, (Host.Outcome.next.inj h).symm⟩
  | false => exact .inl (Host.Outcome.next.inj h).symm

theorem commandOf_eq_some {byte : Byte} {n : CommandName} (h : commandOf byte = some n) :
    byte = (match n with
      | .status => 0x01 | .configure => 0x02 | .start => 0x03 | .read => 0x04 | .peers => 0x05
      | .inputs => 0x06 | .mark => 0x07 | .rejoin => 0x08 | .clearCounts => 0x09 : Byte) := by
  unfold commandOf at h
  split_ifs at h with h1 h2 h3 h4 h5 h6 h7 h8 h9 <;> (cases h; assumption)

/-- A command byte does what the row of its command does, or reads operands. -/
theorem taken_of_commandByte {s : State} (byte : Byte) (reads : s.atCommand = true) :
    Taken s (.commandByte byte) (s.takeCommandByte byte) := by
  unfold State.takeCommandByte
  cases hn : commandOf byte with
  | none => exact .badCommand (byte := byte) (.inr rfl) reads
  | some n =>
    have hb := commandOf_eq_some hn
    cases n with
    | status => exact .status (.inr (hb ▸ rfl)) reads
    | configure => exact .readOperands _ reads
    | start => exact .start (.inr (hb ▸ rfl)) reads
    | read => exact .readOperands _ reads
    | peers => exact .peers (.inr (hb ▸ rfl)) reads
    | inputs => exact .inputs (.inr (hb ▸ rfl)) reads
    | mark => exact .readOperands _ reads
    | rejoin => exact .rejoin (.inr (hb ▸ rfl)) reads
    | clearCounts => exact .clearCounts (.inr (hb ▸ rfl)) reads

/-- Every command leaves the state as it is, or is taken as `Taken` says and IRQ settles. -/
theorem exec_cases {c : Instr} {s t : State} (h : exec c s = .next t) :
    t = s ∨ ∃ u, Taken s c u ∧ t = u.settleIrq := by
  -- a guarded row: its guard and its effect stand in `commit_or_notTaken`
  have guarded {b : Bool} {u : State} (hb : (if b then commit u else notTaken s) = .next t)
      (hu : b = true → Taken s c u) : t = s ∨ ∃ u, Taken s c u ∧ t = u.settleIrq :=
    (commit_or_notTaken hb).imp_right fun ⟨htrue, ht⟩ => ⟨u, hu htrue, ht⟩
  have framed {raw : List Byte} (hrow : frameBytes c = some raw)
      (hne : c ≠ .crcError raw) (hb : (if s.receiving && c.wellFormed then commit (s.takeFrame raw)
        else notTaken s) = .next t) : t = s ∨ ∃ u, Taken s c u ∧ t = u.settleIrq :=
    guarded hb fun hg =>
      have ⟨hr, hw⟩ := Bool.and_eq_true_iff.mp hg
      .receivedFrame hrow hr hw fun he => absurd he hne
  cases c with
  | deviceReset => exact .inr ⟨_, .deviceReset, (Host.Outcome.next.inj h).symm⟩
  | resetRelease adr br => exact guarded h .resetRelease
  | selFall moves =>
    cases hs : s.selLow with
    | true => exact .inl (by simpa [exec, execSelFall, hs, notTaken] using h.symm)
    | false => exact .inr ⟨_, .selFall hs, by simpa [exec, execSelFall, hs, commit] using h.symm⟩
  | selRise => exact guarded h .selRise
  | status => exact guarded h (.status (.inl rfl))
  | statusResponseEnd =>
    exact guarded h fun hg =>
      have ⟨hr, hs⟩ := Bool.and_eq_true_iff.mp hg
      .endResponse (.inl ⟨rfl, by simpa using hs⟩) hr
  | configure record =>
    exact guarded h fun hg =>
      have ⟨ha, hl⟩ := Bool.and_eq_true_iff.mp hg
      .configure ha (by simpa using hl)
  | start => exact guarded h (.start (.inl rfl))
  | read n => exact guarded h .read
  | recordConsumed =>
    simp only [exec, execRecordConsumed] at h
    split at h
    · rename_i n h0 more hn hheld
      exact guarded h fun hg =>
        have ⟨hr, hs⟩ := Bool.and_eq_true_iff.mp hg
        .recordConsumed hn (by simp [hheld]) hr hs
    · exact .inl (Host.Outcome.next.inj h).symm
  | peers => exact guarded h (.peers (.inl rfl))
  | inputs => exact guarded h (.inputs (.inl rfl))
  | mark tag => exact guarded h .mark
  | rejoin => exact guarded h (.rejoin (.inl rfl))
  | clearCounts => exact guarded h (.clearCounts (.inl rfl))
  | badCommand byte =>
    exact guarded h fun hg => .badCommand (.inl rfl) (Bool.and_eq_true_iff.mp hg).1
  | pinChange i level =>
    by_cases hp : s.pin i = level
    · exact .inr ⟨_, .pinRead hp, by simpa [exec, execPinChange, hp, commit] using h.symm⟩
    · exact .inr ⟨_, .pinMove hp, by simpa [exec, execPinChange, hp, commit] using h.symm⟩
  | sampleTick => exact guarded h .sampleTick
  | holdoffExpiry i => exact guarded h .holdoffExpiry
  | chatterWindowExpiry i => exact guarded h .windowExpiry
  | quietTimerExpiry i => exact guarded h .quietExpiry
  | releaseTick => exact guarded h .releaseTick
  | idleGap =>
    exact guarded h fun hg => by
      simp only [Bool.and_eq_true, Bool.not_eq_true', bne_iff_ne, beq_iff_eq] at hg
      obtain ⟨⟨⟨ho, hb⟩, hf⟩, hs⟩ := hg
      exact .idleGap ho hb hf hs
  | holdBackClear => exact guarded h .holdBackClear
  | lineStuck =>
    exact guarded h fun hg => by
      simp only [Bool.and_eq_true, Bool.not_eq_true', beq_iff_eq] at hg
      obtain ⟨⟨ho, hf⟩, hs⟩ := hg
      exact .lineStuck ho hf hs
  | helloReceived raw => exact framed rfl (by simp) h
  | timeReceived raw => exact framed rfl (by simp) h
  | eventReceived raw => exact framed rfl (by simp) h
  | repairReqReceived raw => exact framed rfl (by simp) h
  | repairDataReceived raw => exact framed rfl (by simp) h
  | repairNoneReceived raw => exact framed rfl (by simp) h
  | silenceExpiry p => exact guarded h .silenceExpiry
  | repairTimerExpiry p => exact guarded h .repairExpiry
  | proxyDelayExpiry p q => exact guarded h .proxyExpiry
  | roundEnd => exact guarded h .roundEnd
  | slewTick => exact guarded h .slewTick
  | joinTimerExpiry => exact guarded h .joinExpiry
  | frameBegin =>
    simp only [exec, execFrameBegin] at h
    split at h
    · exact guarded h (.frameBegin ‹_›)
    · exact .inl (Host.Outcome.next.inj h).symm
  | arbitrationLoss => exact guarded h fun hg => .arbitrationLoss (by simpa using hg)
  | bitError => exact guarded h fun hg => .bitError (by simpa using (Bool.and_eq_true_iff.mp hg).1)
  | frameComplete =>
    exact guarded h fun hg => by
      simp only [Bool.and_eq_true, Bool.not_eq_true', beq_iff_eq] at hg
      exact .frameComplete hg.1 hg.2
  | startOfFrame levels =>
    simp only [exec, execStartOfFrame] at h
    split at h
    · rename_i hg
      simp only [Bool.and_eq_true, Bool.not_eq_true', beq_iff_eq] at hg
      exact .inr ⟨_, .sofIdle hg.1 hg.2, (Host.Outcome.next.inj h).symm⟩
    · rename_i hg
      split at h
      · exact .inl (Host.Outcome.next.inj h).symm
      · rename_i hl
        refine .inr ⟨_, .sofElsewhere ?_ (by simpa using hl), (Host.Outcome.next.inj h).symm⟩
        cases hr : s.inReset with
        | true => exact .inl rfl
        | false => exact .inr (by simpa [hr] using hg)
  | arbitrationWon =>
    exact guarded h fun hg => by
      simp only [Bool.and_eq_true, Bool.not_eq_true', beq_iff_eq] at hg
      exact .arbitrationWon hg.1 hg.2
  | lineStuckClear =>
    exact guarded h fun hg => by
      simp only [Bool.and_eq_true, Bool.not_eq_true'] at hg
      exact .lineStuckClear hg.1 hg.2
  | framingFault byte => exact guarded h .framingFault
  | bodyLengthAbove57 len =>
    exact guarded h fun hg => by
      simp only [Bool.and_eq_true, decide_eq_true_eq] at hg
      exact .bodyLength hg.1 hg.2
  | crcError raw =>
    exact guarded h fun hg => by
      simp only [Bool.and_eq_true, Bool.or_eq_true, beq_iff_eq] at hg
      exact .receivedFrame rfl hg.1.1 hg.1.2 fun _ => hg.2
  | commandByte byte => exact guarded h (taken_of_commandByte byte)
  | responseEnd =>
    exact guarded h fun hg =>
      have ⟨hr, hs⟩ := Bool.and_eq_true_iff.mp hg
      .endResponse (.inr ⟨rfl, by simpa using hs⟩) hr

end Sys2Proof.Machine
end

section
namespace Sys2Proof.Machine

open Sys2Proof

/-! ### The blocks each effect changes -/

theorem State.respond_frame (s : State) (c : Option HostCommand) (response : List Byte) :
    s.changesOnly (s.respond c response) [.host] := by
  intro b hb
  cases b <;> first | exact absurd (by decide) hb | rfl

theorem State.startUp_frame (s : State) : s.changesOnly s.startUp [.control, .inputs, .timebase] := by
  intro b hb
  cases b <;> first | exact absurd (by decide) hb | rfl

theorem State.takeStart_frame (s : State) :
    s.changesOnly s.takeStart [.control, .inputs, .timebase, .host] := by
  unfold State.takeStart
  split
  · split
    · exact State.changesOnly_trans (State.changesOnly_mono s.startUp_frame (by decide))
        (State.changesOnly_mono (State.respond_frame _ _ _) (by decide))
    · exact State.changesOnly_mono (s.respond_frame _ _) (by decide)
  · exact State.changesOnly_mono (s.respond_frame _ _) (by decide)

theorem State.takeRejoin_frame (s : State) :
    s.changesOnly s.takeRejoin [.control, .line, .host] := by
  unfold State.takeRejoin
  split
  · intro b hb
    cases b <;> first | exact absurd (by decide) hb | rfl
  · exact State.changesOnly_mono (s.respond_frame _ _) (by decide)

theorem State.takeConfigure_frame (s : State) (record : List Byte) :
    s.changesOnly (s.takeConfigure record) [.control, .host] := by
  unfold State.takeConfigure
  split
  · split
    · exact State.changesOnly_mono (s.respond_frame _ _) (by decide)
    · intro b hb
      cases b <;> first | exact absurd (by decide) hb | rfl
  · exact State.changesOnly_mono (s.respond_frame _ _) (by decide)

theorem State.sendRecord_frame (s : State) (h : Held) (before : List Byte) (n : Nat) :
    s.changesOnly (s.sendRecord h before n) [.host] := by
  intro b hb
  cases b <;> first | exact absurd (by decide) hb | rfl

theorem State.takeRead_frame (s : State) (n : Byte) : s.changesOnly (s.takeRead n) [.host] := by
  unfold State.takeRead
  split
  · split
    · exact State.changesOnly_trans (s.respond_frame _ _) (State.sendRecord_frame _ _ _ _)
    · exact s.respond_frame _ _
  · exact s.respond_frame _ _

theorem State.boundary_frame (s : State) (n : Byte) (k : Nat) :
    s.changesOnly (s.boundary n k) [.host] := by
  have he : ∀ h : HostPort, s.changesOnly { s with host := h } [.host] := by
    intro h b hb
    cases b <;> first | exact absurd (by decide) hb | rfl
  unfold State.boundary
  split
  · split
    · exact s.sendRecord_frame _ _ _
    · exact he _
  · exact he _

theorem State.takeMark_frame (s : State) (tag : Byte) :
    s.changesOnly (s.takeMark tag) (.outbound :: offerBlocks) := by
  unfold State.takeMark
  split
  · exact State.changesOnly_mono (s.respond_frame _ _) (by decide)
  · split
    · exact State.changesOnly_trans (s.appendOwn_frame _ _ _)
        (State.changesOnly_mono (State.respond_frame _ _ _) (by decide))
    · exact State.changesOnly_mono (s.respond_frame _ _) (by decide)

theorem State.takeClearCounts_frame (s : State) :
    s.changesOnly s.takeClearCounts [.counters, .host] := by
  intro b hb
  cases b <;> first | exact absurd (by decide) hb | rfl

theorem State.takeStatus_frame (s : State) : s.changesOnly s.takeStatus [.host] := by
  intro b hb
  cases b <;> first | exact absurd (by decide) hb | rfl

theorem State.endResponse_frame (s : State) : s.changesOnly s.endResponse [.host] := by
  intro b hb
  unfold State.endResponse State.clearShownFlags
  cases b <;> first
    | exact absurd (by decide) hb
    | (simp only [State.sameIn]; repeat' split) <;> rfl

theorem State.beginTransaction_frame (s : State) (moves : List HostMove) :
    s.changesOnly (s.beginTransaction moves) [.selLow, .wires, .host] := by
  unfold State.beginTransaction
  simp only
  split <;>
  · intro b hb
    cases b <;> first | exact absurd (by decide) hb | rfl

theorem State.release_frame (s : State) (adr : BitVec 5) (br : BitVec 2) :
    s.changesOnly (s.release adr br) [.inReset, .control, .peers] := by
  unfold State.release State.placeSelf
  split
  · refine State.changesOnly_trans ?_ (State.changesOnly_mono (State.setPeer_frame _ _ _) (by decide))
    intro b hb
    cases b <;> first | exact absurd (by decide) hb | rfl
  · intro b hb
    cases b <;> first | exact absurd (by decide) hb | rfl

theorem State.sampleAll_frame (s : State) : s.changesOnly s.sampleAll (.choices :: captureBlocks) := by
  have hfold := State.changesOnly_foldl State.sampleInput_frame (arrange 16 s.choices s.sampledInputs)
    { s with choices := s.choices + s.sampledInputs.length }
  refine State.changesOnly_trans ?_ (State.changesOnly_mono hfold (by decide))
  intro b hb
  cases b <;> first | exact absurd (by decide) hb | rfl

theorem State.endHoldoff_frame (s : State) (i : Fin 16) :
    s.changesOnly (s.endHoldoff i) captureBlocks := by
  unfold State.endHoldoff
  simp only
  split
  · exact s.setInput_capture_frame i _ _ _ _
  · exact State.changesOnly_mono (s.setInput_frame i _) (by decide)

theorem State.beginReception_frame (s : State) (echo : Bool) :
    s.changesOnly (s.beginReception echo) [.line, .timebase] := by
  intro b hb
  cases b <;> first | exact absurd (by decide) hb | rfl

theorem State.othersDrive_frame (s : State) (levels : List Bool) :
    s.changesOnly (s.othersDrive levels) [.medium] := by
  intro b hb
  cases b <;> first | exact absurd (by decide) hb | rfl

theorem State.setLine_frame (s : State) (l : LineControl) :
    s.changesOnly { s with line := l } [.line] := by
  intro b hb
  cases b <;> first | exact absurd (by decide) hb | rfl

theorem State.setPins_frame (s : State) (w : Line16) :
    s.changesOnly { s with pins := w } [.pins] := by
  intro b hb
  cases b <;> first | exact absurd (by decide) hb | rfl

theorem State.setRepair_frame (s : State) (r : RepairUnit) :
    s.changesOnly { s with repair := r } [.repair] := by
  intro b hb
  cases b <;> first | exact absurd (by decide) hb | rfl

theorem State.setCounters_frame (s : State) (c : Counters) :
    s.changesOnly { s with counters := c } [.counters] := by
  intro b hb
  cases b <;> first | exact absurd (by decide) hb | rfl

theorem State.showIdleGap_frame (s : State) :
    s.changesOnly s.showIdleGap [.line, .medium, .counters] := by
  have hline (l : LineControl) : s.changesOnly
      { s.toldRuns s.gapRead Config.idleGapBits 0 0 Medium.released with line := l }
      [.line, .medium, .counters] :=
    State.changesOnly_trans (State.changesOnly_mono (s.toldRuns_frame _ _ _ _ _) (by decide))
      (State.changesOnly_mono (State.setLine_frame _ l) (by decide))
  unfold State.showIdleGap
  simp only
  split
  · exact State.changesOnly_trans (hline _)
      (State.changesOnly_mono (State.setCounters_frame _ _) (by decide))
  · exact hline _

theorem State.discardFrame_frame (s : State) : s.changesOnly s.discardFrame [.line, .counters] := by
  have hend := State.changesOnly_mono s.endReception_frame
    (by decide : ∀ b ∈ [Block.line], b ∈ [Block.line, .counters])
  unfold State.discardFrame
  split
  · exact hend
  · exact State.changesOnly_trans hend
      (State.changesOnly_mono (State.setCounters_frame _ _) (by decide))

theorem State.told_discard_frame (s : State) (read : Bool) (bits : List Bool) (m : Medium) :
    s.changesOnly (s.told read bits m).discardFrame [.line, .medium, .counters] :=
  State.changesOnly_trans (State.changesOnly_mono (s.told_frame read bits m) (by decide))
    (State.changesOnly_mono (State.discardFrame_frame _) (by decide))

theorem State.stickLine_frame (s : State) : s.changesOnly s.stickLine [.line, .medium] :=
  State.changesOnly_trans (s.toldRuns_frame _ _ _ _ _)
    (State.changesOnly_mono (State.setLine_frame _ _) (by decide))

theorem State.freeLine_frame (s : State) : s.changesOnly s.freeLine [.line, .medium] :=
  State.changesOnly_trans (s.toldRuns_frame _ _ _ _ _)
    (State.changesOnly_mono (State.setLine_frame _ _) (by decide))

theorem State.beginFrame_frame (s : State) (sel : Selection) :
    s.changesOnly (s.beginFrame sel) [.line, .timebase, .repair] := by
  intro b hb
  cases b <;> first | exact absurd (by decide) hb | rfl

theorem State.loseArbitration_frame (s : State) :
    s.changesOnly s.loseArbitration [.line, .medium, .counters] := by
  unfold State.loseArbitration
  split <;>
  · intro b hb
    cases b <;> first | exact absurd (by decide) hb | rfl

theorem State.winArbitration_frame (s : State) : s.changesOnly s.winArbitration [.line] :=
  State.changesOnly_trans (s.sentUpTo_frame _) (State.setLine_frame _ _)

theorem State.abortFrame_frame (s : State) :
    s.changesOnly s.abortFrame [.line, .counters, .control, .timebase, .repair, .host] := by
  unfold State.abortFrame
  simp only
  split
  · refine State.changesOnly_trans ?_ (State.changesOnly_mono (State.enterQuiet_frame _ _) (by decide))
    intro b hb
    cases b <;> first | exact absurd (by decide) hb | rfl
  · intro b hb
    cases b <;> first | exact absurd (by decide) hb | rfl

/-- The blocks the completion of a frame may change. -/
def completionBlocks : List Block :=
  [.line, .control, .timebase, .repair, .outbound, .history] ++ offerBlocks

theorem State.takeCompletion_frame (s : State) (src : Source) :
    s.changesOnly (s.takeCompletion src) completionBlocks := by
  cases src with
  | event n =>
    exact State.changesOnly_trans (State.changesOnly_mono (s.eventSent_frame n) (by decide))
      (State.changesOnly_mono (State.setLine_frame _ _) (by decide))
  | hello restart => intro b hb; cases b <;> first | exact absurd (by decide) hb | rfl
  | time => intro b hb; cases b <;> first | exact absurd (by decide) hb | rfl
  | originAnswer => intro b hb; cases b <;> first | exact absurd (by decide) hb | rfl
  | proxyAnswer p seqs => intro b hb; cases b <;> first | exact absurd (by decide) hb | rfl
  | repairReq p seqs => exact State.changesOnly_mono (s.setMissing_frame p _) (by decide)

theorem State.completeFrame_frame (s : State) : s.changesOnly s.completeFrame completionBlocks := by
  have hend : s.changesOnly (s.sentUpTo s.comparedBits).endSending completionBlocks :=
    State.changesOnly_trans (State.changesOnly_mono (s.sentUpTo_frame _) (by decide))
      (State.changesOnly_mono (State.setLine_frame _ _) (by decide))
  unfold State.completeFrame
  split
  · exact State.changesOnly_trans hend (State.takeCompletion_frame _ _)
  · exact hend

/-- A frame that is no valid one is counted, and else only ends its reception. -/
theorem State.takeFrame_frame_of_failed (s : State) {raw : List Byte}
    (h : checkFrame raw = .crcError ∨ checkFrame raw = .formatError) :
    s.changesOnly (s.takeFrame raw) [.line, .medium, .counters] := by
  have hend : s.changesOnly (s.told (s.line.bytes == raw) (lineBits raw) Medium.released).endReception
      [.line, .medium, .counters] :=
    State.changesOnly_trans (State.changesOnly_mono (s.told_frame _ _ _) (by decide))
      (State.changesOnly_mono (State.endReception_frame _) (by decide))
  unfold State.takeFrame
  simp only
  split
  · exact hend
  · rcases h with h | h <;> rw [h] <;> exact State.changesOnly_trans hend
      (State.changesOnly_mono (State.setCounters_frame _ _) (by decide))

/-- What each command does changes only the blocks listed for it. -/
theorem Taken.frame {c : Instr} {s u : State} (h : Taken s c u) : s.changesOnly u (touches c) := by
  have mono {v : State} {bs cs : List Block} (hv : s.changesOnly v bs) (hsub : ∀ b ∈ bs, b ∈ cs) :
      s.changesOnly v cs := State.changesOnly_mono hv hsub
  cases h with
  | deviceReset => intro b hb; cases b <;> first | exact absurd (by decide) hb | rfl
  | resetRelease _ => exact mono (s.release_frame _ _) (by simp [touches])
  | selFall _ => exact mono (s.beginTransaction_frame _) (by simp [touches])
  | selRise _ => intro b hb; cases b <;> first | exact absurd (by decide) hb | rfl
  | status row _ => rcases row with rfl | rfl <;> exact mono s.takeStatus_frame (by decide)
  | start row _ => rcases row with rfl | rfl <;> exact mono s.takeStart_frame (by decide)
  | peers row _ => rcases row with rfl | rfl <;> exact mono (s.respond_frame _ _) (by decide)
  | inputs row _ => rcases row with rfl | rfl <;> exact mono (s.respond_frame _ _) (by decide)
  | rejoin row _ => rcases row with rfl | rfl <;> exact mono s.takeRejoin_frame (by decide)
  | clearCounts row _ => rcases row with rfl | rfl <;> exact mono s.takeClearCounts_frame (by decide)
  | badCommand row _ =>
    rcases row with rfl | rfl <;> exact mono (s.respond_frame _ _) (by simp [touches])
  | readOperands o _ =>
    have hread : s.changesOnly (s.readOperands o) [.host] := by
      intro b hb; cases b <;> first | exact absurd (by decide) hb | rfl
    exact mono hread (by simp [touches])
  | endResponse row _ =>
    rcases row with ⟨rfl, -⟩ | ⟨rfl, -⟩ <;> exact mono s.endResponse_frame (by decide)
  | configure _ _ => exact mono (s.takeConfigure_frame _) (by simp [touches])
  | read _ => exact mono (s.takeRead_frame _) (by simp [touches])
  | mark _ => exact mono (s.takeMark_frame _) (by simp [touches])
  | recordConsumed _ _ _ _ =>
    exact State.changesOnly_trans s.consumeHead_frame
      (State.changesOnly_mono (State.boundary_frame _ _ _) (by decide))
  | pinRead _ => exact mono (s.readDirect_frame _) (by simp +contextual [touches, captureBlocks])
  | pinMove _ => exact mono (s.setPins_frame _) (by simp [touches])
  | sampleTick _ =>
    refine State.changesOnly_trans ?_ (State.changesOnly_mono (State.sampleAll_frame _) (by decide))
    intro b hb; cases b <;> first | exact absurd (by decide) hb | rfl
  | holdoffExpiry _ => exact mono (s.endHoldoff_frame _) (by simp [touches, captureBlocks])
  | windowExpiry _ => exact mono (s.setInput_frame _ _) (by simp [touches])
  | quietExpiry _ => exact mono (s.setInput_capture_frame _ _ _ _ _) (by simp [touches, captureBlocks])
  | releaseTick _ =>
    refine State.changesOnly_trans ?_ (State.changesOnly_mono (State.computeHorizon_frame _) (by decide))
    intro b hb; cases b <;> first | exact absurd (by decide) hb | rfl
  | roundEnd _ => exact s.endRound_frame
  | slewTick _ =>
    refine State.changesOnly_trans ?_ (State.changesOnly_mono (State.slew_frame _) (by decide))
    intro b hb; cases b <;> first | exact absurd (by decide) hb | rfl
  | joinExpiry _ => intro b hb; cases b <;> first | exact absurd (by decide) hb | rfl
  | silenceExpiry _ => exact s.silencePeer_frame _
  | repairExpiry _ => exact s.expireMissing_frame _
  | proxyExpiry _ => exact mono (s.setRepair_frame _) (by simp [touches])
  | @sofIdle levels _ _ =>
    have hdrive : s.changesOnly (if s.medium.level then s.othersDrive levels else s) [.medium] := by
      split
      · exact s.othersDrive_frame _
      · exact s.changesOnly_refl _
    exact State.changesOnly_trans (mono hdrive (by simp [touches]))
      (State.changesOnly_mono (State.beginReception_frame _ _) (by simp [touches]))
  | sofElsewhere _ _ =>
    exact State.changesOnly_trans (mono s.findBoundary_frame (by simp [touches]))
      (State.changesOnly_mono (State.othersDrive_frame _ _) (by simp [touches]))
  | idleGap _ _ _ _ => exact mono s.showIdleGap_frame (by decide)
  | holdBackClear _ => exact mono (s.setLine_frame _) (by decide)
  | lineStuck _ _ _ => exact mono s.stickLine_frame (by decide)
  | lineStuckClear _ _ => exact mono s.freeLine_frame (by decide)
  | framingFault _ => exact mono (s.told_discard_frame _ _ _) (by simp [touches])
  | bodyLength _ _ => exact mono (s.told_discard_frame _ _ _) (by simp [touches])
  | receivedFrame row _ _ failed =>
    cases c <;> simp only [frameBytes, reduceCtorEq, Option.some.injEq] at row <;> subst row
    case crcError => exact mono (s.takeFrame_frame_of_failed (failed rfl)) (by simp [touches])
    all_goals exact s.takeFrame_frame _
  | frameBegin _ _ => exact mono (s.beginFrame_frame _) (by decide)
  | arbitrationLoss _ => exact mono s.loseArbitration_frame (by decide)
  | arbitrationWon _ _ => exact mono s.winArbitration_frame (by decide)
  | bitError _ => exact mono s.abortFrame_frame (by decide)
  | frameComplete _ _ => exact s.completeFrame_frame

/-- IRQ is in a block that every command may change. -/
theorem host_mem_touches (c : Instr) : Block.host ∈ touches c := by
  cases c <;> simp [touches, receptionBlocks, offerBlocks]

/-- Settles O17: each taken command by the frame of its effect, and IRQ is in the host block. -/
theorem commandsChangeOnlyTheirBlocks : Obligations.CommandsChangeOnlyTheirBlocks := by
  intro c s t h
  rcases exec_cases h with rfl | ⟨u, hu, rfl⟩
  · exact State.changesOnly_refl _ _
  · exact State.changesOnly_trans hu.frame
      (State.changesOnly_mono u.settleIrq_frame (by simpa using host_mem_touches c))

/-- Settles O1: `step` by its first equation. -/
theorem stepRunsFrontCommand : Obligations.StepRunsFrontCommand :=
  fun _ _ _ => rfl

/-! ### What a step can do -/

/-- What one of several values picked by a free choice is. -/
theorem mem_of_pickOne {α : Type} {k : Nat} {xs : List α} {x : α} (h : pickOne k xs = some x) :
    x ∈ xs := by
  unfold pickOne at h
  split at h
  · contradiction
  · rw [Option.some.inj h]; exact List.mem_singleton.mpr rfl
  · exact List.mem_of_getElem? h

theorem pickOne_eq_none {α : Type} {k : Nat} {xs : List α} (h : pickOne k xs = none) : xs = [] := by
  unfold pickOne at h
  split at h
  · rfl
  · contradiction
  · rename_i x y zs
    rw [List.getElem?_eq_none_iff, List.length_cons, List.length_cons] at h
    have : Config.tieChoice k % (zs.length + 2) < zs.length + 2 := Nat.mod_lt _ (by omega)
    omega

theorem instant_mem_some {s : State} {c : Instr} : some c ∈ s.instant ↔ c ∈ s.dueEvents := by
  unfold State.instant
  cases s.moveDue <;> simp

theorem instant_mem_none {s : State} : none ∈ s.instant ↔ s.moveDue = true := by
  unfold State.instant
  cases s.moveDue <;> simp

theorem instant_eq_nil_iff {s : State} : s.instant = [] ↔ s.dueEvents = [] ∧ s.moveDue = false := by
  unfold State.instant
  cases s.moveDue <;> simp

/-- What an idle step can do: take a due event into the queue, make the host's move, or, with neither due,
let a microsecond pass. -/
theorem idle_cases (s : State) :
    (∃ c ∈ s.dueEvents, s.idle = { s with pending := [c], choices := s.choices + 1 }) ∨
      (s.moveDue = true ∧ s.idle = { s.hostMove with choices := s.choices + 1 }) ∨
      (s.dueEvents = [] ∧ s.moveDue = false ∧ s.idle = s.microsecond) := by
  unfold State.idle
  cases hp : pickOne s.choices s.instant with
  | none =>
    obtain ⟨hdue, hmove⟩ := instant_eq_nil_iff.mp (pickOne_eq_none hp)
    exact .inr (.inr ⟨hdue, hmove, rfl⟩)
  | some o =>
    cases o with
    | none => exact .inr (.inl ⟨instant_mem_none.mp (mem_of_pickOne hp), rfl⟩)
    | some c => exact .inl ⟨c, instant_mem_some.mp (mem_of_pickOne hp), rfl⟩

/-- What a step keeps: `Post` follows from `Pre`, in which the queue is not read, where every command that is
taken, every move of the host and every microsecond makes it. -/
theorem step_keeps {Pre Post : State → Prop} (weaken : ∀ {s}, Pre s → Post s)
    (pre_queue : ∀ {s : State} (q : List Instr), Pre s → Pre { s with pending := q })
    (post_queue : ∀ {s : State} (q : List Instr) (k : Nat),
      Post s → Post { s with pending := q, choices := k })
    (irq : ∀ {s : State}, Post s → Post s.settleIrq)
    (taken : ∀ {s u : State} {c : Instr}, Pre s → Taken s c u → Post u)
    (move : ∀ {s : State}, Pre s → Post s.hostMove)
    (time : ∀ {s : State}, Pre s → s.inReset = false → Post s.microsecond)
    {s t : State} (hs : Pre s) (h : step s = .next t) : Post t := by
  unfold step at h
  split at h
  · rename_i c rest _
    rcases exec_cases h with rfl | ⟨u, hu, rfl⟩
    · exact weaken (pre_queue rest hs)
    · exact irq (taken (pre_queue rest hs) hu)
  · rw [← Host.Outcome.next.inj h]
    rcases idle_cases s with ⟨c, -, hidle⟩ | ⟨-, hidle⟩ | ⟨-, -, hidle⟩ <;> rw [hidle]
    · exact post_queue [c] _ (weaken hs)
    · exact post_queue s.hostMove.pending _ (move hs)
    · cases hr : s.inReset with
      | true =>
        have hsame : s.microsecond = s := by rw [State.microsecond, if_pos hr]
        rw [hsame]; exact weaken hs
      | false => exact time hs hr

/-- A predicate that reads only these blocks. -/
def DependsOn (P : State → Prop) (bs : List Block) : Prop :=
  ∀ {s t : State}, (∀ b ∈ bs, s.sameIn t b) → P s → P t

/-- The blocks that moves of the host, the queue, IRQ and the count of choices stand in. -/
def outsideBlocks : List Block := [.wires, .host, .pending, .choices]

/-- An invariant that reads nothing of the host port and the queue is kept by every step where it is kept by
the commands that touch what it reads, and by a microsecond. -/
theorem step_keeps_blocks {Pre P : State → Prop} {bs : List Block} (dep : DependsOn P bs)
    (apart : ∀ b ∈ bs, b ∉ outsideBlocks) (weaken : ∀ {s}, Pre s → P s)
    (pre_queue : ∀ {s : State} (q : List Instr), Pre s → Pre { s with pending := q })
    (taken : ∀ {s u : State} {c : Instr}, Pre s → (∃ b ∈ bs, b ∈ touches c) → Taken s c u → P u)
    (time : ∀ {s : State}, Pre s → s.inReset = false → P s.microsecond)
    {s t : State} (hs : Pre s) (h : step s = .next t) : P t := by
  have keeps {s t : State} {cs : List Block} (hf : s.changesOnly t cs)
      (hc : ∀ b ∈ bs, b ∉ cs) (hP : P s) : P t := dep (fun b hb => hf b (hc b hb)) hP
  refine step_keeps (Pre := Pre) weaken pre_queue (fun q k hP => dep (fun b hb => ?_) hP)
    (fun hP => keeps (State.settleIrq_frame _) (fun b hb hmem => apart b hb ?_) hP) ?_
    (fun hP => keeps (State.hostMove_frame _) (fun b hb hmem => apart b hb ?_) (weaken hP)) time hs h
  · have hb' := apart b hb
    cases b <;> first | rfl | exact absurd (by decide) hb'
  · rw [List.mem_singleton.mp hmem]; decide
  · intro s u c hP hu
    by_cases hmeet : ∃ b ∈ bs, b ∈ touches c
    · exact taken hP hmeet hu
    · exact keeps hu.frame (fun b hb hmem => hmeet ⟨b, hb, hmem⟩) (weaken hP)
  · revert hmem; cases b <;> decide

end Sys2Proof.Machine
end

section
namespace Sys2Proof.Machine

open Sys2Proof

/-! ### What the commands do to the journal, the counters and the attention flags -/

/-- Every counter of `c` is at most that of `d`. -/
def Counters.le (c d : Counters) : Prop :=
  c.crcErrors ≤ d.crcErrors ∧ c.truncated ≤ d.truncated ∧ c.formatErrors ≤ d.formatErrors ∧
    c.duplicates ≤ d.duplicates ∧ c.bitErrors ≤ d.bitErrors ∧
    c.arbitrationLosses ≤ d.arbitrationLosses ∧ c.journalDrops ≤ d.journalDrops ∧
    c.lateRecords ≤ d.lateRecords

/-- No counter falls and no attention flag becomes clear from `s` to `t`. -/
def State.risesTo (s t : State) : Prop :=
  s.counters.le t.counters ∧ (s.host.quietFlag = true → t.host.quietFlag = true) ∧
    (s.host.dropFlag = true → t.host.dropFlag = true)

theorem Counters.le_refl (c : Counters) : c.le c := by
  simp [Counters.le]

theorem Counters.le_trans {c d e : Counters} (h : c.le d) (h' : d.le e) : c.le e := by
  obtain ⟨h1, h2, h3, h4, h5, h6, h7, h8⟩ := h
  obtain ⟨g1, g2, g3, g4, g5, g6, g7, g8⟩ := h'
  exact ⟨BitVec.le_trans h1 g1, BitVec.le_trans h2 g2, BitVec.le_trans h3 g3, BitVec.le_trans h4 g4,
    BitVec.le_trans h5 g5, BitVec.le_trans h6 g6, BitVec.le_trans h7 g7, BitVec.le_trans h8 g8⟩

theorem le_satInc (n : Count) : n ≤ satInc n := by
  unfold satInc
  split <;> bv_omega

theorem State.risesTo_refl (s : State) : s.risesTo s :=
  ⟨s.counters.le_refl, id, id⟩

theorem State.risesTo_trans {s t u : State} (h : s.risesTo t) (h' : t.risesTo u) : s.risesTo u :=
  ⟨Counters.le_trans h.1 h'.1, h'.2.1 ∘ h.2.1, h'.2.2 ∘ h.2.2⟩

/-- `t` has the transaction of `s` at its host port; the flags and IRQ may differ. -/
def State.samePort (s t : State) : Prop :=
  t.host = { s.host with quietFlag := t.host.quietFlag, dropFlag := t.host.dropFlag, irq := t.host.irq }

theorem State.samePort_of_host {s t : State} (h : t.host = s.host) : s.samePort t := by
  unfold State.samePort
  rw [h]

theorem State.samePort_trans {s t u : State} (h : s.samePort t) (h' : t.samePort u) : s.samePort u := by
  unfold State.samePort at *
  rw [h', h]

/-- `t` is made of `s` by offers, note numbers, horizon computations and the clearing of pending drops; in
between the journal and the transaction stay, no counter falls and no attention flag becomes clear. -/
inductive Journals (s : State) : State → Prop
  | refl : Journals s s
  | apart {t u : State} (before : Journals s t) (same : u.journal = t.journal)
    (rises : t.risesTo u) (port : t.samePort u) : Journals s u
  | offer {t : State} (before : Journals s t) (r : Record) (repaired : Bool) :
    Journals s (t.offer r repaired)
  | count {t : State} (before : Journals s t) : Journals s t.countNote
  | clear {t : State} (before : Journals s t) : Journals s t.clearDrops
  | horizon {t : State} (before : Journals s t) : Journals s t.computeHorizon

theorem Journals.trans {s t u : State} (h : Journals s t) (h' : Journals t u) : Journals s u := by
  induction h' with
  | refl => exact h
  | apart _ same rises port ih => exact ih.apart same rises port
  | offer _ r x ih => exact ih.offer r x
  | count _ ih => exact ih.count
  | clear _ ih => exact ih.clear
  | horizon _ ih => exact ih.horizon

/-- What changes other blocks only is apart from the journal, the counters and the flags. -/
theorem Journals.of_frame {s t : State} {bs : List Block} (h : s.changesOnly t bs)
    (apart : ∀ b ∈ bs, b ∉ offerBlocks) : Journals s t := by
  have hj : t.journal = s.journal := h .journal fun hb => apart _ hb (by decide)
  have hc : t.counters = s.counters := h .counters fun hb => apart _ hb (by decide)
  have hh : t.host = s.host := h .host fun hb => apart _ hb (by decide)
  exact Journals.refl.apart hj ⟨hc ▸ s.counters.le_refl, by rw [hh]; exact id, by rw [hh]; exact id⟩
    (State.samePort_of_host hh)

theorem Journals.foldl {α : Type} {f : State → α → State} (hf : ∀ (s : State) a, Journals s (f s a))
    (xs : List α) (s : State) : Journals s (xs.foldl f s) := by
  induction xs generalizing s with
  | nil => exact .refl
  | cons x xs ih => exact (hf s x).trans (ih (f s x))

/-! #### The shared operations -/

theorem State.note_journals (s : State) (d : Detail) : Journals s (s.note d) :=
  Journals.refl.count.offer _ _

theorem State.appendOwn_journals (s : State) (stamp : Stamp) (q : TimeState) (d : Detail) :
    Journals s (s.appendOwn stamp q d) :=
  have henqueue : Journals s (s.enqueue (s.ownRecord stamp q d)) := Journals.refl.apart rfl s.risesTo_refl rfl
  henqueue.offer _ _

theorem State.capture_journals (s : State) (stamp : Stamp) (q : TimeState) (d : Detail) :
    Journals s (s.capture stamp q d) := by
  rcases s.capture_cases stamp q d with ⟨-, h⟩ | ⟨-, h⟩ <;> rw [h]
  · exact s.appendOwn_journals stamp q d
  · exact Journals.refl.apart rfl s.risesTo_refl rfl

theorem State.setInput_journals (s : State) (i : Fin 16) (x : Input) : Journals s (s.setInput i x) :=
  .of_frame (s.setInput_frame i x) (by decide)

theorem State.setPeer_journals (s : State) (p : Station) (e : PeerEntry) :
    Journals s (s.setPeer p e) :=
  .of_frame (s.setPeer_frame p e) (by decide)

theorem State.setMissing_journals (s : State) (p : Station) (set : List Missing) :
    Journals s (s.setMissing p set) :=
  .of_frame (s.setMissing_frame p set) (by decide)

theorem State.setInput_capture_journals (s : State) (i : Fin 16) (x : Input) (stamp : Stamp)
    (q : TimeState) (d : Detail) : Journals s ((s.setInput i x).capture stamp q d) :=
  (s.setInput_journals i x).trans (State.capture_journals _ _ _ _)

theorem State.transition_journals (s : State) (i : Fin 16) (level : Bool) (stamp : Stamp)
    (q : TimeState) (snap : Line16) : Journals s (s.transition i level stamp q snap) := by
  unfold State.transition
  simp only
  split
  · exact .refl
  · exact s.setInput_journals i _
  · split
    · exact s.setInput_capture_journals i _ _ _ _
    · split
      · exact s.setInput_capture_journals i _ _ _ _
      · exact s.setInput_journals i _
  · split
    · exact s.setInput_capture_journals i _ _ _ _
    · exact s.setInput_journals i _

theorem State.readDirect_journals (s : State) (i : Fin 16) : Journals s (s.readDirect i) := by
  unfold State.readDirect
  split
  · exact (s.setInput_journals i _).trans (State.transition_journals _ _ _ _ _ _)
  · exact .refl

theorem State.sampleInput_journals (s : State) (i : Fin 16) : Journals s (s.sampleInput i) := by
  unfold State.sampleInput
  split
  · split
    · exact .refl
    · exact s.setInput_journals i _
  · simp only
    split
    · exact (s.setInput_journals i _).trans (State.transition_journals _ _ _ _ _ _)
    · exact s.setInput_journals i _

theorem State.sampleAll_journals (s : State) : Journals s s.sampleAll := by
  have hchoices : Journals s { s with choices := s.choices + s.sampledInputs.length } :=
    Journals.refl.apart rfl s.risesTo_refl rfl
  exact hchoices.trans (Journals.foldl State.sampleInput_journals _ _)

theorem State.setTicks_journals (s : State) (x : Ticks) : Journals s { s with ticks := x } :=
  Journals.refl.apart rfl s.risesTo_refl rfl

theorem State.endHoldoff_journals (s : State) (i : Fin 16) : Journals s (s.endHoldoff i) := by
  unfold State.endHoldoff
  simp only
  split
  · exact s.setInput_capture_journals i _ _ _ _
  · exact s.setInput_journals i _

theorem State.declareRuns_journals (s : State) (p : Station) (c : GapCause) (seqs : List Seq) :
    Journals s (s.declareRuns p c seqs) :=
  Journals.foldl (fun t _ => t.note_journals _) _ s

theorem State.declareLost_journals (s : State) (p : Station) (c : GapCause) (gone : Missing → Bool) :
    Journals s (s.declareLost p c gone) :=
  (s.setMissing_journals p _).trans (State.declareRuns_journals _ p c _)

theorem State.advance_journals (s : State) (p : Station) (n : Numbering) (a b : Seq) :
    Journals s (s.advance p n a b) :=
  ((s.setMissing_journals p _).trans (State.declareRuns_journals _ p _ _)).trans
    (State.setPeer_journals _ p _)

theorem State.countDuplicate_journals (s : State) : Journals s s.countDuplicate :=
  Journals.refl.apart rfl ⟨by simp [Counters.le, State.countDuplicate, le_satInc], id, id⟩ rfl

theorem State.classify_journals (s : State) (p : Station) (n : Numbering) (x : Bool) (r : Record) :
    Journals s (s.classify p n x r) := by
  unfold State.classify
  split
  · exact (s.advance_journals p n _ _).offer r x
  · split
    · exact (s.setMissing_journals p _).offer r x
    · exact s.countDuplicate_journals

theorem State.takeRecord_journals (p : Station) (x : Bool) (s : State) (r : Record) :
    Journals s (State.takeRecord p x s r) := by
  unfold State.takeRecord
  split
  · exact s.countDuplicate_journals
  · exact s.countDuplicate_journals
  · exact s.classify_journals p _ x r
  · exact s.classify_journals p _ x r
  · split
    · exact s.countDuplicate_journals
    · exact (s.setPeer_journals p _).trans (State.classify_journals _ p _ x r)
  · exact s.countDuplicate_journals

theorem State.bringActive_journals (s : State) (p : Station) (n : Option Numbering) (x : Bool) :
    Journals s (s.bringActive p n x) :=
  (s.setPeer_journals p _).trans (State.note_journals _ _)

theorem State.restartPeer_journals (s : State) (p : Station) (next : Seq) :
    Journals s (s.restartPeer p next) :=
  (s.declareLost_journals p _ _).trans (State.bringActive_journals _ p _ _)

theorem State.takeSender_journals (s : State) (p : Station) (f : Frame) :
    Journals s (s.takeSender p f) := by
  have hm : Journals s (s.takeMismatch p f) := by
    unfold State.takeMismatch
    split
    · exact s.setPeer_journals p _
    · exact .refl
  have he (t : State) : Journals t (t.enterSender p f) := by
    unfold State.enterSender
    split
    · exact .refl
    · exact t.bringActive_journals p _ _
    · exact t.restartPeer_journals p _
    · exact t.restartPeer_journals p _
    · exact t.bringActive_journals p _ _
    · exact .refl
  exact (hm.trans (he _)).trans (State.setPeer_journals _ p _)

theorem State.learnNumbering_journals (s : State) (p : Station) (next : Seq) :
    Journals s (s.learnNumbering p next) := by
  unfold State.learnNumbering
  split
  · exact .refl
  · exact s.setPeer_journals p _

theorem State.takeTime_journals (s : State) (p : Station) (sender settled : Stamp) (next : Seq)
    (q : TimeState) : Journals s (s.takeTime p sender settled next q) := by
  have hs (t : State) : Journals t (t.takeSample p sender) := by
    unfold State.takeSample
    split
    · exact .refl
    · exact Journals.refl.apart rfl t.risesTo_refl rfl
  have hc (t : State) : Journals t (t.compareNext p settled next) := by
    unfold State.compareNext
    split
    · exact .refl
    · split
      · exact t.advance_journals p _ _ _
      · split
        · exact t.setPeer_journals p _
        · exact .refl
  exact (((s.learnNumbering_journals p next).trans (State.setPeer_journals _ p _)).trans
    (hs _)).trans (hc _)

theorem State.takeContent_journals (s : State) (p : Station) (f : Frame) :
    Journals s (s.takeContent p f) := by
  unfold State.takeContent
  split
  · exact s.learnNumbering_journals p _
  · exact s.takeTime_journals p _ _ _ _
  · exact Journals.foldl (State.takeRecord_journals p _) _ s
  · exact Journals.foldl (State.takeRecord_journals _ _) _ s
  · exact .refl
  · exact .refl

theorem State.takeRepair_journals (s : State) (p : Station) (f : Frame) :
    Journals s (s.takeRepair p f) := by
  unfold State.takeRepair
  split
  · exact .of_frame (s.takeRequest_frame p _ _ _) (by decide)
  · split
    · exact s.declareLost_journals _ _ _
    · exact .refl
  · exact .of_frame (s.setRepair_frame _) (by decide)
  · exact .refl
  · exact .refl
  · exact .refl

theorem State.passOn_journals (s : State) (p : Station) (f : Frame) : Journals s (s.passOn p f) := by
  have h := ((s.takeSender_journals p f).trans (State.takeContent_journals _ p f)).trans
    (State.takeRepair_journals _ p f)
  unfold State.passOn
  simp only
  split
  · exact h.horizon
  · exact h

@[simp] theorem State.enterQuiet_host (s : State) (cause : QuietCause) :
    (s.enterQuiet cause).host = { s.host with quietFlag := true } := rfl

theorem State.enterQuiet_journals (s : State) (cause : QuietCause) :
    Journals s (s.enterQuiet cause) := by
  have hframe := s.enterQuiet_frame cause
  have hcounters : (s.enterQuiet cause).counters = s.counters := hframe .counters (by decide)
  have hjournal : (s.enterQuiet cause).journal = s.journal := hframe .journal (by decide)
  refine Journals.refl.apart hjournal ⟨?_, ?_, ?_⟩ (by rw [State.samePort, State.enterQuiet_host])
  · rw [hcounters]; exact s.counters.le_refl
  · simp
  · simp

theorem State.told_journals (s : State) (read : Bool) (bits : List Bool) (m : Medium) :
    Journals s (s.told read bits m) :=
  .of_frame (s.told_frame read bits m) (by decide)

theorem State.endReception_journals (s : State) : Journals s s.endReception :=
  .of_frame s.endReception_frame (by decide)

theorem State.countFormat_journals (s : State) : Journals s s.countFormat :=
  Journals.refl.apart rfl ⟨by simp [Counters.le, State.countFormat, le_satInc], id, id⟩ rfl

theorem State.takeFrame_journals (s : State) (raw : List Byte) : Journals s (s.takeFrame raw) := by
  have hclash (t : State) : Journals t t.clash := by
    unfold State.clash
    split
    · exact t.enterQuiet_journals _
    · exact t.enterQuiet_journals _
    · exact .refl
    · exact .refl
  have hend := (s.told_journals (s.line.bytes == raw) (lineBits raw) Medium.released).trans
    (State.endReception_journals _)
  unfold State.takeFrame
  simp only
  split
  · exact hend
  · refine hend.trans ?_
    unfold State.takeChecked
    split
    · exact Journals.refl.apart rfl ⟨by simp [Counters.le, State.countCrc, le_satInc], id, id⟩ rfl
    · exact State.countFormat_journals _
    · unfold State.takeValid
      split
      · exact hclash _
      · split
        · exact .refl
        · exact State.passOn_journals _ _ _

theorem State.told_discard_journals (s : State) (read : Bool) (bits : List Bool) (m : Medium) :
    Journals s (s.told read bits m).discardFrame := by
  have hend := (s.told_journals read bits m).trans (State.endReception_journals _)
  unfold State.discardFrame
  split
  · exact hend
  · exact hend.trans (State.countFormat_journals _)

theorem State.countTruncated_journals (s : State) : Journals s s.countTruncated :=
  Journals.refl.apart rfl ⟨by simp [Counters.le, State.countTruncated, le_satInc], id, id⟩ rfl

theorem State.showIdleGap_journals (s : State) : Journals s s.showIdleGap := by
  have hline (l : LineControl) : Journals s
      { s.toldRuns s.gapRead Config.idleGapBits 0 0 Medium.released with line := l } :=
    (Journals.of_frame (s.toldRuns_frame _ _ _ _ _) (by decide)).trans
      (.of_frame (State.setLine_frame _ l) (by decide))
  unfold State.showIdleGap
  simp only
  split
  · exact (hline _).trans (State.countTruncated_journals _)
  · exact hline _

theorem State.endRound_journals (s : State) : Journals s s.endRound := by
  have htime {t u : State} (h : t.changesOnly u [.timebase]) : Journals t u :=
    .of_frame h (by decide)
  have hbase (t : State) (x : Timebase) : t.changesOnly { t with timebase := x } [.timebase] := by
    intro b hb; cases b <;> first | exact absurd (by decide) hb | rfl
  have hnote (t : State) (a : Int) : Journals t (t.noteStep a) := by
    unfold State.noteStep
    split
    · exact .refl
    · exact t.note_journals _
  have hold (t : State) : Journals t t.holdOver := by
    unfold State.holdOver
    simp only
    split
    · exact (htime (hbase t _)).trans (htime (State.changeTimeState_frame _ _))
    · exact htime (hbase t _)
  have hround : Journals s s.applyRound := by
    unfold State.applyRound
    split
    · split
      · exact .refl
      · exact hold s
      · exact hold s
    · simp only
      split
      · exact ((htime (hbase s _)).trans (htime (State.changeTimeState_frame _ _))).trans (hnote _ _)
      · refine Journals.trans ?_ (hnote _ _)
        unfold State.acquireRound
        simp only
        split
        · exact (htime (hbase s _)).trans (htime (State.changeTimeState_frame _ _))
        · exact htime (hbase s _)
      · unfold State.lockedRound
        simp only
        split
        · exact (htime (hbase s _)).trans (htime (State.changeTimeState_frame _ _))
        · exact htime (hbase s _)
  exact hround.trans (htime (State.nextRound_frame _))

theorem State.eventSent_journals (s : State) (n : Nat) : Journals s (s.eventSent n) := by
  have hretire : Journals s (s.retire n) := Journals.refl.apart rfl s.risesTo_refl rfl
  have hloss (t : State) : Journals t t.reportLoss := by
    have hlost : Journals t { t with outbound := { t.outbound with lost := 0 } } :=
      Journals.refl.apart rfl t.risesTo_refl rfl
    unfold State.reportLoss
    split
    · exact .refl
    · exact hlost.trans (State.appendOwn_journals _ _ _ _)
  exact hretire.trans (hloss _)

theorem State.completeFrame_journals (s : State) : Journals s s.completeFrame := by
  have hend : Journals s (s.sentUpTo s.comparedBits).endSending :=
    (Journals.of_frame (s.sentUpTo_frame _) (by decide)).trans
      (.of_frame (State.setLine_frame _ _) (by decide))
  have hcomplete (t : State) (src : Source) : Journals t (t.takeCompletion src) := by
    cases src with
    | event n => exact (t.eventSent_journals n).trans (.of_frame (State.setLine_frame _ _) (by decide))
    | hello restart => exact Journals.refl.apart rfl t.risesTo_refl rfl
    | time => exact Journals.refl.apart rfl t.risesTo_refl rfl
    | originAnswer => exact Journals.refl.apart rfl t.risesTo_refl rfl
    | proxyAnswer p seqs => exact Journals.refl.apart rfl t.risesTo_refl rfl
    | repairReq p seqs => exact Journals.refl.apart rfl t.risesTo_refl rfl
  unfold State.completeFrame
  split
  · exact hend.trans (hcomplete _ _)
  · exact hend

theorem State.abortFrame_journals (s : State) : Journals s s.abortFrame := by
  have hcount : s.risesTo (s.giveUp s.line.echo).countBitError :=
    ⟨by simp [Counters.le, State.countBitError, State.giveUp, le_satInc], id, id⟩
  have hgiven : Journals s (s.giveUp s.line.echo).countBitError := Journals.refl.apart rfl hcount rfl
  have hline (l : LineControl) : Journals s { (s.giveUp s.line.echo).countBitError with line := l } :=
    hgiven.trans (.of_frame (State.setLine_frame _ l) (by decide))
  unfold State.abortFrame
  simp only
  split
  · exact (hline _).trans (State.enterQuiet_journals _ _)
  · exact hline _

theorem State.loseArbitration_journals (s : State) : Journals s s.loseArbitration := by
  have hcount : s.risesTo (s.giveUp false).countArbitrationLoss :=
    ⟨by simp [Counters.le, State.countArbitrationLoss, State.giveUp, le_satInc], id, id⟩
  unfold State.loseArbitration
  split <;> exact Journals.refl.apart rfl hcount rfl

/-- `u` is made of `s` as `Journals` says, but for the transaction at the host port. -/
def Adds (s u : State) : Prop :=
  ∃ v, Journals s v ∧ u.journal = v.journal ∧ v.risesTo u

theorem Journals.adds {s u : State} (h : Journals s u) : Adds s u := ⟨u, h, rfl, u.risesTo_refl⟩

/-- With the journal as it was. -/
theorem adds_of_same {s u : State} (same : u.journal = s.journal) (rises : s.risesTo u) : Adds s u :=
  ⟨s, .refl, same, rises⟩

/-- An answer to the host leaves the flags. -/
theorem State.respond_adds (s : State) (c : Option HostCommand) (response : List Byte) :
    Adds s (s.respond c response) :=
  adds_of_same rfl s.risesTo_refl

theorem State.takeMark_adds (s : State) (tag : Byte) : Adds s (s.takeMark tag) := by
  unfold State.takeMark
  split
  · exact s.respond_adds _ _
  · split
    · exact ⟨_, s.appendOwn_journals _ _ _, rfl, State.risesTo_refl _⟩
    · exact s.respond_adds _ _

theorem State.boundary_same (s : State) (n : Byte) (k : Nat) :
    (s.boundary n k).journal = s.journal ∧ s.risesTo (s.boundary n k) := by
  unfold State.boundary
  split
  · split <;> exact ⟨rfl, s.risesTo_refl⟩
  · exact ⟨rfl, s.risesTo_refl⟩

/-- `s` with the head of its released region taken out. -/
def State.withoutHead (s : State) : State :=
  { s with journal := { s.journal with released := s.journal.released.tail } }

theorem State.consumeHead_journals (s : State) : Journals s.withoutHead s.consumeHead := by
  unfold State.consumeHead
  simp only
  split
  · exact .refl
  · exact (Journals.refl.clear).trans (State.note_journals _ _)

theorem State.takeStart_adds (s : State) : Adds s s.takeStart := by
  unfold State.takeStart
  split
  · split
    · exact adds_of_same rfl s.risesTo_refl
    · exact s.respond_adds _ _
  · exact s.respond_adds _ _

theorem State.takeRejoin_adds (s : State) : Adds s s.takeRejoin := by
  unfold State.takeRejoin
  split
  · exact adds_of_same rfl s.risesTo_refl
  · exact s.respond_adds _ _

theorem State.takeConfigure_adds (s : State) (record : List Byte) :
    Adds s (s.takeConfigure record) := by
  unfold State.takeConfigure
  split
  · split
    · exact s.respond_adds _ _
    · exact adds_of_same rfl s.risesTo_refl
  · exact s.respond_adds _ _

theorem State.takeRead_adds (s : State) (n : Byte) : Adds s (s.takeRead n) := by
  unfold State.takeRead
  split
  · split
    · exact adds_of_same rfl s.risesTo_refl
    · exact s.respond_adds _ _
  · exact s.respond_adds _ _

/-- The commands that take something out of the journal, zero counters or clear flags. -/
def clearing : Instr → Bool
  | .deviceReset => true
  | .recordConsumed => true
  | .clearCounts => true
  | .statusResponseEnd => true
  | .responseEnd => true
  | .commandByte byte => byte == 0x09
  | _ => false

/-- The commands of the host port, which go on with its transaction. -/
def ofPort : Instr → Bool
  | .selFall _ => true
  | .selRise => true
  | .status => true
  | .statusResponseEnd => true
  | .responseEnd => true
  | .configure _ => true
  | .start => true
  | .read _ => true
  | .recordConsumed => true
  | .peers => true
  | .inputs => true
  | .mark _ => true
  | .rejoin => true
  | .clearCounts => true
  | .badCommand _ => true
  | .commandByte _ => true
  | _ => false

/-- A command that is none of the host port's only adds to the journal, the counters and the flags. -/
theorem Taken.journals {c : Instr} {s u : State} (h : Taken s c u) (hreset : c ≠ .deviceReset)
    (hc : ofPort c = false) : Journals s u := by
  cases h with
  | deviceReset => exact absurd rfl hreset
  | receivedFrame _ _ _ _ => exact s.takeFrame_journals _
  | status row _ => rcases row with rfl | rfl <;> contradiction
  | start row _ => rcases row with rfl | rfl <;> contradiction
  | peers row _ => rcases row with rfl | rfl <;> contradiction
  | inputs row _ => rcases row with rfl | rfl <;> contradiction
  | rejoin row _ => rcases row with rfl | rfl <;> contradiction
  | clearCounts row _ => rcases row with rfl | rfl <;> contradiction
  | badCommand row _ => rcases row with rfl | rfl <;> contradiction
  | endResponse row _ => rcases row with ⟨rfl, -⟩ | ⟨rfl, -⟩ <;> contradiction
  | resetRelease _ => exact .of_frame (s.release_frame _ _) (by decide)
  | pinRead _ => exact s.readDirect_journals _
  | pinMove _ => exact .of_frame (s.setPins_frame _) (by decide)
  | sampleTick _ =>
    exact (s.setTicks_journals _).trans (State.sampleAll_journals _)
  | holdoffExpiry _ => exact s.endHoldoff_journals _
  | windowExpiry _ => exact s.setInput_journals _ _
  | quietExpiry _ => exact s.setInput_capture_journals _ _ _ _ _
  | releaseTick _ => exact (s.setTicks_journals _).horizon
  | roundEnd _ => exact s.endRound_journals
  | slewTick _ =>
    exact (s.setTicks_journals _).trans (.of_frame (State.slew_frame _) (by decide))
  | joinExpiry _ => exact Journals.refl.apart rfl s.risesTo_refl rfl
  | silenceExpiry _ => exact ((s.setPeer_journals _ _).trans (State.note_journals _ _)).horizon
  | repairExpiry _ => exact (s.declareLost_journals _ _ _).trans (State.setMissing_journals _ _ _)
  | proxyExpiry _ => exact .of_frame (s.setRepair_frame _) (by decide)
  | sofIdle _ _ => split <;> exact Journals.refl.apart rfl s.risesTo_refl rfl
  | sofElsewhere _ _ =>
    exact (Journals.of_frame s.findBoundary_frame (by decide)).trans
      (.of_frame (State.othersDrive_frame _ _) (by decide))
  | idleGap _ _ _ _ => exact s.showIdleGap_journals
  | holdBackClear _ => exact .of_frame (s.setLine_frame _) (by decide)
  | lineStuck _ _ _ => exact .of_frame s.stickLine_frame (by decide)
  | lineStuckClear _ _ => exact .of_frame s.freeLine_frame (by decide)
  | framingFault _ => exact s.told_discard_journals _ _ _
  | bodyLength _ _ => exact s.told_discard_journals _ _ _
  | frameBegin _ _ => exact .of_frame (s.beginFrame_frame _) (by decide)
  | arbitrationLoss _ => exact s.loseArbitration_journals
  | arbitrationWon _ _ => exact .of_frame s.winArbitration_frame (by decide)
  | bitError _ => exact s.abortFrame_journals
  | frameComplete _ _ => exact s.completeFrame_journals
  | _ => contradiction

/-- Every other command only adds to the journal, the counters and the flags. -/
theorem Taken.adds {c : Instr} {s u : State} (h : Taken s c u) (hc : clearing c = false) :
    Adds s u := by
  by_cases hport : ofPort c = false
  · exact (h.journals (by rintro rfl; contradiction) hport).adds
  cases h with
  | selFall _ =>
    unfold State.beginTransaction
    simp only
    split <;> exact adds_of_same rfl s.risesTo_refl
  | selRise _ => exact adds_of_same rfl s.risesTo_refl
  | status _ _ => exact adds_of_same rfl s.risesTo_refl
  | start _ _ => exact s.takeStart_adds
  | peers _ _ => exact s.respond_adds _ _
  | inputs _ _ => exact s.respond_adds _ _
  | rejoin _ _ => exact s.takeRejoin_adds
  | badCommand _ _ => exact s.respond_adds _ _
  | readOperands _ _ => exact adds_of_same rfl s.risesTo_refl
  | configure _ _ => exact s.takeConfigure_adds _
  | read _ => exact s.takeRead_adds _
  | mark _ => exact s.takeMark_adds _
  | recordConsumed _ _ _ _ => contradiction
  | clearCounts row _ => rcases row with rfl | rfl <;> contradiction
  | endResponse row _ => rcases row with ⟨rfl, -⟩ | ⟨rfl, -⟩ <;> contradiction
  | receivedFrame row _ _ _ => cases c <;> simp_all [frameBytes, ofPort]
  | _ => simp [ofPort] at hport

/-- RECORD_CONSUMED takes the head out, and then only adds. -/
theorem Taken.adds_of_consumed {s u : State} (h : Taken s .recordConsumed u) :
    Adds s.withoutHead u := by
  cases h with
  | recordConsumed _ _ _ _ => 
    exact ⟨s.consumeHead, s.consumeHead_journals, State.boundary_same s.consumeHead _ _⟩
  | receivedFrame row _ _ _ => contradiction
  | status row _ => rcases row with h | h <;> contradiction
  | start row _ => rcases row with h | h <;> contradiction
  | peers row _ => rcases row with h | h <;> contradiction
  | inputs row _ => rcases row with h | h <;> contradiction
  | rejoin row _ => rcases row with h | h <;> contradiction
  | clearCounts row _ => rcases row with h | h <;> contradiction
  | badCommand row _ => rcases row with h | h <;> contradiction
  | endResponse row _ => rcases row with ⟨h, -⟩ | ⟨h, -⟩ <;> contradiction

end Sys2Proof.Machine
end

section
namespace Sys2Proof.JournalInvariants

open Sys2Proof Sys2Proof.Machine

/-! ### What the journal keeps -/

theorem taken_deviceReset {s u : State} (h : Taken s .deviceReset u) : u = s.hold := by
  cases h with
  | deviceReset => rfl
  | receivedFrame row _ _ _ => contradiction
  | endResponse row _ => rcases row with ⟨h, -⟩ | ⟨h, -⟩ <;> contradiction
  | _ row => rcases row with h | h <;> contradiction

/-- What every offer, note number, clearing of drops and horizon computation keeps of the journal. -/
theorem journals_keep {P : Journal → Prop}
    (offer : ∀ (t : State) r x, P t.journal → P (t.offer r x).journal)
    (count : ∀ t : State, P t.journal → P t.countNote.journal)
    (clear : ∀ t : State, P t.journal → P t.clearDrops.journal)
    (horizon : ∀ t : State, P t.journal → P t.computeHorizon.journal)
    {s t : State} (h : Journals s t) (hs : P s.journal) : P t.journal := by
  induction h with
  | refl => exact hs
  | apart _ same _ _ ih => rw [same]; exact ih
  | offer _ r x ih => exact offer _ r x ih
  | count _ ih => exact count _ ih
  | clear _ ih => exact clear _ ih
  | horizon _ ih => exact horizon _ ih

theorem adds_keep {P : Journal → Prop}
    (offer : ∀ (t : State) r x, P t.journal → P (t.offer r x).journal)
    (count : ∀ t : State, P t.journal → P t.countNote.journal)
    (clear : ∀ t : State, P t.journal → P t.clearDrops.journal)
    (horizon : ∀ t : State, P t.journal → P t.computeHorizon.journal)
    {s t : State} (h : Adds s t) (hs : P s.journal) : P t.journal := by
  obtain ⟨v, hv, same, -⟩ := h
  rw [same]
  exact journals_keep offer count clear horizon hv hs

/-- The commands that clear what is not the journal's leave the journal. -/
theorem journal_of_clearing {c : Instr} {s u : State} (h : Taken s c u) (hc : clearing c = true)
    (hreset : c ≠ .deviceReset) (hconsumed : c ≠ .recordConsumed) : u.journal = s.journal := by
  refine h.frame .journal ?_
  cases c <;> first | contradiction | simp [touches]

/-- An invariant of the journal that a step keeps: it holds after device reset, and offers, note numbers,
clearings of drops, horizon computations and consumptions keep it. -/
theorem step_keeps_journal {P : Journal → Prop} (reset : P Journal.reset)
    (offer : ∀ (t : State) r x, P t.journal → P (t.offer r x).journal)
    (count : ∀ t : State, P t.journal → P t.countNote.journal)
    (clear : ∀ t : State, P t.journal → P t.clearDrops.journal)
    (horizon : ∀ t : State, P t.journal → P t.computeHorizon.journal)
    (consume : ∀ t : State, P t.journal → P t.withoutHead.journal)
    {s t : State} (hs : P s.journal) (h : step s = .next t) : P t.journal := by
  refine step_keeps_blocks (Pre := fun s => P s.journal) (P := fun s => P s.journal) (bs := [.journal])
    (fun hsame hP => ?_) (by decide) id (fun _ hP => hP) (fun {s u c} hP _ hu => ?_)
    (fun {s} hP hout => ?_) hs h
  · have hjournal : _ = _ := hsame .journal (by simp)
    show P _
    rw [hjournal]; exact hP
  · by_cases hreset : c = .deviceReset
    · subst hreset
      rw [taken_deviceReset hu]
      exact reset
    by_cases hconsumed : c = .recordConsumed
    · subst hconsumed
      exact adds_keep offer count clear horizon hu.adds_of_consumed (consume s hP)
    cases hc : clearing c with
    | true => rw [journal_of_clearing hu hc hreset hconsumed]; exact hP
    | false => exact adds_keep offer count clear horizon (hu.adds hc) hP
  · rw [State.microsecond, if_neg (by simp [hout])]
    exact hP

/-! ### R19: no record twice -/

/-- The two regions together hold no network record twice. -/
def Journal.Distinct (j : Journal) : Prop :=
  (j.settling ++ j.released).Pairwise (fun a b =>
    ¬ (a.record.isNetwork = true ∧ b.record.isNetwork = true ∧ a.record.origin = b.record.origin ∧
      a.record.seq = b.record.seq))

theorem distinct_of_perm {j k : Journal}
    (h : (k.settling ++ k.released).Perm (j.settling ++ j.released)) (hj : Journal.Distinct j) :
    Journal.Distinct k :=
  h.symm.pairwise hj fun hab ⟨hb, ha, ho, hs⟩ => hab ⟨ha, hb, ho.symm, hs.symm⟩

/-- What an offer adds to the two regions together. -/
theorem offer_regions (s : State) (r : Record) (x : Bool) :
    ((s.offer r x).journal.settling ++ (s.offer r x).journal.released =
        s.journal.settling ++ s.journal.released) ∨
      ((r.isNetwork = true → s.journal.lookup r.origin r.seq = none) ∧ ∃ h : Held, h.record = r ∧
        ((s.offer r x).journal.settling ++ (s.offer r x).journal.released).Perm
          (h :: (s.journal.settling ++ s.journal.released))) := by
  rcases s.offer_cases r x with h | ⟨-, hnew, ⟨-, h⟩ | ⟨-, h⟩⟩ <;> rw [h]
  · exact .inl rfl
  · refine .inr ⟨hnew, ⟨r, true, x⟩, rfl, ?_⟩
    rw [State.insertLate_settling, State.insertLate_released, ← List.append_assoc]
    exact List.perm_append_singleton _ _
  · refine .inr ⟨hnew, ⟨r, false, x⟩, rfl, ?_⟩
    rw [State.insertSettling_settling, State.insertSettling_released]
    exact (insertByKey_perm _ _).append_right _

/-- A lookup fails exactly where no region holds the network record. -/
theorem lookup_eq_none_iff (j : Journal) (origin : Fin 25) (seq : Seq) :
    j.lookup origin seq = none ↔ ∀ h ∈ j.settling ++ j.released,
      ¬ (h.record.isNetwork = true ∧ h.record.origin = origin ∧ h.record.seq = seq) := by
  rw [← Option.not_isSome_iff_eq_none, OfferLaws.lookup_isSome_iff]
  simp only [not_exists, not_and]

theorem offer_keeps_distinct (s : State) (r : Record) (x : Bool) (h : Journal.Distinct s.journal) :
    Journal.Distinct (s.offer r x).journal := by
  rcases offer_regions s r x with hsame | ⟨hnew, y, rfl, hperm⟩
  · unfold Journal.Distinct; rw [hsame]; exact h
  · have hcons : (y :: (s.journal.settling ++ s.journal.released)).Pairwise (fun a b =>
        ¬ (a.record.isNetwork = true ∧ b.record.isNetwork = true ∧
          a.record.origin = b.record.origin ∧ a.record.seq = b.record.seq)) :=
      List.pairwise_cons.mpr ⟨fun b hb ⟨hy, hbn, ho, hs⟩ =>
        (lookup_eq_none_iff _ _ _).mp (hnew hy) b hb ⟨hbn, ho.symm, hs.symm⟩, h⟩
    exact hperm.symm.pairwise hcons fun hab ⟨hb, ha, ho, hs⟩ => hab ⟨ha, hb, ho.symm, hs.symm⟩

/-- A horizon computation moves records from one region to the other. -/
theorem computeHorizon_regions (s : State) :
    (s.computeHorizon.journal.settling ++ s.computeHorizon.journal.released).Perm
      (s.journal.settling ++ s.journal.released) := by
  rcases s.computeHorizon_cases with h | ⟨v, -, -, h⟩ <;> rw [h]
  have hparts := (List.filter_append_perm (fun x : Held => decide (x.record.stamp < v))
    s.journal.settling).append_right s.journal.released
  have hmove : (s.releaseTo v).journal.settling ++ (s.releaseTo v).journal.released =
      s.journal.settling.filter (fun x => !decide (x.record.stamp < v)) ++
        (s.journal.released ++ s.journal.settling.filter (fun x => decide (x.record.stamp < v))) := rfl
  rw [hmove]
  exact (List.perm_append_comm.append_left _).trans
    (by rw [← List.append_assoc]; exact (List.perm_append_comm.append_right _).trans hparts)

/-- Settles O7: the order and the size by the offer's and the horizon's lemmas, and distinctness since an
offer adds only a network record that a lookup does not find. -/
theorem journalStaysOrderedAndDistinct : Obligations.JournalStaysOrderedAndDistinct := by
  refine ⟨fun s t hs h => ?ordered, fun s t hs h => ?distinct⟩
  case ordered =>
    exact step_keeps_journal (P := fun j => ({ s with journal := j } : State).JournalKept)
      ⟨.nil, by simp [Journal.reset], by simp [Journal.reset, Journal.occupancy]⟩
      (fun t r x ht => State.offer_keeps_journal (s := t) r x ht) (fun t ht => ht) (fun t ht => ht)
      (fun t ht => State.computeHorizon_keeps_journal (s := t) ht)
      (fun t ⟨hs, hh, ho⟩ => ⟨hs, hh, by
        simp only [Journal.occupancy, State.withoutHead, List.length_tail] at ho ⊢; omega⟩) hs h
  case distinct =>
    exact step_keeps_journal (P := Journal.Distinct) .nil offer_keeps_distinct (fun t ht => ht)
      (fun t ht => ht) (fun t ht => distinct_of_perm (computeHorizon_regions t) ht)
      (fun t ht => ht.sublist ((List.tail_sublist _).append_left _)) hs h

/-! ### R1, R18, R29, R37: what a held record and the horizon keep -/

/-- Between `j` and `k` the horizon has not fallen, the released region has grown at its tail, and every
settling record is still held. -/
def Journal.Extends (j k : Journal) : Prop :=
  j.horizon ≤ k.horizon ∧ j.released <+: k.released ∧
    ∀ h ∈ j.settling, h ∈ k.settling ∨ h ∈ k.released

theorem extends_refl (j : Journal) : Journal.Extends j j :=
  ⟨BitVec.le_refl _, List.prefix_refl _, fun _ => .inl⟩

theorem extends_trans {i j k : Journal} (h : Journal.Extends i j) (h' : Journal.Extends j k) :
    Journal.Extends i k := by
  obtain ⟨hh, hr, hs⟩ := h
  obtain ⟨hh', hr', hs'⟩ := h'
  exact ⟨BitVec.le_trans hh hh', hr.trans hr', fun x hx =>
    (hs x hx).elim (hs' x) fun hx => .inr (hr'.subset hx)⟩

theorem offer_extends (s : State) (r : Record) (x : Bool) :
    Journal.Extends s.journal (s.offer r x).journal := by
  obtain ⟨hh, -, ⟨hset, hrel⟩ | ⟨-, -, hset, hrel⟩ | ⟨-, -, hset, hrel⟩⟩ := s.offer_journal r x
  all_goals refine ⟨hh ▸ BitVec.le_refl _, ?_, fun y hy => .inl ?_⟩
  · rw [hrel]
  · rw [hset]; exact hy
  · rw [hrel]; exact List.prefix_append _ _
  · rw [hset]; exact hy
  · rw [hrel]
  · rw [hset]; exact mem_insertByKey.mpr (.inr hy)

theorem computeHorizon_extends (s : State) :
    Journal.Extends s.journal s.computeHorizon.journal := by
  rcases s.computeHorizon_cases with h | ⟨v, hlt, -, h⟩ <;> rw [h]
  · exact extends_refl _
  · refine ⟨BitVec.le_of_lt hlt, List.prefix_append _ _, fun y hy => ?_⟩
    cases hv : decide (y.record.stamp < v) with
    | true =>
      exact .inr (List.mem_append_right _ (List.mem_filter.mpr ⟨hy, hv⟩))
    | false =>
      exact .inl (List.mem_filter.mpr ⟨hy, by simp only [hv, Bool.not_false]⟩)

theorem adds_extend {s t : State} (h : Adds s t) : Journal.Extends s.journal t.journal :=
  adds_keep (P := Journal.Extends s.journal)
    (fun t r x ht => extends_trans ht (offer_extends t r x)) (fun _ ht => ht) (fun _ ht => ht)
    (fun t ht => extends_trans ht (computeHorizon_extends t)) h (extends_refl _)

/-- Every command but DEVICE_RESET and RECORD_CONSUMED only extends the journal. -/
theorem exec_extends {c : Instr} {s t : State} (hreset : c ≠ .deviceReset)
    (hconsumed : c ≠ .recordConsumed) (h : exec c s = .next t) :
    Journal.Extends s.journal t.journal := by
  rcases exec_cases h with rfl | ⟨u, hu, rfl⟩
  · exact extends_refl _
  · rw [State.settleIrq_journal]
    cases hc : clearing c with
    | true => rw [journal_of_clearing hu hc hreset hconsumed]; exact extends_refl _
    | false => exact adds_extend (hu.adds hc)

/-- RECORD_CONSUMED leaves the journal, or takes the head out and then extends it. -/
theorem consumed_extends {s t : State} (h : exec .recordConsumed s = .next t) :
    Journal.Extends s.journal t.journal ∨ Journal.Extends s.withoutHead.journal t.journal := by
  rcases exec_cases h with rfl | ⟨u, hu, rfl⟩
  · exact .inl (extends_refl _)
  · rw [State.settleIrq_journal]
    exact .inr (adds_extend hu.adds_of_consumed)

/-- Settles O18: every command extends the journal, RECORD_CONSUMED perhaps after its head is out. -/
theorem horizonAndRecordsAreKept : Obligations.HorizonAndRecordsAreKept := by
  refine ⟨fun c s t hreset h => ?_, fun c s t hreset h => ?_⟩ <;>
    by_cases hconsumed : c = .recordConsumed
  · subst hconsumed
    exact (consumed_extends h).elim (·.1) (·.1)
  · exact (exec_extends hreset hconsumed h).1
  · subst hconsumed
    refine ⟨absurd rfl, fun _ => (consumed_extends h).imp (·.2.1) (·.2.1), ?_⟩
    exact (consumed_extends h).elim (·.2.2) (·.2.2)
  · obtain ⟨-, hreleased, hsettling⟩ := exec_extends hreset hconsumed h
    exact ⟨fun _ => hreleased, fun he => absurd he hconsumed, hsettling⟩

/-! ### R164, R186: the counters and the attention flags -/

theorem offer_rises (s : State) (r : Record) (x : Bool) : s.risesTo (s.offer r x) := by
  rcases s.offer_cases r x with h | ⟨-, -, ⟨-, h⟩ | ⟨-, h⟩⟩ <;> rw [h]
  · exact ⟨by simp [Counters.le, OfferLaws.dropRecord_counters, le_satInc], id, fun _ => rfl⟩
  · exact ⟨by simp [Counters.le, State.insertLate, State.countLate, le_satInc], id, id⟩
  · exact s.risesTo_refl

theorem journals_rise {s t : State} (h : Journals s t) : s.risesTo t := by
  induction h with
  | refl => exact s.risesTo_refl
  | apart _ _ rises _ ih => exact State.risesTo_trans ih rises
  | offer _ r x ih => exact State.risesTo_trans ih (offer_rises _ r x)
  | count _ ih => exact ih
  | clear _ ih => exact ih
  | @horizon t _ ih =>
    have hframe := t.computeHorizon_frame
    have hcounters : t.computeHorizon.counters = t.counters := hframe .counters (by decide)
    have hhost : t.computeHorizon.host = t.host := hframe .host (by decide)
    unfold State.risesTo
    rw [hcounters, hhost]
    exact ih

theorem adds_rise {s t : State} (h : Adds s t) : s.risesTo t := by
  obtain ⟨v, hv, -, rises⟩ := h
  exact State.risesTo_trans (journals_rise hv) rises

theorem settleIrq_rises (s : State) : s.risesTo s.settleIrq :=
  s.risesTo_refl

/-- A flag that the end of a response clears was shown by the report of a STATUS. -/
theorem endResponse_flags (s : State) :
    s.endResponse.counters = s.counters ∧
    (s.host.quietFlag = true → s.endResponse.host.quietFlag = false →
      s.host.taken = some .status ∧ ∃ r, s.host.report = some r ∧ r.quietFlag = true) ∧
    (s.host.dropFlag = true → s.endResponse.host.dropFlag = false →
      s.host.taken = some .status ∧ ∃ r, s.host.report = some r ∧ r.dropFlag = true) := by
  refine ⟨s.endResponse_frame .counters (by decide), ?_⟩
  unfold State.endResponse
  by_cases ht : s.host.taken = some .status
  · cases hr : s.host.report <;> simp_all [State.clearShownFlags]
  · simp_all

theorem exec_endResponse {c : Instr} {s t : State} (hc : c = .statusResponseEnd ∨ c = .responseEnd)
    (h : exec c s = .next t) : t = s ∨ t = s.endResponse.settleIrq := by
  rcases hc with rfl | rfl <;> exact (commit_or_notTaken h).imp_right (·.2)

theorem exec_clearCounts {c : Instr} {s t : State} (hc : c = .clearCounts ∨ c = .commandByte 0x09)
    (h : exec c s = .next t) : t = s ∨ t = s.takeClearCounts.settleIrq := by
  rcases hc with rfl | rfl <;> exact (commit_or_notTaken h).imp_right (·.2)

theorem clearing_cases {c : Instr} (h : clearing c = true) : c = .deviceReset ∨ c = .recordConsumed ∨
    (c = .clearCounts ∨ c = .commandByte 0x09) ∨ c = .statusResponseEnd ∨ c = .responseEnd := by
  cases c <;> simp_all [clearing]

/-- A command that clears nothing of the counters and flags lets them rise or stay. -/
theorem exec_rises {c : Instr} {s t : State} (hreset : c ≠ .deviceReset)
    (hclear : ¬ (c = .clearCounts ∨ c = .commandByte 0x09))
    (hend : ¬ (c = .statusResponseEnd ∨ c = .responseEnd)) (h : exec c s = .next t) :
    s.risesTo t := by
  rcases exec_cases h with rfl | ⟨u, hu, rfl⟩
  · exact State.risesTo_refl _
  refine State.risesTo_trans ?_ (settleIrq_rises u)
  cases hc : clearing c with
  | false => exact adds_rise (hu.adds hc)
  | true =>
    obtain rfl : c = .recordConsumed := by
      rcases clearing_cases hc with h | h | h | h
      · exact absurd h hreset
      · exact h
      · exact absurd h hclear
      · exact absurd h hend
    exact adds_rise (s := s.withoutHead) hu.adds_of_consumed

/-- Settles O21: the commands that do not clear let counters and flags rise or stay, and the ends of responses
and CLEAR_COUNTS are taken apart. -/
theorem countersAndFlagsClearOnlyAsNamed : Obligations.CountersAndFlagsClearOnlyAsNamed := by
  refine ⟨OfferLaws.satInc_toNat, fun c s t hreset hclear hbyte h => ?counters,
    fun c s t hreset h => ?flags⟩
  case counters =>
    show s.counters.le t.counters
    by_cases hend : c = .statusResponseEnd ∨ c = .responseEnd
    · rcases exec_endResponse hend h with rfl | rfl
      · exact Counters.le_refl _
      · rw [State.settleIrq_counters, (endResponse_flags s).1]; exact Counters.le_refl _
    · exact (exec_rises hreset (not_or.mpr ⟨hclear, hbyte⟩) hend h).1
  case flags =>
    have kept (hrise : s.risesTo t) {P Q : Prop} :
        (s.host.quietFlag = true → t.host.quietFlag = false → P) ∧
          (s.host.dropFlag = true → t.host.dropFlag = false → Q) :=
      ⟨fun hs ht => by simp [hrise.2.1 hs] at ht, fun hs ht => by simp [hrise.2.2 hs] at ht⟩
    by_cases hend : c = .statusResponseEnd ∨ c = .responseEnd
    · rcases exec_endResponse hend h with rfl | rfl
      · exact kept (State.risesTo_refl _)
      · obtain ⟨-, hquiet, hdrop⟩ := endResponse_flags s
        exact ⟨fun hs ht => ⟨hend, hquiet hs ht⟩, fun hs ht => ⟨hend, hdrop hs ht⟩⟩
    by_cases hclear : c = .clearCounts ∨ c = .commandByte 0x09
    · rcases exec_clearCounts hclear h with rfl | rfl
      · exact kept (State.risesTo_refl _)
      · exact ⟨fun hs ht => by simp [State.takeClearCounts, State.respond, hs] at ht,
          fun hs ht => by simp [State.takeClearCounts, State.respond, hs] at ht⟩
    · exact kept (exec_rises hreset hclear hend h)

end Sys2Proof.JournalInvariants
end

section
namespace Sys2Proof.Machine

open Sys2Proof

/-! ### What the commands do to Station Control -/

/-- What command `c` can leave in Station Control (chapter 8). -/
inductive ControlMove (s : State) (c : Instr) : Control → Prop
  | same : ControlMove s c s.control
  | reset (row : c = .deviceReset) : ControlMove s c Control.reset
  | release {adr : BitVec 5} {br : BitVec 2} (row : c = .resetRelease adr br) (held : s.inReset = true) :
    ControlMove s c { s.control with address := adr, bitRate := bitRateOf br }
  | configure {record : List Byte} (row : c = .configure record)
    (unconfigured : s.control.lifecycle = .unconfigured) (whole : record.length = configBytes)
    (good : firstBad 0 (configFields record) = none) :
    ControlMove s c { s.control with config := configOf (configFields record) }
  | start (row : c = .start ∨ c = .commandByte 0x03)
    (unconfigured : s.control.lifecycle = .unconfigured) (valid : s.own.isSome = true) :
    ControlMove s c { s.control with
      inForce := true, lifecycle := .joining, joinTimer := some s.joinLength }
  | rejoin (row : c = .rejoin ∨ c = .commandByte 0x08) (quiet : s.control.lifecycle = .quiet) :
    ControlMove s c { s.control with
      cause := .noCause, joinTimer := some s.joinLength, lifecycle := .joining }
  | run (row : c = .joinTimerExpiry) (joining : s.control.lifecycle = .joining) :
    ControlMove s c { s.control with joinTimer := none, lifecycle := .running }
  | quieten {cause : QuietCause}
    (why : (c = .bitError ∧ cause = .lineFault ∧ s.line.tx ≠ .free) ∨
      ((frameBytes c).isSome = true ∧ cause = .clash ∧ s.own.isSome = true ∧
        (s.control.lifecycle = .joining ∨ s.control.lifecycle = .running))) :
    ControlMove s c { s.control with lifecycle := .quiet, cause := cause, joinTimer := none }
  | restart {pending : Bool} (row : c = .frameComplete) :
    ControlMove s c { s.control with restartPending := pending }

@[simp] theorem State.enterQuiet_control (s : State) (cause : QuietCause) : (s.enterQuiet cause).control =
    { s.control with lifecycle := .quiet, cause := cause, joinTimer := none } := rfl

/-- The state at the declared end of a frame, with the reception ended. -/
def State.afterReception (s : State) (raw : List Byte) : State :=
  (s.told (s.line.bytes == raw) (lineBits raw) Medium.released).endReception

theorem State.afterReception_frame (s : State) (raw : List Byte) :
    s.changesOnly (s.afterReception raw) [.line, .medium] :=
  State.changesOnly_trans (s.told_frame _ _ _) (State.changesOnly_mono (State.endReception_frame _)
    (by decide))

@[simp] theorem State.afterReception_control (s : State) (raw : List Byte) :
    (s.afterReception raw).control = s.control :=
  s.afterReception_frame raw .control (by decide)

/-- What the end of a whole frame can do: nothing more of an echo or of a valid frame in UNCONFIGURED or QUIET,
a count, a clash that makes QUIET, or a frame of a peer passed on. -/
theorem State.takeFrame_cases (s : State) (raw : List Byte) :
    s.takeFrame raw = s.afterReception raw ∨
      s.takeFrame raw = (s.afterReception raw).countCrc ∨
      s.takeFrame raw = (s.afterReception raw).countFormat ∨
      ((s.control.lifecycle = .joining ∨ s.control.lifecycle = .running) ∧ s.own.isSome = true ∧
        s.takeFrame raw = (s.afterReception raw).enterQuiet .clash) ∨
      ∃ p f, checkFrame raw = .valid p f ∧ s.own ≠ some p ∧
        s.control.lifecycle ≠ .unconfigured ∧ s.line.echo = false ∧
        s.takeFrame raw = (s.afterReception raw).passOn p f := by
  have hcontrol := s.afterReception_control raw
  have hown : (s.afterReception raw).own = s.own := by rw [State.own, hcontrol]; rfl
  cases hecho : s.line.echo with
  | true => exact .inl (by rw [State.takeFrame, hecho]; rfl)
  | false =>
    have htake : s.takeFrame raw = (s.afterReception raw).takeChecked (checkFrame raw) := by
      rw [State.takeFrame, hecho]; rfl
    cases hcheck : checkFrame raw with
    | crcError => exact .inr (.inl (by rw [htake, hcheck]; rfl))
    | formatError => exact .inr (.inr (.inl (by rw [htake, hcheck]; rfl)))
    | valid p f =>
      have hvalid : s.takeFrame raw = (s.afterReception raw).takeValid p f := by
        rw [htake, hcheck]; rfl
      rw [State.takeValid, hown, hcontrol] at hvalid
      by_cases hp : s.own = some p
      · rw [if_pos hp, State.clash, hcontrol] at hvalid
        cases hl : s.control.lifecycle <;> rw [hl] at hvalid
        · exact .inl hvalid
        · exact .inr (.inr (.inr (.inl ⟨.inl rfl, by simp [hp], hvalid⟩)))
        · exact .inr (.inr (.inr (.inl ⟨.inr rfl, by simp [hp], hvalid⟩)))
        · exact .inl hvalid
      · rw [if_neg hp] at hvalid
        by_cases hl : s.control.lifecycle = .unconfigured
        · exact .inl (by simpa [hl] using hvalid)
        · exact .inr (.inr (.inr (.inr ⟨p, f, rfl, hp, hl, rfl, by simpa [hl] using hvalid⟩)))

theorem State.takeCompletion_control (s : State) (src : Source) :
    ∃ pending, (s.takeCompletion src).control = { s.control with restartPending := pending } := by
  cases src with
  | hello restart => exact ⟨_, rfl⟩
  | event n => exact ⟨s.control.restartPending, s.eventSent_frame n .control (by decide)⟩
  | time => exact ⟨s.control.restartPending, rfl⟩
  | originAnswer => exact ⟨s.control.restartPending, rfl⟩
  | proxyAnswer p seqs => exact ⟨s.control.restartPending, rfl⟩
  | repairReq p seqs => exact ⟨s.control.restartPending, rfl⟩

/-- What each command leaves in Station Control. -/
theorem Taken.control {c : Instr} {s u : State} (h : Taken s c u) : ControlMove s c u.control := by
  by_cases hc : Block.control ∉ touches c
  · have hsame : u.control = s.control := h.frame .control hc
    rw [hsame]; exact .same
  cases h with
  | deviceReset => exact .reset rfl
  | @resetRelease adr br held =>
    have hplace (t : State) : t.placeSelf.control = t.control := by
      unfold State.placeSelf; split <;> rfl
    have hrelease : (s.release adr br).control =
      { s.control with address := adr, bitRate := bitRateOf br } := hplace _
    rw [hrelease]; exact .release rfl held
  | start row _ =>
    unfold State.takeStart
    split
    · split
      · exact .start row (beq_iff_eq.mp ‹_›) ‹_›
      · exact .same
    · exact .same
  | rejoin row _ =>
    unfold State.takeRejoin
    split
    · exact .rejoin row (beq_iff_eq.mp ‹_›)
    · exact .same
  | configure _ whole =>
    unfold State.takeConfigure
    split
    · split
      · exact .same
      · exact .configure rfl (beq_iff_eq.mp ‹_›) whole ‹_›
    · exact .same
  | joinExpiry due =>
    refine .run rfl ?_
    simp only [State.joinExpiryDue, Bool.and_eq_true, beq_iff_eq] at due
    exact due.1.2
  | @receivedFrame _ raw row _ _ _ =>
    rcases s.takeFrame_cases raw with ht | ht | ht | ⟨hl, hown, ht⟩ | ⟨p, f, -, -, -, -, ht⟩ <;> rw [ht]
    · rw [State.afterReception_control]; exact .same
    · exact s.afterReception_control raw ▸ .same
    · exact s.afterReception_control raw ▸ .same
    · rw [State.enterQuiet_control, State.afterReception_control]
      exact .quieten (.inr ⟨by simp [row], rfl, hown, hl⟩)
    · have hpass : ((s.afterReception raw).passOn p f).control = (s.afterReception raw).control :=
        State.passOn_frame _ p f .control (by decide)
      rw [hpass, State.afterReception_control]; exact .same
  | bitError busy =>
    unfold State.abortFrame
    simp only
    split
    · exact .quieten (.inl ⟨rfl, rfl, busy⟩)
    · exact .same
  | frameComplete _ _ =>
    have hend : (s.sentUpTo s.comparedBits).endSending.control = s.control :=
      s.sentUpTo_frame _ .control (by decide)
    unfold State.completeFrame
    split
    · obtain ⟨pending, hp⟩ := (s.sentUpTo s.comparedBits).endSending.takeCompletion_control _
      rw [hp, hend]; exact .restart rfl
    · rw [hend]; exact .same
  | status _ _ => exact .same
  | peers _ _ => exact .same
  | inputs _ _ => exact .same
  | clearCounts _ _ => exact .same
  | badCommand _ _ => exact .same
  | readOperands _ _ => exact .same
  | endResponse _ _ =>
    have hsame : s.endResponse.control = s.control := s.endResponse_frame .control (by decide)
    rw [hsame]; exact .same
  | _ => exact absurd (by simp [touches, offerBlocks]) hc

/-! ### The configuration record (R168, R169, R207) -/

/-- A record has no bad field exactly where every field is within its values. -/
theorem firstBad_eq_none_iff (index : Nat) (vs : List Nat) :
    firstBad index vs = none ↔ ∀ k, k < vs.length → fieldOk (index + k) (vs.getD k 0) = true := by
  induction vs generalizing index with
  | nil => simp [firstBad]
  | cons v vs ih =>
    rw [firstBad]
    split
    · rename_i hv
      rw [ih]
      constructor
      · rintro h (_ | k) hk
        · simpa using hv
        · have := h k (by simpa using hk)
          simpa [Nat.add_assoc, Nat.add_comm 1] using this
      · intro h k hk
        have := h (k + 1) (by simpa using hk)
        simpa [Nat.add_assoc, Nat.add_comm 1] using this
    · rename_i hv
      simp only [reduceCtorEq, false_iff, not_forall]
      exact ⟨0, by simp, by simpa using hv⟩

theorem configFields_length {record : List Byte} (h : record.length = configBytes) :
    (configFields record).length = 86 := by
  match record, h with
  | a :: b :: rest, h =>
    simp only [List.length_cons, configBytes] at h
    simp only [configFields, List.length_cons, List.length_map]
    omega

/-- The five fields of an input stand at five indices from 6 on. -/
theorem fieldOk_input (i k v : Nat) (hk : k < 5) : fieldOk (6 + 5 * i + k) v = inputFieldOk k v := by
  have hpos : (6 + 5 * i + k - 6) % 5 = k := by omega
  unfold fieldOk
  rw [hpos]
  simp only [show 6 + 5 * i + k ≠ 0 by omega, show 6 + 5 * i + k ≠ 1 by omega,
    show 6 + 5 * i + k ≠ 2 by omega, show 6 + 5 * i + k ≠ 3 by omega,
    show 6 + 5 * i + k ≠ 4 by omega, show 6 + 5 * i + k ≠ 5 by omega, if_false]

/-- A record without a bad field is one the station accepts. -/
theorem configOf_inRange {fields : List Nat} (hlen : fields.length = 86)
    (hgood : firstBad 0 fields = none) : (configOf fields).inRange := by
  have hok (k : Nat) (hk : k < 86) : fieldOk k (fields.getD k 0) = true := by
    simpa using (firstBad_eq_none_iff 0 fields).mp hgood k (hlen ▸ hk)
  have h0 := hok 0 (by decide)
  have h1 := hok 1 (by decide)
  have h2 := hok 2 (by decide)
  have h3 := hok 3 (by decide)
  have h4 := hok 4 (by decide)
  have h5 := hok 5 (by decide)
  simp only [fieldOk, Bool.and_eq_true, decide_eq_true_eq, beq_iff_eq, if_true, one_ne_zero,
    if_false, OfNat.ofNat_ne_zero, OfNat.ofNat_ne_one, Nat.reduceEqDiff] at h0 h1 h2 h3 h4 h5
  refine ⟨h0.1.1, h0.1.2, h0.2, h1.1, h1.2, h2.1, h2.2, h3.1, h3.2, h4, h5.1, h5.2, fun i => ?_⟩
  have hinput (k : Nat) (hk : k < 5) :
      inputFieldOk k (fields.getD (6 + 5 * i.val + k) 0) = true := by
    rw [← fieldOk_input i.val k _ hk]
    exact hok _ (by omega)
  have hholdoff := hinput 2 (by decide)
  have hlimit := hinput 3 (by decide)
  have hwindow := hinput 4 (by decide)
  simp only [inputFieldOk, OfNat.ofNat_ne_zero, OfNat.ofNat_ne_one, Nat.reduceEqDiff, if_false,
    if_true, decide_eq_true_eq, Bool.or_eq_true, Bool.and_eq_true, beq_iff_eq]
    at hholdoff hlimit hwindow
  simp only [configOf, Vector.getElem_ofFn]
  exact ⟨hholdoff, hlimit, hwindow⟩

end Sys2Proof.Machine

namespace Sys2Proof.ControlInvariants

open Sys2Proof Sys2Proof.Machine

theorem default_inRange : ConfigRecord.default.inRange := by
  refine ⟨by decide, by decide, by decide, by decide, by decide, by decide, by decide, by decide,
    by decide, by decide, by decide, by decide, fun i => ?_⟩
  have : ConfigRecord.default.inputs[i.val] = InputConfig.default := by
    simp [ConfigRecord.default]
  rw [this]
  exact ⟨by decide, .inl rfl, by decide, by decide⟩

theorem taken_keeps_config {c : Instr} {s u : State} (hs : s.ConfigKept) (h : Taken s c u) :
    u.ConfigKept := by
  have hmove := h.control
  unfold State.ConfigKept
  generalize u.control = k at hmove
  cases hmove with
  | reset _ => exact default_inRange
  | configure _ _ whole good => exact configOf_inRange (configFields_length whole) good
  | _ => exact hs

/-- Settles O20: the configuration, the straps and the life-cycle state by the moves of Station Control. -/
theorem stationKeepsItsSettings : Obligations.StationKeepsItsSettings := by
  refine ⟨fun s t hs h => ?config, fun c s t hreset hout h => ?kept, fun c s t h hne => ?moves⟩
  case config =>
    refine step_keeps_blocks (Pre := State.ConfigKept) (P := State.ConfigKept) (bs := [.control])
      (fun hsame hP => ?_) (by decide) id (fun _ hP => hP) (fun hP _ hu => taken_keeps_config hP hu)
      (fun {s} hP hout => ?_) hs h
    · have hcontrol : _ = _ := hsame .control (by simp)
      unfold State.ConfigKept
      rw [hcontrol]; exact hP
    · rw [State.microsecond, if_neg (by simp [hout])]
      exact hP
  case kept =>
    rcases exec_cases h with rfl | ⟨u, hu, rfl⟩
    · exact ⟨rfl, rfl, fun _ => ⟨rfl, rfl⟩⟩
    rw [State.settleIrq_control]
    have hmove := hu.control
    generalize u.control = k at hmove
    cases hmove with
    | reset row => exact absurd row hreset
    | release _ held => simp [held] at hout
    | configure _ unconfigured _ _ => exact ⟨rfl, rfl, absurd unconfigured⟩
    | start _ unconfigured _ => exact ⟨rfl, rfl, absurd unconfigured⟩
    | _ => exact ⟨rfl, rfl, fun _ => ⟨rfl, rfl⟩⟩
  case moves =>
    rcases exec_cases h with rfl | ⟨u, hu, rfl⟩
    · exact absurd rfl hne
    rw [State.settleIrq_control] at hne ⊢
    have hmove := hu.control
    generalize u.control = k at hmove hne
    cases hmove with
    | reset row => exact .inl ⟨row, rfl⟩
    | start row unconfigured _ => exact .inr (.inl ⟨row, unconfigured, rfl⟩)
    | run row joining => exact .inr (.inr (.inl ⟨row, joining, rfl⟩))
    | rejoin row quiet => exact .inr (.inr (.inr (.inl ⟨row, quiet, rfl⟩)))
    | quieten why =>
      rcases why with ⟨row, rfl, -⟩ | ⟨row, rfl, -, hl⟩
      · exact .inr (.inr (.inr (.inr (.inl ⟨row, rfl, rfl⟩))))
      · exact .inr (.inr (.inr (.inr (.inr ⟨row, hl, rfl, rfl⟩))))
    | _ => exact absurd rfl hne

end Sys2Proof.ControlInvariants
end

section
namespace Sys2Proof.Machine

open Sys2Proof

/-! ### What the commands do to the Outbound Queue and the Retained History -/

/-- `t` is made of `s` by own records of the Capture Unit; in between queue, history, address and device reset
stay. -/
inductive Captures (s : State) : State → Prop
  | refl : Captures s s
  | apart {t u : State} (before : Captures s t) (queue : u.outbound = t.outbound)
    (history : u.history = t.history) (control : u.control = t.control)
    (inReset : u.inReset = t.inReset) : Captures s u
  | append {t : State} (before : Captures s t) (stamp : Stamp) (q : TimeState) (d : Detail)
    (kind : d.isNetwork = true) (whole : d ≠ .loss 0)
    (room : t.outbound.records.length < Config.queueCapacity) : Captures s (t.appendOwn stamp q d)
  | lose {t : State} (before : Captures s t)
    (full : Config.queueCapacity ≤ t.outbound.records.length) :
    Captures s { t with outbound := { t.outbound with lost := satInc t.outbound.lost } }

theorem Captures.trans {s t u : State} (h : Captures s t) (h' : Captures t u) : Captures s u := by
  induction h' with
  | refl => exact h
  | apart _ queue history control inReset ih => exact ih.apart queue history control inReset
  | append _ stamp q d kind whole room ih => exact ih.append stamp q d kind whole room
  | lose _ full ih => exact ih.lose full

theorem Captures.foldl {α : Type} {f : State → α → State} (hf : ∀ (s : State) a, Captures s (f s a))
    (xs : List α) (s : State) : Captures s (xs.foldl f s) := by
  induction xs generalizing s with
  | nil => exact .refl
  | cons x xs ih => exact (hf s x).trans (ih (f s x))

theorem State.capture_captures (s : State) (stamp : Stamp) (q : TimeState) {d : Detail}
    (kind : d.isNetwork = true) (whole : d ≠ .loss 0) : Captures s (s.capture stamp q d) := by
  rcases s.capture_cases stamp q d with ⟨room, h⟩ | ⟨full, h⟩ <;> rw [h]
  · exact Captures.refl.append stamp q d kind whole room
  · exact Captures.refl.lose full

theorem State.setInput_captures (s : State) (i : Fin 16) (x : Input) : Captures s (s.setInput i x) :=
  Captures.refl.apart rfl rfl rfl rfl

theorem State.setInput_capture_captures (s : State) (i : Fin 16) (x : Input) (stamp : Stamp)
    (q : TimeState) {d : Detail} (kind : d.isNetwork = true) (whole : d ≠ .loss 0) :
    Captures s ((s.setInput i x).capture stamp q d) :=
  (s.setInput_captures i x).trans (State.capture_captures _ _ _ kind whole)

theorem State.transition_captures (s : State) (i : Fin 16) (level : Bool) (stamp : Stamp)
    (q : TimeState) (snap : Line16) : Captures s (s.transition i level stamp q snap) := by
  unfold State.transition
  simp only
  split
  · exact .refl
  · exact s.setInput_captures i _
  · split
    · exact s.setInput_capture_captures i _ _ _ rfl (by simp)
    · split
      · exact s.setInput_capture_captures i _ _ _ rfl (by simp)
      · exact s.setInput_captures i _
  · split
    · exact s.setInput_capture_captures i _ _ _ rfl (by simp)
    · exact s.setInput_captures i _

theorem State.readDirect_captures (s : State) (i : Fin 16) : Captures s (s.readDirect i) := by
  unfold State.readDirect
  split
  · exact (s.setInput_captures i _).trans (State.transition_captures _ _ _ _ _ _)
  · exact .refl

theorem State.sampleInput_captures (s : State) (i : Fin 16) : Captures s (s.sampleInput i) := by
  unfold State.sampleInput
  split
  · split
    · exact .refl
    · exact s.setInput_captures i _
  · simp only
    split
    · exact (s.setInput_captures i _).trans (State.transition_captures _ _ _ _ _ _)
    · exact s.setInput_captures i _

theorem State.sampleTick_captures (s : State) : Captures s
    ({ s with ticks := { s.ticks with sample := Config.samplePeriod } } : State).sampleAll := by
  have hticks : Captures s { s with ticks := { s.ticks with sample := Config.samplePeriod } } :=
    Captures.refl.apart rfl rfl rfl rfl
  have hall (t : State) : Captures t t.sampleAll := by
    have hchoices : Captures t { t with choices := t.choices + t.sampledInputs.length } :=
      Captures.refl.apart rfl rfl rfl rfl
    exact hchoices.trans (Captures.foldl State.sampleInput_captures _ _)
  exact hticks.trans (hall _)

theorem State.endHoldoff_captures (s : State) (i : Fin 16) : Captures s (s.endHoldoff i) := by
  unfold State.endHoldoff
  simp only
  split
  · exact s.setInput_capture_captures i _ _ _ rfl (by simp)
  · exact s.setInput_captures i _

theorem State.takeMark_captures (s : State) (tag : Byte) : Captures s (s.takeMark tag) := by
  have hrespond (t : State) (c : Option HostCommand) (bs : List Byte) : Captures t (t.respond c bs) :=
    Captures.refl.apart rfl rfl rfl rfl
  unfold State.takeMark
  split
  · exact hrespond _ _ _
  · split
    · rename_i hroom
      exact (Captures.refl.append _ _ _ rfl (by simp) (by simpa [State.queueHasRoom] using hroom)).trans
        (hrespond _ _ _)
    · exact hrespond _ _ _

/-- What an EVENT frame with `n` records takes along at its completion: they retire, and lost captures are
reported. -/
theorem State.eventSent_cases (s : State) (n : Nat) :
    (s.outbound.lost = 0 ∧ s.eventSent n = s.retire n) ∨
      (s.outbound.lost ≠ 0 ∧ s.eventSent n =
        ({ s.retire n with outbound := { (s.retire n).outbound with lost := 0 } } : State).appendOwn
          s.now s.timebase.timeState (.loss s.outbound.lost)) := by
  unfold State.eventSent State.reportLoss
  split
  · exact .inl ⟨by assumption, rfl⟩
  · exact .inr ⟨by assumption, rfl⟩

/-- What each command does to queue and history: nothing, the Capture Unit's records outside device reset, the
completion of an EVENT frame, or device reset. -/
theorem Taken.captures {c : Instr} {s u : State} (h : Taken s c u) :
    (u.outbound = s.outbound ∧ u.history = s.history) ∨
      (s.inReset = false ∧ Captures s u ∧ u.control = s.control) ∨
      (∃ (t : State) (f : Prepared) (n : Nat), s.line.tx = .sending ∧ s.line.prepared = some f ∧
        f.source = .event n ∧ t.outbound = s.outbound ∧ t.history = s.history ∧
        t.control = s.control ∧ u.outbound = (t.eventSent n).outbound ∧
        u.history = (t.eventSent n).history ∧ u.control = s.control) ∨
      u = s.hold := by
  have hmove := h.control
  by_cases hc : Block.outbound ∉ touches c
  · refine .inl ⟨h.frame .outbound hc, h.frame .history ?_⟩
    cases c <;> simp_all [touches, receptionBlocks, offerBlocks]
  cases h with
  | deviceReset => exact .inr (.inr (.inr rfl))
  | mark reads =>
    simp only [State.atOperands, Bool.and_eq_true, Bool.not_eq_true'] at reads
    exact .inr (.inl ⟨reads.1.1, s.takeMark_captures _, s.takeMark_frame _ .control (by decide)⟩)
  | @pinRead i _ _ =>
    by_cases hdue : s.directReadDue i = true
    · have hout : s.inReset = false := by
        simp only [State.directReadDue, Bool.and_eq_true, Bool.not_eq_true'] at hdue
        exact hdue.1.1.1.1
      exact .inr (.inl ⟨hout, s.readDirect_captures _, s.readDirect_frame _ .control (by decide)⟩)
    · rw [State.readDirect, if_neg hdue]
      exact .inl ⟨rfl, rfl⟩
  | pinMove _ => exact .inl ⟨rfl, rfl⟩
  | sampleTick due =>
    simp only [State.sampleTickDue, Bool.and_eq_true, Bool.not_eq_true'] at due
    exact .inr (.inl ⟨due.1, s.sampleTick_captures, State.sampleAll_frame _ .control (by decide)⟩)
  | holdoffExpiry due =>
    simp only [State.holdoffDue, Bool.and_eq_true, Bool.not_eq_true'] at due
    exact .inr (.inl ⟨due.1.1, s.endHoldoff_captures _, s.endHoldoff_frame _ .control (by decide)⟩)
  | quietExpiry due =>
    simp only [State.quietDue, Bool.and_eq_true, Bool.not_eq_true'] at due
    exact .inr (.inl ⟨due.1.1, s.setInput_capture_captures _ _ _ _ rfl (by simp),
      s.setInput_capture_frame _ _ _ _ _ .control (by decide)⟩)
  | frameComplete sending _ =>
    have hend : s.changesOnly (s.sentUpTo s.comparedBits).endSending [.line] :=
      State.changesOnly_trans (s.sentUpTo_frame _) (State.setLine_frame _ _)
    have hqueue : (s.sentUpTo s.comparedBits).endSending.outbound = s.outbound :=
      hend .outbound (by decide)
    have hhistory : (s.sentUpTo s.comparedBits).endSending.history = s.history :=
      hend .history (by decide)
    have hcontrol : (s.sentUpTo s.comparedBits).endSending.control = s.control :=
      hend .control (by decide)
    unfold State.completeFrame
    split
    · rename_i f hf
      cases hsource : f.source with
      | event n =>
        refine .inr (.inr (.inl ⟨_, f, n, sending, hf, hsource, hqueue, hhistory, hcontrol, rfl, rfl,
          ?_⟩))
        exact (State.eventSent_frame _ n .control (by decide)).trans hcontrol
      | _ => exact .inl ⟨hqueue, hhistory⟩
    · exact .inl ⟨hqueue, hhistory⟩
  | receivedFrame row _ _ _ =>
    cases c <;> simp_all [touches, receptionBlocks, offerBlocks, frameBytes]
  | endResponse row _ =>
    rcases row with ⟨rfl, -⟩ | ⟨rfl, -⟩ <;> simp [touches] at hc
  | status row _ => rcases row with rfl | rfl <;> simp [touches] at hc
  | start row _ => rcases row with rfl | rfl <;> simp [touches] at hc
  | peers row _ => rcases row with rfl | rfl <;> simp [touches] at hc
  | inputs row _ => rcases row with rfl | rfl <;> simp [touches] at hc
  | rejoin row _ => rcases row with rfl | rfl <;> simp [touches] at hc
  | clearCounts row _ => rcases row with rfl | rfl <;> simp [touches] at hc
  | badCommand row _ => rcases row with rfl | rfl <;> simp [touches] at hc
  | _ => exact absurd (by simp [touches, offerBlocks]) hc

end Sys2Proof.Machine
end

section
namespace Sys2Proof.Machine

open Sys2Proof

/-! ### What reading bits leaves of the Line Controller -/

/-- `l'` is `l` but for its runs, its bit time, the bits and bytes read, and the bits compared. -/
def LineControl.readsTo (l l' : LineControl) : Prop :=
  l' = { l with
    releasedRun := l'.releasedRun, drivenRun := l'.drivenRun, bitPhase := l'.bitPhase, bits := l'.bits,
    bytes := l'.bytes, sent := l'.sent, misread := l'.misread }

theorem LineControl.readsTo_refl (l : LineControl) : l.readsTo l := rfl

theorem LineControl.readsTo_trans {l m n : LineControl} (h : l.readsTo m) (h' : m.readsTo n) :
    l.readsTo n := by
  unfold LineControl.readsTo at *
  rw [h'] ; rw [h]

theorem LineControl.readBit_readsTo (l : LineControl) (sent level : Bool) :
    l.readsTo (l.readBit sent level) := by
  unfold LineControl.readsTo LineControl.readBit LineControl.compareBit LineControl.takeBit
    LineControl.countRun
  split_ifs <;> rfl

theorem LineControl.readBits_readsTo (l : LineControl) (bits : List Bool) :
    l.readsTo (bits.foldl (fun l b => l.readBit b b) l) := by
  induction bits generalizing l with
  | nil => exact l.readsTo_refl
  | cons b bits ih => exact LineControl.readsTo_trans (l.readBit_readsTo b b) (ih _)

theorem State.sentUpTo_readsTo (s : State) (n : Nat) : s.line.readsTo (s.sentUpTo n).line := by
  unfold State.sentUpTo
  split
  · exact LineControl.readsTo_refl _
  · have hbits := LineControl.readBits_readsTo s.line.fromSof (s.sendingBits.take n)
    have hsof : s.line.readsTo s.line.fromSof := rfl
    exact LineControl.readsTo_trans (LineControl.readsTo_trans hsof hbits) rfl

/-- A byte takes at most ten bits. -/
theorem LineControl.readBit_bits (l : LineControl) (sent level : Bool) (h : l.bits.length ≤ 10) :
    (l.readBit sent level).bits.length ≤ 10 ∧
      (l.rx ≠ .receiving → (l.readBit sent level).bits = l.bits ∧
        (l.readBit sent level).bytes = l.bytes) ∧
      (l.tx = .free → (l.readBit sent level).sent = l.sent ∧
        (l.readBit sent level).misread = l.misread) ∧
      (l.tx ≠ .free → sent = level → (l.readBit sent level).sent = l.sent + 1 ∧
        (l.readBit sent level).misread = l.misread) := by
  unfold LineControl.readBit LineControl.compareBit LineControl.takeBit LineControl.countRun
  split_ifs <;> simp_all <;> omega

end Sys2Proof.Machine
end

section
namespace Sys2Proof.Machine

open Sys2Proof

/-! ### What reception and rounds leave of the Timebase -/

/-- The Timebase but for the freshness of the samples. -/
def Timebase.sameButFresh (b b' : Timebase) : Prop := b' = { b with freshness := b'.freshness }

theorem State.takeContent_timebase (s : State) (p : Station) (f : Frame) :
    s.timebase.sameButFresh (s.takeContent p f).timebase := by
  have hsame {t u : State} {bs : List Block} (h : t.changesOnly u bs) (hb : Block.timebase ∉ bs) :
      u.timebase = t.timebase := h .timebase hb
  have hlearn (t : State) (n : Seq) : (t.learnNumbering p n).timebase = t.timebase := by
    unfold State.learnNumbering; split <;> rfl
  have hcompare (t : State) (x : Stamp) (n : Seq) : (t.compareNext p x n).timebase = t.timebase := by
    unfold State.compareNext
    split
    · rfl
    · split
      · exact hsame (t.advance_frame p _ _ _) (by decide)
      · split <;> rfl
  unfold State.takeContent
  split
  · rw [hlearn]; rfl
  · unfold State.takeTime
    rw [hcompare]
    unfold State.takeSample
    split <;> simp only [State.takeTimeState, State.setPeer_timebase, hlearn] <;> rfl
  · rw [hsame (s.takeRecords_frame p _ _) (by decide)]; rfl
  · rw [hsame (s.takeRecords_frame _ _ _) (by decide)]; rfl
  · rfl
  · rfl

theorem State.passOn_timebase (s : State) (p : Station) (f : Frame) :
    s.timebase.sameButFresh (s.passOn p f).timebase := by
  have hsender : (s.takeSender p f).timebase = s.timebase := s.takeSender_frame p f .timebase (by decide)
  have hrepair (t : State) : (t.takeRepair p f).timebase = t.timebase :=
    t.takeRepair_frame p f .timebase (by decide)
  have hhorizon (t : State) : t.computeHorizon.timebase = t.timebase :=
    t.computeHorizon_frame .timebase (by decide)
  have hcontent := (s.takeSender p f).takeContent_timebase p f
  unfold State.passOn
  simp only
  split
  · rw [hhorizon, hrepair, ← hsender]; exact hcontent
  · rw [hrepair, ← hsender]; exact hcontent

theorem State.note_timebase (s : State) (d : Detail) : (s.note d).timebase = s.timebase :=
  s.note_frame d .timebase (by decide)

theorem State.noteStep_timebase (s : State) (a : Int) : (s.noteStep a).timebase = s.timebase := by
  unfold State.noteStep
  split
  · rfl
  · exact s.note_timebase _

/-- What a round end applies leaves the counter, the round, its timer, the freshness, the recorded SOF and TIME
owed. -/
theorem State.applyRound_timebase (s : State) : s.applyRound.timebase = { s.timebase with
    correction := s.applyRound.timebase.correction, timeState := s.applyRound.timebase.timeState,
    slewRemainder := s.applyRound.timebase.slewRemainder, lockRun := s.applyRound.timebase.lockRun,
    releaseRun := s.applyRound.timebase.releaseRun, holdover := s.applyRound.timebase.holdover } := by
  have hchange (t : State) (x : TimeState) : (t.changeTimeState x).timebase = { t.timebase with
      timeState := x, lockRun := 0, releaseRun := 0, holdover := 0
      slewRemainder := if t.timebase.timeState == .locked then 0 else t.timebase.slewRemainder } := rfl
  unfold State.applyRound
  split
  · split
    · rfl
    · unfold State.holdOver; simp only; split <;> simp [hchange]
    · unfold State.holdOver; simp only; split <;> simp [hchange]
  · simp only
    split
    · rw [State.noteStep_timebase]; rfl
    · rw [State.noteStep_timebase]
      unfold State.acquireRound; simp only; split <;> simp [hchange, State.stepBy]
    · unfold State.lockedRound; simp only; split <;> simp [hchange]

theorem State.slew_timebase (s : State) : s.slew.timebase = { s.timebase with
    correction := s.slew.timebase.correction, slewRemainder := s.slew.timebase.slewRemainder } := by
  unfold State.slew
  split
  · rfl
  · split <;> rfl

/-! ### LTX at the end of a frame -/

theorem lineBits_append (xs ys : List Byte) : lineBits (xs ++ ys) = lineBits xs ++ lineBits ys := by
  simp [lineBits]

theorem byteBits_length (b : Byte) : (byteBits b).length = 10 := by
  simp [byteBits, dataBits]

theorem lineBits_length (bs : List Byte) : (lineBits bs).length = 10 * bs.length := by
  induction bs with
  | nil => rfl
  | cons b bs ih =>
    have : lineBits (b :: bs) = byteBits b ++ lineBits bs := rfl
    rw [this, List.length_append, byteBits_length, ih, List.length_cons]
    omega

/-- The last bit of a frame is a released stop bit. -/
theorem lineBits_last (bs : List Byte) : (lineBits bs).getD ((lineBits bs).length - 1) true = true := by
  rcases List.eq_nil_or_concat bs with rfl | ⟨front, b, rfl⟩
  · rfl
  · have hb : lineBits [b] = (false :: dataBits b) ++ [true] := by simp [lineBits, byteBits]
    rw [List.concat_eq_append, lineBits_append, hb, ← List.append_assoc]
    simp [List.getD_eq_getElem?_getD]

/-- The bit after the compared ones is the released stop bit of the last byte. -/
theorem State.sendingBits_stop (s : State) : s.sendingBits.getD s.comparedBits true = true := by
  unfold State.comparedBits State.sendingBits
  cases s.lineBytes with
  | none => rfl
  | some bs => exact lineBits_last bs

/-- Reading back `n` bits that match counts `n` of them. -/
theorem LineControl.readBits_sent (l : LineControl) (bits : List Bool) (h : l.tx ≠ .free) :
    (bits.foldl (fun l b => l.readBit b b) l).sent = l.sent + bits.length ∧
      (bits.foldl (fun l b => l.readBit b b) l).misread = l.misread := by
  induction bits generalizing l with
  | nil => exact ⟨rfl, rfl⟩
  | cons b bits ih =>
    have hkeep : (l.readBit b b).tx = l.tx := by rw [l.readBit_readsTo b b]
    have hstep : (l.readBit b b).sent = l.sent + 1 ∧ (l.readBit b b).misread = l.misread := by
      unfold LineControl.readBit LineControl.compareBit LineControl.takeBit LineControl.countRun
      split_ifs <;> simp_all
    obtain ⟨hsent, hmis⟩ := ih (l.readBit b b) (hkeep ▸ h)
    rw [List.foldl_cons, hsent, hmis, hstep.1, hstep.2, List.length_cons]
    exact ⟨by omega, rfl⟩

/-- As many bits as a row tells have then been read back, where the frame has so many. -/
theorem State.sentUpTo_sent (s : State) {n : Nat} (hn : n ≤ s.sendingBits.length)
    (h : s.line.tx ≠ .free) : (s.sentUpTo n).line.sent = n ∧
      (s.sentUpTo n).line.misread = s.line.misread := by
  unfold State.sentUpTo
  split
  · exact ⟨by assumption, rfl⟩
  · have hread := s.line.fromSof.readBits_sent (s.sendingBits.take n) h
    simp only [List.length_take, LineControl.fromSof] at hread ⊢
    exact ⟨by rw [hread.1]; omega, hread.2⟩

end Sys2Proof.Machine
end

section
namespace Sys2Proof.Machine

open Sys2Proof

/-! ### The transmit selection (R148) -/

theorem State.selectLow_source {s : State} {proxy : List ProxyEntry} {sel : Selection}
    (h : s.selectLow proxy = some sel) :
    (∃ p seqs, sel.source = .repairReq p seqs) ∨ (∃ n, sel.source = .event (n + 1)) := by
  unfold State.selectLow at h
  split at h
  · exact .inl ⟨_, _, by rw [← Option.some.inj h]⟩
  · split at h
    · contradiction
    · rename_i hsome
      have hne : s.eventRecords ≠ [] := by
        intro hnil; simp [hnil] at hsome
      obtain ⟨r, rs, hrs⟩ := List.exists_cons_of_ne_nil hne
      exact .inr ⟨rs.length, by rw [← Option.some.inj h, hrs]; rfl⟩

/-- What a selection's supplier is: HELLO while it is owed, and an EVENT frame has a record. -/
theorem State.select_source {s : State} {sel : Selection} (h : s.select = some sel) :
    (s.line.helloOwed = true → sel.source = .hello s.control.restartPending) ∧
      sel.source ≠ .event 0 := by
  have hlow {proxy : List ProxyEntry} (hl : s.selectLow proxy = some sel) : sel.source ≠ .event 0 := by
    rcases State.selectLow_source hl with ⟨p, seqs, hsrc⟩ | ⟨n, hsrc⟩ <;> rw [hsrc] <;> simp
  unfold State.select at h
  split at h
  · rw [← Option.some.inj h]
    exact ⟨fun _ => rfl, by simp⟩
  · rename_i howed
    refine ⟨fun hh => absurd hh howed, ?_⟩
    split at h
    · rw [← Option.some.inj h]; simp
    · split at h
      · rw [← Option.some.inj h]; simp
      · unfold State.selectProxy at h
        split at h
        · rw [← Option.some.inj h]; simp
        · exact hlow h

/-! ### What rows tell of the line -/

/-- `l'` is `l`, or with other runs and another time in its bit while nothing is driven any more. -/
def LineControl.retimed (l l' : LineControl) : Prop :=
  l' = l ∨ ∃ released driven phase : Nat, l' = { l with
    releasedRun := released, drivenRun := driven, bitPhase := phase, driving := false }

theorem LineControl.runOver_eq (l : LineControl) (bits : List Bool) :
    ∃ released driven : Nat, l.runOver bits = { l with releasedRun := released, drivenRun := driven } := by
  have hfold (bits : List Bool) : ∀ l : LineControl, ∃ released driven : Nat,
      bits.foldl LineControl.countRun l = { l with releasedRun := released, drivenRun := driven } := by
    induction bits with
    | nil => exact fun l => ⟨l.releasedRun, l.drivenRun, rfl⟩
    | cons b bits ih =>
      intro l
      obtain ⟨m, n, h⟩ := ih (l.countRun b)
      refine ⟨m, n, ?_⟩
      rw [List.foldl_cons, h]
      cases b <;> rfl
  obtain ⟨m, n, h⟩ := hfold bits { l with releasedRun := 0, drivenRun := 0 }
  exact ⟨m, n, h⟩

theorem State.told_retimed (s : State) (read : Bool) (bits : List Bool) (m : Medium) :
    s.line.retimed (s.told read bits m).line := by
  unfold State.told
  split
  · exact .inl rfl
  · obtain ⟨a, b, h⟩ := s.line.runOver_eq bits
    exact .inr ⟨a, b, _, by rw [h]⟩

theorem State.toldRuns_retimed (s : State) (read : Bool) (released driven phase : Nat) (m : Medium) :
    s.line.retimed (s.toldRuns read released driven phase m).line := by
  unfold State.toldRuns
  split
  · exact .inl rfl
  · exact .inr ⟨_, _, _, rfl⟩

/-- A boundary is found only on a released line, on which this station drives no bit. -/
theorem State.findBoundary_retimed (s : State) : s.line.retimed s.findBoundary.line := by
  unfold State.findBoundary
  split
  · rename_i hfound
    have hdriving : s.line.driving = false := by
      simp only [Bool.and_eq_true, State.lrx, lineLevel, State.ltx] at hfound
      obtain ⟨⟨hfree, -⟩, hown, -⟩ := hfound
      simpa [hfree] using hown
    exact .inr ⟨s.releasedTimes, s.line.drivenRun, 0, by rw [← hdriving]⟩
  · exact .inl rfl

/-! ### The Line Controller by itself (R142 to R144, R147 to R152, R160) -/

/-- `LineKept` of a Line Controller, in a life-cycle state, with the middle of a bit time and TIME owed. -/
structure LineControl.Kept (lc : Lifecycle) (inReset : Bool) (middle : Nat) (owed : Bool)
    (l : LineControl) : Prop where
  sends : l.tx ≠ .free → lc = .running ∧ inReset = false ∧ l.rx = .receiving ∧ l.echo = true ∧
    l.prepared.isSome = true
  free : l.tx = .free → l.prepared = none ∧ l.sent = 0 ∧ l.misread = false
  apart : l.rx ≠ .receiving → l.bits = [] ∧ l.bytes = []
  short : l.bits.length ≤ 10
  stuck : l.stuck = true → l.rx = .waiting
  hello : l.helloOwed = true → lc = .running ∧
    ∀ f ∈ l.prepared, f.source = .hello true ∨ f.source = .hello false
  driving : l.driving = true → l.tx = .free ∧ lc = .running ∧ inReset = false ∧ l.rx ≠ .idle ∧
    middle ≤ l.bitPhase
  time : owed = true → lc = .running
  few : l.failures ≤ Config.failureLimit
  fault : l.failures = Config.failureLimit → lc = .quiet

theorem State.lineKept_iff (s : State) : s.LineKept ↔
    s.line.Kept s.control.lifecycle s.inReset s.control.bitRate.middle s.timebase.timeOwed := by
  have hread : s.bitRead = true ↔ s.control.bitRate.middle ≤ s.line.bitPhase := by
    simp [State.bitRead]
  unfold State.LineKept
  rw [hread]
  constructor
  · rintro ⟨h1, h2, h3, h4, h5, h6, h7, h8, h9, h10⟩
    exact ⟨h1, h2, h3, h4, h5, h6, h7, h8, h9, h10⟩
  · rintro ⟨h1, h2, h3, h4, h5, h6, h7, h8, h9, h10⟩
    exact ⟨h1, h2, h3, h4, h5, h6, h7, h8, h9, h10⟩

section
variable {lc : Lifecycle} {inReset : Bool} {middle : Nat} {owed : Bool} {l l' : LineControl}

theorem LineControl.Kept.retimed (h : l.Kept lc inReset middle owed) (hl : l.retimed l') :
    l'.Kept lc inReset middle owed := by
  rcases hl with rfl | ⟨a, b, c, rfl⟩
  · exact h
  · exact ⟨h.sends, h.free, h.apart, h.short, h.stuck, h.hello, nofun, h.time, h.few, h.fault⟩

/-- With nothing sent, driven or owed, the Line Controller is kept in every state but after 16 failures. -/
theorem LineControl.Kept.at_rest (h : l.Kept lc inReset middle owed) (hl : lc ≠ .running)
    {lc' : Lifecycle} {inReset' : Bool} {middle' : Nat}
    (hfault : l.failures = Config.failureLimit → lc' = .quiet) :
    l.Kept lc' inReset' middle' owed := by
  have hfree : l.tx = .free := by
    by_contra hf; exact hl (h.sends hf).1
  exact ⟨fun hf => absurd hfree hf, h.free, h.apart, h.short, h.stuck,
    fun ho => absurd (h.hello ho).1 hl, fun hd => absurd (h.driving hd).2.1 hl,
    fun ho => absurd (h.time ho) hl, h.few, hfault⟩

theorem LineControl.Kept.wait (h : l.Kept lc inReset middle owed) (hf : l.tx = .free) {b : Bool} :
    ({ l with stuck := b, rx := .waiting, echo := false, bits := [], bytes := [] } : LineControl).Kept
      lc inReset middle owed :=
  ⟨fun hs => absurd hf hs, h.free, fun _ => ⟨rfl, rfl⟩, by simp, fun _ => rfl, h.hello,
    fun hd => ⟨hf, (h.driving hd).2.1, (h.driving hd).2.2.1, nofun, (h.driving hd).2.2.2.2⟩,
    h.time, h.few, h.fault⟩

/-- A frame given up, with one failure more or less, leaves the transmitter FREE. -/
theorem LineControl.Kept.giveUp (h : l.Kept lc inReset middle owed) (hb : l.tx ≠ .free) {echo : Bool}
    {n : Nat} (hn : n < Config.failureLimit) :
    ({ l with tx := .free, prepared := none, sent := 0, misread := false, echo := echo,
              failures := n } : LineControl).Kept lc inReset middle owed :=
  ⟨fun hs => absurd rfl hs, fun _ => ⟨rfl, rfl, rfl⟩, h.apart, h.short, h.stuck,
    fun ho => ⟨(h.hello ho).1, nofun⟩, fun hd => absurd (h.driving hd).1 hb, h.time, Nat.le_of_lt hn,
    fun he => absurd he (Nat.ne_of_lt hn)⟩

theorem LineControl.Kept.quieten (h : l.Kept lc inReset middle owed) :
    l.quieten.Kept .quiet inReset middle false :=
  ⟨fun hs => absurd rfl hs, fun _ => ⟨rfl, rfl, rfl⟩, h.apart, h.short, h.stuck, nofun, nofun, nofun,
    h.few, fun _ => rfl⟩

theorem LineControl.readBit_bitPhase (l : LineControl) (sent level : Bool) :
    (l.readBit sent level).bitPhase = l.bitPhase := by
  unfold LineControl.readBit LineControl.compareBit LineControl.takeBit LineControl.countRun
  split_ifs <;> rfl

/-- Reading one bit keeps the Line Controller. -/
theorem LineControl.Kept.readBit (h : l.Kept lc inReset middle owed) (sent level : Bool) :
    (l.readBit sent level).Kept lc inReset middle owed := by
  obtain ⟨hshort, hapart, hfree, -⟩ := l.readBit_bits sent level h.short
  have hreads := l.readBit_readsTo sent level
  have hphase := l.readBit_bitPhase sent level
  generalize l.readBit sent level = l' at *
  rw [LineControl.readsTo] at hreads
  have hrx : l'.rx = l.rx := by rw [hreads]
  have htx : l'.tx = l.tx := by rw [hreads]
  have hprepared : l'.prepared = l.prepared := by rw [hreads]
  have hecho : l'.echo = l.echo := by rw [hreads]
  refine ⟨fun hs => ?_, fun hf => ?_, fun hr => ?_, hshort, ?_, ?_, ?_, h.time, ?_, ?_⟩
  · rw [hrx, hecho, hprepared]; exact h.sends (htx ▸ hs)
  · rw [htx] at hf
    rw [hprepared, (hfree hf).1, (hfree hf).2]; exact h.free hf
  · rw [hrx] at hr
    rw [(hapart hr).1, (hapart hr).2]; exact h.apart hr
  · rw [hreads]; exact h.stuck
  · rw [hreads]; exact h.hello
  · rw [hphase, hreads]; exact h.driving
  · rw [hreads]; exact h.few
  · rw [hreads]; exact h.fault

theorem LineControl.Kept.readBits (h : l.Kept lc inReset middle owed) (bits : List Bool) :
    (bits.foldl (fun l b => l.readBit b b) l).Kept lc inReset middle owed := by
  induction bits generalizing l with
  | nil => exact h
  | cons b bits ih => exact ih (h.readBit b b)

end

/-- A frame read back up to one of its bits, while it is sent, keeps the Line Controller. -/
theorem State.sentUpTo_kept {s : State} (h : s.LineKept) (hb : s.line.tx ≠ .free) (n : Nat) :
    (s.sentUpTo n).LineKept := by
  rw [State.lineKept_iff] at *
  unfold State.sentUpTo
  split
  · exact h
  · have hsof : s.line.fromSof.Kept s.control.lifecycle s.inReset s.control.bitRate.middle
        s.timebase.timeOwed :=
      ⟨h.sends, fun hf => absurd hf hb, fun _ => ⟨rfl, rfl⟩, by simp [LineControl.fromSof], h.stuck,
        h.hello, fun hd => absurd (h.driving hd).1 hb, h.time, h.few, h.fault⟩
    have hread := hsof.readBits (s.sendingBits.take n)
    have hreads := LineControl.readBits_readsTo s.line.fromSof (s.sendingBits.take n)
    rw [LineControl.readsTo] at hreads
    have hidle : (List.foldl (fun l b => l.readBit b b) s.line.fromSof
        (s.sendingBits.take n)).driving = false := by
      rw [hreads]
      cases hd : s.line.driving with
      | false => exact hd
      | true => exact absurd (h.driving hd).1 hb
    exact hread.retimed (.inr ⟨_, _, _, by rw [← hidle]⟩)

/-- A microsecond keeps the Line Controller: the bit read at the middle, the bit time that ends. -/
theorem State.bitClock_kept {s : State} (h : s.LineKept) : s.bitClock.LineKept := by
  rw [State.lineKept_iff] at *
  have hline : (if s.line.bitPhase + 1 = s.control.bitRate.middle then s.lineRead else s.line).Kept
      s.control.lifecycle s.inReset s.control.bitRate.middle s.timebase.timeOwed := by
    unfold State.lineRead
    split_ifs
    · exact h.readBit _ _
    · exact h
    · exact h
  have hdrives : (if s.line.bitPhase + 1 = s.control.bitRate.middle then s.lineRead else s.line).driving =
      s.line.driving := by
    unfold State.lineRead
    split_ifs
    · rw [s.line.readBit_readsTo s.ltx s.lrx]
    · rfl
    · rfl
  unfold State.bitClock
  simp only
  split
  · refine { hline with driving := fun hd => ?_ }
    have hd' := hline.driving hd
    refine ⟨hd'.1, hd'.2.1, hd'.2.2.1, hd'.2.2.2.1, ?_⟩
    have := (h.driving (hdrives ▸ hd)).2.2.2.2
    exact Nat.le_succ_of_le this
  · exact { hline with driving := nofun }

end Sys2Proof.Machine
end

section
namespace Sys2Proof.LineInvariants

open Sys2Proof Sys2Proof.Machine

/-- A state that agrees in what `LineKept` reads beside the Line Controller. -/
theorem lineKept_of_line {s u : State} {l : LineControl}
    (hl : l.Kept s.control.lifecycle s.inReset s.control.bitRate.middle s.timebase.timeOwed)
    (line : u.line = l) (control : u.control = s.control) (inReset : u.inReset = s.inReset)
    (timebase : u.timebase.timeOwed = s.timebase.timeOwed) : u.LineKept := by
  rw [State.lineKept_iff, line, control, inReset, timebase]
  exact hl

theorem lineKept_of_frame {s u : State} {bs : List Block} (h : s.LineKept) (hf : s.changesOnly u bs)
    (hb : ∀ b ∈ [Block.line, .control, .inReset, .timebase], b ∉ bs) : u.LineKept := by
  have hline : u.line = s.line := hf .line (hb _ (by decide))
  have hcontrol : u.control = s.control := hf .control (hb _ (by decide))
  have hreset : u.inReset = s.inReset := hf .inReset (hb _ (by decide))
  have htime : u.timebase = s.timebase := hf .timebase (hb _ (by decide))
  exact lineKept_of_line (s.lineKept_iff.mp h) hline hcontrol hreset (by rw [htime])

theorem free_of_receiving {s : State} (hs : s.receiving = true) : s.line.tx = .free := by
  simp only [State.receiving, Bool.and_eq_true, beq_iff_eq] at hs
  exact hs.2

theorem endReception_kept {t : State} (h : t.LineKept) (hf : t.line.tx = .free) :
    t.endReception.LineKept := by
  rw [State.lineKept_iff] at *
  exact { h.wait hf (b := t.line.stuck) with stuck := fun _ => rfl }

theorem told_kept {s : State} (h : s.LineKept) (read : Bool) (bits : List Bool) (m : Medium) :
    (s.told read bits m).LineKept := by
  have hf := s.told_frame read bits m
  have htime : (s.told read bits m).timebase = s.timebase := hf .timebase (by decide)
  exact lineKept_of_line ((s.lineKept_iff.mp h).retimed (s.told_retimed read bits m)) rfl
    (hf .control (by decide)) (hf .inReset (by decide)) (by rw [htime])

theorem retimed_tx {l l' : LineControl} (h : l.retimed l') : l'.tx = l.tx := by
  rcases h with rfl | ⟨a, b, c, rfl⟩ <;> rfl

theorem discardFrame_kept {t : State} (h : t.LineKept) (hf : t.line.tx = .free) :
    t.discardFrame.LineKept := by
  unfold State.discardFrame
  split
  · exact endReception_kept h hf
  · exact lineKept_of_frame (endReception_kept h hf) (State.setCounters_frame _ _) (by decide)

theorem enterQuiet_line (s : State) (cause : QuietCause) :
    (s.enterQuiet cause).line = s.line.quieten := by
  rw [State.enterQuiet, State.quietRepair]

theorem enterQuiet_timebase (s : State) (cause : QuietCause) :
    (s.enterQuiet cause).timebase = { s.timebase with timeOwed := false } := by
  rw [State.enterQuiet, State.quietRepair]

theorem enterQuiet_kept {s : State} (h : s.LineKept) (cause : QuietCause) :
    (s.enterQuiet cause).LineKept := by
  have hreset : (s.enterQuiet cause).inReset = s.inReset := s.enterQuiet_frame cause .inReset (by decide)
  rw [State.lineKept_iff, enterQuiet_line, enterQuiet_timebase, State.enterQuiet_control, hreset]
  exact (s.lineKept_iff.mp h).quieten

theorem afterReception_kept {s : State} (h : s.LineKept) (hf : s.line.tx = .free) (raw : List Byte) :
    (s.afterReception raw).LineKept :=
  endReception_kept (told_kept h _ _ _) ((retimed_tx (s.told_retimed _ _ _)).trans hf)

theorem reset_kept {inReset : Bool} {middle : Nat} :
    LineControl.reset.Kept .unconfigured inReset middle false :=
  ⟨nofun, fun _ => ⟨rfl, rfl, rfl⟩, fun _ => ⟨rfl, rfl⟩, by decide, nofun, nofun, nofun, nofun, by decide,
    nofun⟩

/-- While device reset is held nothing is sent or driven. -/
theorem release_kept {s : State} (h : s.LineKept) (held : s.inReset = true) (adr : BitVec 5) (br : BitVec 2) :
    (s.release adr br).LineKept := by
  have hk := s.lineKept_iff.mp h
  have hframe := s.release_frame adr br
  have hfree : s.line.tx = .free := by
    by_contra hf; simp [held] at hk; exact absurd (hk.sends hf).2.1 (by decide)
  have hline : (s.release adr br).line = s.line := hframe .line (by decide)
  have htime : (s.release adr br).timebase = s.timebase := hframe .timebase (by decide)
  have hcontrol : (s.release adr br).control =
      { s.control with address := adr, bitRate := bitRateOf br } := by
    unfold State.release State.placeSelf; split <;> rfl
  rw [State.lineKept_iff, hline, htime, hcontrol]
  exact { hk with
    sends := fun hs => absurd hfree hs
    driving := fun hd => by have := (hk.driving hd).2.2.1; simp [held] at this }

theorem takeStart_kept {s : State} (h : s.LineKept) : s.takeStart.LineKept := by
  have hk := s.lineKept_iff.mp h
  unfold State.takeStart
  split
  · rename_i hl
    rw [beq_iff_eq] at hl
    split
    · have hrest : s.line.Kept .joining s.inReset s.control.bitRate.middle s.timebase.timeOwed :=
        hk.at_rest (by simp [hl]) fun hn => by simp [hk.fault hn] at hl
      exact (State.lineKept_iff _).mpr hrest
    · exact (State.lineKept_iff _).mpr hk
  · exact (State.lineKept_iff _).mpr hk

theorem takeRejoin_kept {s : State} (h : s.LineKept) : s.takeRejoin.LineKept := by
  have hk := s.lineKept_iff.mp h
  unfold State.takeRejoin
  split
  · rename_i hl
    rw [beq_iff_eq] at hl
    have hrest : s.line.Kept .quiet s.inReset s.control.bitRate.middle s.timebase.timeOwed := hl ▸ hk
    have hcleared : ({ s.line with failures := 0, holdBack := false } : LineControl).Kept .quiet s.inReset
        s.control.bitRate.middle s.timebase.timeOwed :=
      { hrest with few := Nat.zero_le _, fault := nofun }
    have hjoining : ({ s.line with failures := 0, holdBack := false } : LineControl).Kept .joining s.inReset
        s.control.bitRate.middle s.timebase.timeOwed := hcleared.at_rest nofun nofun
    exact (State.lineKept_iff _).mpr hjoining
  · exact (State.lineKept_iff _).mpr hk

theorem endRound_kept {s : State} (h : s.LineKept) : s.endRound.LineKept := by
  have hframe := s.endRound_frame
  have hk := s.lineKept_iff.mp h
  have happly := s.applyRound_frame
  have hrunning : s.applyRound.running = s.running := by
    rw [State.running, happly .control (by decide)]; rfl
  have howed : s.endRound.timebase.timeOwed = (s.running || s.timebase.timeOwed) := by
    rw [← hrunning, State.endRound, State.nextRound, s.applyRound_timebase]
  have hline : s.endRound.line = s.line := hframe .line (by decide)
  have hcontrol : s.endRound.control = s.control := hframe .control (by decide)
  have hreset : s.endRound.inReset = s.inReset := hframe .inReset (by decide)
  rw [State.lineKept_iff, howed, hline, hcontrol, hreset]
  refine { hk with time := fun ho => ?_ }
  rcases Bool.or_eq_true_iff.mp ho with hr | ho
  · exact beq_iff_eq.mp hr
  · exact hk.time ho

theorem beginRunning_kept {s : State} (h : s.LineKept) (due : s.joinExpiryDue = true) :
    s.beginRunning.LineKept := by
  have hk := s.lineKept_iff.mp h
  have hjoining : s.control.lifecycle = .joining := by
    simp only [State.joinExpiryDue, Bool.and_eq_true, beq_iff_eq] at due
    exact due.1.2
  rw [hjoining] at hk
  have hfree : s.line.tx = .free := by
    by_contra hb; exact absurd (hk.sends hb).1 (by decide)
  have hrunning : ({ s.line with helloOwed := true } : LineControl).Kept .running s.inReset
      s.control.bitRate.middle s.timebase.timeOwed :=
    { hk with
      sends := fun hb => absurd hfree hb
      hello := fun _ => ⟨rfl, by simp [(hk.free hfree).1]⟩
      driving := fun hd => absurd (hk.driving hd).2.1 (by decide)
      time := fun _ => rfl
      fault := fun hn => absurd (hk.fault hn) (by decide) }
  exact (State.lineKept_iff _).mpr hrunning

theorem beginReception_kept {s : State} (h : s.LineKept) (idle : s.line.rx = .idle) :
    (s.beginReception false).LineKept := by
  have hk := s.lineKept_iff.mp h
  have hfree : s.line.tx = .free := by
    by_contra hb; simp [(hk.sends hb).2.2.1] at idle
  exact (State.lineKept_iff _).mpr { hk with
    sends := fun hb => absurd hfree hb
    apart := fun hr => absurd rfl hr
    short := Nat.zero_le _
    stuck := fun hs => by simp [hk.stuck hs] at idle
    driving := nofun }

theorem showIdleGap_kept {s : State} (h : s.LineKept) (free : s.line.tx = .free)
    (clear : s.line.stuck = false) : s.showIdleGap.LineKept := by
  have hruns := s.toldRuns_retimed s.gapRead Config.idleGapBits 0 0 Medium.released
  have hframe := s.toldRuns_frame s.gapRead Config.idleGapBits 0 0 Medium.released
  have hk := (s.lineKept_iff.mp h).retimed hruns
  have htx := (retimed_tx hruns).trans free
  have hclear : (s.toldRuns s.gapRead Config.idleGapBits 0 0 Medium.released).line.stuck = false := by
    rcases hruns with hl | ⟨_, _, _, hl⟩ <;> rw [hl] <;> exact clear
  have htime : (s.toldRuns s.gapRead Config.idleGapBits 0 0 Medium.released).timebase = s.timebase :=
    hframe .timebase (by decide)
  have hidle : ({ (s.toldRuns s.gapRead Config.idleGapBits 0 0 Medium.released).line with
      rx := .idle, echo := false, bits := [], bytes := [], driving := false } : LineControl).Kept
      s.control.lifecycle s.inReset s.control.bitRate.middle s.timebase.timeOwed := { hk with
    sends := fun hb => absurd htx hb
    apart := fun _ => ⟨rfl, rfl⟩
    short := Nat.zero_le _
    stuck := fun hs => by rw [hclear] at hs; contradiction
    driving := nofun }
  have hshown : State.LineKept
      { s.toldRuns s.gapRead Config.idleGapBits 0 0 Medium.released with
        line := { (s.toldRuns s.gapRead Config.idleGapBits 0 0 Medium.released).line with
          rx := .idle, echo := false, bits := [], bytes := [], driving := false } } :=
    lineKept_of_line hidle rfl (hframe .control (by decide)) (hframe .inReset (by decide)) (by rw [← htime])
  unfold State.showIdleGap
  simp only
  split
  · exact lineKept_of_frame hshown (State.setCounters_frame _ _) (by decide)
  · exact hshown

theorem beginFrame_kept {s : State} (h : s.LineKept) {sel : Selection} (selected : s.select = some sel)
    (may : s.mayBegin = true) : (s.beginFrame sel).LineKept := by
  have hk := s.lineKept_iff.mp h
  simp only [State.mayBegin, State.running, Bool.and_eq_true, Bool.not_eq_true', beq_iff_eq] at may
  obtain ⟨⟨⟨⟨hout, -⟩, hrunning⟩, -⟩, hclear⟩ := may
  exact (State.lineKept_iff _).mpr { hk with
    sends := fun _ => ⟨hrunning, hout, rfl, rfl, rfl⟩
    free := nofun
    apart := fun hr => absurd rfl hr
    short := Nat.zero_le _
    stuck := fun hs => absurd (hclear.symm.trans hs) (by decide)
    hello := fun ho => ⟨hrunning, fun f hf => by
      rw [← Option.some.inj hf]
      have hsource := (State.select_source selected).1 ho
      cases hp : s.control.restartPending <;> simp [hsource, hp]⟩
    driving := nofun }

theorem loseArbitration_kept {s : State} (h : s.LineKept) (busy : s.line.tx ≠ .free) :
    s.loseArbitration.LineKept := by
  have hk := s.lineKept_iff.mp h
  have hbelow : s.line.failures < Config.failureLimit :=
    Nat.lt_of_le_of_ne hk.few fun hn => by simpa [(hk.sends busy).1] using hk.fault hn
  have hgiven := hk.giveUp busy (echo := false) hbelow
  unfold State.loseArbitration
  split
  · exact (State.lineKept_iff _).mpr hgiven
  · exact (State.lineKept_iff _).mpr { hgiven with
      apart := fun _ => ⟨rfl, rfl⟩
      short := Nat.zero_le _ }

theorem winArbitration_kept {s : State} (h : s.LineKept) (busy : s.line.tx ≠ .free) :
    s.winArbitration.LineKept := by
  have hk := (State.lineKept_iff _).mp (State.sentUpTo_kept h busy Config.byteBits)
  have hbusy : (s.sentUpTo Config.byteBits).line.tx ≠ .free := by
    rw [s.sentUpTo_readsTo Config.byteBits]; exact busy
  exact (State.lineKept_iff _).mpr { hk with
    sends := fun _ => hk.sends hbusy
    free := nofun
    driving := fun hd => absurd (hk.driving hd).1 hbusy }

theorem abortFrame_kept {s : State} (h : s.LineKept) (busy : s.line.tx ≠ .free) :
    s.abortFrame.LineKept := by
  have hk := s.lineKept_iff.mp h
  have hgiven {n : Nat} (hn : n < Config.failureLimit) := hk.giveUp busy (echo := s.line.echo) hn
  unfold State.abortFrame
  simp only
  split
  · have hzero := hgiven (n := 0) (by decide)
    have hfull : ({ s.line with
        tx := .free, prepared := none, sent := 0, misread := false, echo := s.line.echo, failures :=
          min (s.line.failures + 1) Config.failureLimit } : LineControl).quieten.Kept .quiet s.inReset
        s.control.bitRate.middle false :=
      { hzero.quieten with few := Nat.min_le_right _ _, fault := fun _ => rfl }
    rw [State.lineKept_iff, enterQuiet_line, enterQuiet_timebase, State.enterQuiet_control,
      State.enterQuiet_frame _ _ .inReset (by decide)]
    exact hfull
  · rename_i hn
    exact (State.lineKept_iff _).mpr (hgiven (Nat.lt_of_le_of_ne (Nat.min_le_right _ _) hn))

theorem sendingBits_congr {s t : State} (prepared : t.line.prepared = s.line.prepared)
    (control : t.control = s.control) : t.sendingBits = s.sendingBits := by
  simp only [State.sendingBits, State.lineBytes, State.ownOrigin, State.own, prepared, control]

theorem comparedBits_congr {s t : State} (prepared : t.line.prepared = s.line.prepared)
    (control : t.control = s.control) : t.comparedBits = s.comparedBits := by
  rw [State.comparedBits, State.comparedBits, sendingBits_congr prepared control]

/-- At its completion a frame may leave its last CRC bit driven, where that bit has been read. -/
theorem endSending_kept {s : State} (h : s.LineKept) (busy : s.line.tx ≠ .free)
    (matched : s.line.misread = false) : (s.sentUpTo s.comparedBits).endSending.LineKept := by
  have hread := State.sentUpTo_kept h busy s.comparedBits
  have hlast : s.comparedBits ≤ s.sendingBits.length := Nat.sub_le _ _
  have hsent := s.sentUpTo_sent hlast busy
  have hcompared : (s.sentUpTo s.comparedBits).comparedBits = s.comparedBits := by
    refine comparedBits_congr ?_ (s.sentUpTo_frame _ .control (by decide))
    rw [s.sentUpTo_readsTo s.comparedBits]
  have hbusy : (s.sentUpTo s.comparedBits).line.tx ≠ .free := by
    rw [s.sentUpTo_readsTo s.comparedBits]; exact busy
  generalize s.sentUpTo s.comparedBits = t at *
  have hk := t.lineKept_iff.mp hread
  obtain ⟨hlc, hout, hrx, -⟩ := hk.sends hbusy
  have hread_of_driven : t.ltx = false → t.bitRead = true := by
    intro hlow
    by_contra hnot
    have hstop := t.sendingBits_stop
    have hover : t.bitsOver = t.comparedBits := by
      simp [State.bitsOver, hsent.1, hsent.2, matched, hnot, hcompared]
    rw [State.ltx, if_neg (by simpa using hbusy), hover, hstop] at hlow
    contradiction
  exact (State.lineKept_iff _).mpr { hk with
    sends := fun hb => absurd rfl hb
    free := fun _ => ⟨rfl, rfl, rfl⟩
    hello := fun ho => ⟨(hk.hello ho).1, nofun⟩
    driving := fun hd => ⟨rfl, hlc, hout, by simp [State.endSending, hrx],
      of_decide_eq_true (hread_of_driven (by simpa [State.endSending] using hd))⟩
    few := Nat.zero_le _
    fault := nofun }

theorem takeCompletion_kept {s : State} (h : s.LineKept) (src : Source) :
    (s.takeCompletion src).LineKept := by
  have hk := s.lineKept_iff.mp h
  cases src with
  | hello restart => exact (State.lineKept_iff _).mpr { hk with hello := nofun }
  | time => exact (State.lineKept_iff _).mpr { hk with time := nofun }
  | originAnswer => exact (State.lineKept_iff _).mpr hk
  | proxyAnswer p seqs => exact (State.lineKept_iff _).mpr hk
  | repairReq p seqs => exact (State.lineKept_iff _).mpr hk
  | event n =>
    have hsent := (State.lineKept_iff _).mp (lineKept_of_frame h (s.eventSent_frame n) (by decide))
    exact (State.lineKept_iff _).mpr { hsent with }

theorem completeFrame_kept {s : State} (h : s.LineKept) (sending : s.line.tx = .sending)
    (matched : s.line.misread = false) : s.completeFrame.LineKept := by
  have hbusy : s.line.tx ≠ .free := by simp [sending]
  have hend := endSending_kept h hbusy matched
  unfold State.completeFrame
  split
  · exact takeCompletion_kept hend _
  · exact hend

/-- Each command keeps the Line Controller. -/
theorem taken_keeps_line {c : Instr} {s u : State} (h : s.LineKept) (hu : Taken s c u) : u.LineKept := by
  have hk := s.lineKept_iff.mp h
  by_cases hc : ∀ b ∈ [Block.line, .control, .inReset, .timebase], b ∉ touches c
  · exact lineKept_of_frame h hu.frame hc
  cases hu with
  | deviceReset => exact (State.lineKept_iff _).mpr reset_kept
  | @resetRelease adr br held => exact release_kept h held adr br
  | configure _ whole =>
    unfold State.takeConfigure
    split
    · split <;> exact (State.lineKept_iff _).mpr hk
    · exact (State.lineKept_iff _).mpr hk
  | start row _ => exact takeStart_kept h
  | rejoin row _ => exact takeRejoin_kept h
  | roundEnd due => exact endRound_kept h
  | slewTick due =>
    have hslew := State.slew_timebase { s with ticks := { s.ticks with slew := Config.slewPeriod } }
    have hframe := State.slew_frame { s with ticks := { s.ticks with slew := Config.slewPeriod } }
    exact lineKept_of_line hk (hframe .line (by decide)) (hframe .control (by decide))
      (hframe .inReset (by decide)) (by rw [hslew])
  | joinExpiry due => exact beginRunning_kept h due
  | sofIdle out idle =>
    have hdrive (t : State) (ht : t.LineKept) (hidle : t.line.rx = .idle) :
        (t.beginReception false).LineKept := beginReception_kept ht hidle
    split
    · exact hdrive _ (lineKept_of_frame h (s.othersDrive_frame _) (by decide)) idle
    · exact hdrive _ h idle
  | sofElsewhere _ _ =>
    have hframe := s.findBoundary_frame
    have htime : s.findBoundary.timebase = s.timebase := hframe .timebase (by decide)
    exact lineKept_of_line (hk.retimed s.findBoundary_retimed) rfl
      (hframe .control (by decide)) (hframe .inReset (by decide)) (by rw [← htime]; rfl)
  | idleGap out busy free clear => exact showIdleGap_kept h free clear
  | holdBackClear _ =>
    exact lineKept_of_line (l := { s.line with holdBack := false }) { hk with } rfl rfl rfl rfl
  | lineStuck out free clear =>
    have hruns := s.toldRuns_retimed s.line.stuckRead 0 (Config.stuckBits + 1) s.justRead
      { level := false, coming := [], untold := false }
    have hframe := s.stickLine_frame
    have htime : s.stickLine.timebase = s.timebase := hframe .timebase (by decide)
    exact lineKept_of_line ((hk.retimed hruns).wait ((retimed_tx hruns).trans free)) rfl
      (hframe .control (by decide)) (hframe .inReset (by decide)) (by rw [htime])
  | lineStuckClear _ _ =>
    have hframe := s.freeLine_frame
    have htime : s.freeLine.timebase = s.timebase := hframe .timebase (by decide)
    have hruns := s.toldRuns_retimed (1 ≤ s.line.releasedRun) 1 0 s.justRead Medium.released
    exact lineKept_of_line (l := s.freeLine.line)
      { hk.retimed hruns with stuck := fun hs => by cases hs } rfl (hframe .control (by decide))
      (hframe .inReset (by decide)) (by rw [htime])
  | framingFault reads =>
    exact discardFrame_kept (told_kept h _ _ _)
      ((retimed_tx (s.told_retimed _ _ _)).trans (free_of_receiving reads))
  | bodyLength reads _ =>
    exact discardFrame_kept (told_kept h _ _ _)
      ((retimed_tx (s.told_retimed _ _ _)).trans (free_of_receiving reads))
  | @receivedFrame _ raw row reads _ _ =>
    have hend := afterReception_kept h (free_of_receiving reads) raw
    rcases s.takeFrame_cases raw with ht | ht | ht | ⟨-, -, ht⟩ | ⟨p, f, -, -, -, -, ht⟩ <;> rw [ht]
    · exact hend
    · exact lineKept_of_frame hend (State.setCounters_frame _ _) (by decide)
    · exact lineKept_of_frame hend (State.setCounters_frame _ _) (by decide)
    · exact enterQuiet_kept hend _
    · have htime := (s.afterReception raw).passOn_timebase p f
      have hframe := (s.afterReception raw).passOn_frame p f
      exact lineKept_of_line ((State.lineKept_iff _).mp hend) (hframe .line (by decide))
        (hframe .control (by decide)) (hframe .inReset (by decide)) (by rw [htime])
  | @frameBegin sel selected may => exact beginFrame_kept h selected may
  | arbitrationLoss arbitrating => exact loseArbitration_kept h (by simp [arbitrating])
  | arbitrationWon arbitrating matched => exact winArbitration_kept h (by simp [arbitrating])
  | bitError busy => exact abortFrame_kept h busy
  | frameComplete sending matched => exact completeFrame_kept h sending matched
  | status _ _ => exact lineKept_of_frame h s.takeStatus_frame (by decide)
  | peers _ _ => exact lineKept_of_frame h (s.respond_frame _ _) (by decide)
  | inputs _ _ => exact lineKept_of_frame h (s.respond_frame _ _) (by decide)
  | clearCounts _ _ => exact lineKept_of_frame h s.takeClearCounts_frame (by decide)
  | badCommand _ _ => exact lineKept_of_frame h (s.respond_frame _ _) (by decide)
  | readOperands _ _ => exact lineKept_of_line hk rfl rfl rfl rfl
  | endResponse _ _ => exact lineKept_of_frame h s.endResponse_frame (by decide)
  | selFall _ => exact absurd (by simp [touches]) hc
  | _ => exact absurd (by simp [touches, offerBlocks]) hc

/-- Settles O11: the Line Controller by the effect of each command, and by the bits a microsecond reads. -/
theorem lineControllerStaysConsistent : Obligations.LineControllerStaysConsistent := by
  intro s t hs h
  refine step_keeps_blocks (Pre := State.LineKept) (P := State.LineKept)
    (bs := [.line, .control, .inReset, .timebase]) (fun {s t} hsame hP => ?_) (by decide) id
    (fun _ hP => hP) (fun hP _ hu => taken_keeps_line hP hu) (fun {s} hP hout => ?_) hs h
  · have htime : t.timebase = s.timebase := hsame .timebase (by decide)
    exact lineKept_of_line (s.lineKept_iff.mp hP) (hsame .line (by decide)) (hsame .control (by decide))
      (hsame .inReset (by decide)) (by rw [htime])
  · have hclock := (State.lineKept_iff _).mp (State.bitClock_kept hP)
    have hframe := s.bitClock_frame
    rw [hframe .control (by decide), hframe .inReset (by decide), hframe .timebase (by decide)] at hclock
    rw [State.microsecond, if_neg (by simp [hout])]
    exact (State.lineKept_iff _).mpr hclock

end Sys2Proof.LineInvariants
end

section
namespace Sys2Proof.Machine

open Sys2Proof

/-! ### The frame being sent (R147, R154) -/

theorem LineControl.retimed_prepared {l l' : LineControl} (h : l.retimed l') :
    l'.prepared = l.prepared := by
  rcases h with rfl | ⟨a, b, c, rfl⟩ <;> rfl

theorem State.told_prepared (s : State) (read : Bool) (bits : List Bool) (m : Medium) :
    (s.told read bits m).line.prepared = s.line.prepared :=
  LineControl.retimed_prepared (s.told_retimed read bits m)

theorem State.toldRuns_prepared (s : State) (read : Bool) (released driven phase : Nat) (m : Medium) :
    (s.toldRuns read released driven phase m).line.prepared = s.line.prepared :=
  LineControl.retimed_prepared (s.toldRuns_retimed read released driven phase m)

theorem State.discardFrame_prepared (s : State) : s.discardFrame.line.prepared = s.line.prepared := by
  unfold State.discardFrame
  split <;> rfl

/-- What each command does to the frame being sent: it stays, it is given up, or the selected one is
prepared. -/
theorem Taken.prepared {c : Instr} {s u : State} (h : Taken s c u) :
    u.line.prepared = s.line.prepared ∨ u.line.prepared = none ∨
      ∃ sel, s.select = some sel ∧ u.line.prepared = some ⟨sel.source, sel.frame⟩ := by
  by_cases hc : Block.line ∉ touches c
  · exact .inl (congrArg LineControl.prepared (h.frame .line hc))
  have same_of_frame {t : State} {bs : List Block} (hf : s.changesOnly t bs) (hb : Block.line ∉ bs) :
      t.line.prepared = s.line.prepared := congrArg LineControl.prepared (hf .line hb)
  cases h with
  | deviceReset => exact .inr (.inl rfl)
  | frameBegin selected _ => exact .inr (.inr ⟨_, selected, rfl⟩)
  | arbitrationLoss _ =>
    refine .inr (.inl ?_)
    unfold State.loseArbitration
    split <;> rfl
  | arbitrationWon _ _ => exact .inl (by
      show (s.sentUpTo Config.byteBits).line.prepared = _
      rw [s.sentUpTo_readsTo Config.byteBits])
  | bitError _ =>
    refine .inr (.inl ?_)
    unfold State.abortFrame
    simp only
    split
    · rw [LineInvariants.enterQuiet_line]; rfl
    · rfl
  | frameComplete _ _ =>
    refine .inr (.inl ?_)
    have hcompletion (t : State) (src : Source) : (t.takeCompletion src).line.prepared = t.line.prepared := by
      cases src with
      | event n =>
        have hline : (t.eventSent n).line = t.line := t.eventSent_frame n .line (by decide)
        show (t.eventSent n).line.prepared = _
        rw [hline]
      | _ => rfl
    unfold State.completeFrame
    split
    · exact hcompletion _ _
    · rfl
  | rejoin _ _ =>
    refine .inl ?_
    unfold State.takeRejoin
    split <;> rfl
  | joinExpiry _ => exact .inl rfl
  | sofIdle _ _ => exact .inl (by split <;> rfl)
  | sofElsewhere _ _ => exact .inl (LineControl.retimed_prepared s.findBoundary_retimed)
  | idleGap _ _ _ _ =>
    refine .inl ?_
    have hruns := s.toldRuns_prepared s.gapRead Config.idleGapBits 0 0 Medium.released
    unfold State.showIdleGap
    simp only
    split <;> exact hruns
  | holdBackClear _ => exact .inl rfl
  | lineStuck _ _ _ => exact .inl (s.toldRuns_prepared s.line.stuckRead 0 (Config.stuckBits + 1) s.justRead _)
  | lineStuckClear _ _ => exact .inl (s.toldRuns_prepared (1 ≤ s.line.releasedRun) 1 0 s.justRead _)
  | framingFault _ =>
    exact .inl ((State.discardFrame_prepared _).trans (s.told_prepared _ _ _))
  | bodyLength _ _ =>
    exact .inl ((State.discardFrame_prepared _).trans (s.told_prepared _ _ _))
  | @receivedFrame _ raw _ _ _ _ =>
    have hend : (s.afterReception raw).line.prepared = s.line.prepared :=
      s.told_prepared (s.line.bytes == raw) (lineBits raw) Medium.released
    rcases s.takeFrame_cases raw with ht | ht | ht | ⟨-, -, ht⟩ | ⟨p, f, -, -, -, -, ht⟩ <;> rw [ht]
    · exact .inl hend
    · exact .inl hend
    · exact .inl hend
    · exact .inr (.inl (by rw [LineInvariants.enterQuiet_line]; rfl))
    · have hpass : ((s.afterReception raw).passOn p f).line = (s.afterReception raw).line :=
        State.passOn_frame _ p f .line (by decide)
      exact .inl (by rw [hpass]; exact hend)
  | status _ _ => exact .inl rfl
  | start _ _ => exact .inl (same_of_frame s.takeStart_frame (by decide))
  | peers _ _ => exact .inl rfl
  | inputs _ _ => exact .inl rfl
  | clearCounts _ _ => exact .inl rfl
  | badCommand _ _ => exact .inl rfl
  | readOperands _ _ => exact .inl rfl
  | endResponse _ _ => exact .inl (same_of_frame s.endResponse_frame (by decide))
  | selFall _ => exact absurd (by simp [touches]) hc
  | _ => exact absurd (by simp [touches, offerBlocks]) hc

/-- Only DEVICE_RESET and RESET_RELEASE change whether device reset is held, and the straps in force. -/
theorem Taken.straps {c : Instr} {s u : State} (h : Taken s c u) :
    (u.inReset = s.inReset ∧ u.control.address = s.control.address ∧
        u.control.bitRate = s.control.bitRate) ∨
      u = s.hold ∨ (s.inReset = true ∧ ∃ adr br, u = s.release adr br) := by
  by_cases hc : Block.inReset ∈ touches c
  · cases h with
    | deviceReset => exact .inr (.inl rfl)
    | resetRelease held => exact .inr (.inr ⟨held, _, _, rfl⟩)
    | status row _ => rcases row with rfl | rfl <;> simp [touches] at hc
    | start row _ => rcases row with rfl | rfl <;> simp [touches] at hc
    | peers row _ => rcases row with rfl | rfl <;> simp [touches] at hc
    | inputs row _ => rcases row with rfl | rfl <;> simp [touches] at hc
    | rejoin row _ => rcases row with rfl | rfl <;> simp [touches] at hc
    | clearCounts row _ => rcases row with rfl | rfl <;> simp [touches] at hc
    | badCommand row _ => rcases row with rfl | rfl <;> simp [touches] at hc
    | endResponse row _ => rcases row with ⟨rfl, -⟩ | ⟨rfl, -⟩ <;> simp [touches] at hc
    | receivedFrame row _ _ _ => cases c <;> simp_all [touches, receptionBlocks, frameBytes]
    | _ => simp [touches, offerBlocks] at hc
  · have hreset : u.inReset = s.inReset := h.frame .inReset hc
    have hmove := h.control
    generalize u.control = k at hmove
    cases hmove with
    | reset row => exact absurd (by simp [row, touches]) hc
    | release row _ => exact absurd (by simp [row, touches]) hc
    | _ => exact .inl ⟨hreset, rfl, rfl⟩

theorem State.bitClock_prepared (s : State) : s.bitClock.line.prepared = s.line.prepared := by
  have hread : s.lineRead.prepared = s.line.prepared := by
    unfold State.lineRead
    split
    · rw [s.line.readBit_readsTo s.ltx s.lrx]
    · rfl
  unfold State.bitClock
  simp only
  split_ifs <;> first | exact hread | rfl

/-! ### Consecutive sequences (R12, R130, R138) -/

theorem seqRange_succ_last (a : Seq) (n : Nat) :
    seqRange a (n + 1) = seqRange a n ++ [a + BitVec.ofNat 16 n] := by
  induction n generalizing a with
  | zero => simp [seqRange]
  | succ n ih =>
    have hnext : a + 1 + BitVec.ofNat 16 n = a + BitVec.ofNat 16 (n + 1) := by bv_omega
    rw [seqRange, ih (a + 1), hnext]
    rfl

theorem seqRange_drop (a : Seq) (n k : Nat) :
    (seqRange a n).drop k = seqRange (a + BitVec.ofNat 16 k) (n - k) := by
  induction k generalizing a n with
  | zero => simp
  | succ k ih =>
    cases n with
    | zero => simp [seqRange]
    | succ n =>
      have hnext : a + 1 + BitVec.ofNat 16 k = a + BitVec.ofNat 16 (k + 1) := by bv_omega
      rw [seqRange, List.drop_succ_cons, ih, hnext, Nat.succ_sub_succ]

/-- The sequences of `xs` are consecutive and end just before `next`. -/
def Consecutive (next : Seq) (xs : List Record) : Prop :=
  xs.map (·.seq) = seqRange (next - BitVec.ofNat 16 xs.length) xs.length

theorem Consecutive.append {next : Seq} {xs : List Record} (h : Consecutive next xs) {r : Record}
    (hr : r.seq = next) : Consecutive (next + 1) (xs ++ [r]) := by
  have hfirst : next + 1 - BitVec.ofNat 16 (xs.length + 1) = next - BitVec.ofNat 16 xs.length := by
    bv_omega
  have hlast : next - BitVec.ofNat 16 xs.length + BitVec.ofNat 16 xs.length = next := by bv_omega
  rw [Consecutive, List.map_append, h, List.length_append, List.length_singleton, seqRange_succ_last, hfirst,
    hlast, List.map_singleton, hr]

theorem Consecutive.drop {next : Seq} {xs : List Record} (h : Consecutive next xs) (k : Nat)
    (hk : k ≤ xs.length) : Consecutive next (xs.drop k) := by
  have hfirst : next - BitVec.ofNat 16 xs.length + BitVec.ofNat 16 k =
      next - BitVec.ofNat 16 (xs.length - k) := by bv_omega
  rw [Consecutive, List.map_drop, h, seqRange_drop, List.length_drop, hfirst]

end Sys2Proof.Machine
end

section
namespace Sys2Proof.QueueInvariants

open Sys2Proof Sys2Proof.Machine

/-- `QueueKept` but for the frame in flight. -/
structure QueueLinked (s : State) : Prop where
  consecutive : Consecutive s.outbound.nextSeq (s.history ++ s.outbound.records)
  queue : s.outbound.records.length ≤ Config.queueCapacity
  history : s.history.length ≤ Config.historyCapacity
  lost : s.outbound.lost ≠ 0 → s.outbound.records.length = Config.queueCapacity

theorem queueKept_iff (s : State) :
    s.QueueKept ↔ QueueLinked s ∧ ∀ f ∈ s.line.prepared, f.source ≠ .event 0 := by
  unfold State.QueueKept
  rw [← List.length_append]
  constructor
  · rintro ⟨h1, h2, h3, h4, h5⟩
    exact ⟨⟨h1, h2, h3, h4⟩, h5⟩
  · rintro ⟨⟨h1, h2, h3, h4⟩, h5⟩
    exact ⟨h1, h2, h3, h4, h5⟩

theorem QueueLinked.congr {s t : State} (h : QueueLinked s) (queue : t.outbound = s.outbound)
    (history : t.history = s.history) : QueueLinked t := by
  obtain ⟨h1, h2, h3, h4⟩ := h
  rw [← queue, ← history] at *
  exact ⟨h1, h2, h3, h4⟩

theorem appendOwn_outbound (s : State) (stamp : Stamp) (q : TimeState) (d : Detail) :
    (s.appendOwn stamp q d).outbound = { s.outbound with
      records := s.outbound.records ++ [s.ownRecord stamp q d], nextSeq := s.outbound.nextSeq + 1 } :=
  State.offer_frame _ _ _ .outbound (by decide)

theorem appendOwn_history (s : State) (stamp : Stamp) (q : TimeState) (d : Detail) :
    (s.appendOwn stamp q d).history = s.history :=
  State.offer_frame _ _ _ .history (by decide)

/-- An own record that finds room keeps the link; no capture is lost then. -/
theorem QueueLinked.appendOwn {s : State} (h : QueueLinked s)
    (room : s.outbound.records.length < Config.queueCapacity) (stamp : Stamp) (q : TimeState) (d : Detail) :
    QueueLinked (s.appendOwn stamp q d) := by
  have hnone : s.outbound.lost = 0 := by
    by_contra hl; exact absurd (h.lost hl) (Nat.ne_of_lt room)
  constructor
  · rw [appendOwn_outbound, appendOwn_history, ← List.append_assoc]
    exact h.consecutive.append rfl
  · rw [appendOwn_outbound, List.length_append]; exact room
  · rw [appendOwn_history]; exact h.history
  · rw [appendOwn_outbound]; exact absurd hnone

theorem QueueLinked.captures {s t : State} (h : QueueLinked s) (ht : Captures s t) : QueueLinked t := by
  induction ht with
  | refl => exact h
  | apart _ queue history _ _ ih => exact ih.congr queue history
  | append _ stamp q d _ _ room ih => exact ih.appendOwn room stamp q d
  | lose _ full ih => exact ⟨ih.consecutive, ih.queue, ih.history, fun _ => Nat.le_antisymm ih.queue full⟩

/-- The records of an EVENT frame that retire leave room for one more. -/
theorem QueueLinked.eventSent {s : State} (h : QueueLinked s) {n : Nat} (hn : n ≠ 0) :
    QueueLinked (s.eventSent n) := by
  have hsplit : (s.retire n).history ++ (s.retire n).outbound.records =
      (s.history ++ s.outbound.records).drop
        ((s.history ++ s.outbound.records.take n).length - Config.historyCapacity) := by
    have hparts : s.history ++ s.outbound.records =
        (s.history ++ s.outbound.records.take n) ++ s.outbound.records.drop n := by
      rw [List.append_assoc, List.take_append_drop]
    rw [hparts, List.drop_append_of_le_length (Nat.sub_le _ _)]
    rfl
  have hretired : QueueLinked { s.retire n with outbound := { (s.retire n).outbound with lost := 0 } } := by
    refine ⟨?_, ?_, ?_, fun hl => absurd rfl hl⟩
    · show Consecutive s.outbound.nextSeq ((s.retire n).history ++ (s.retire n).outbound.records)
      rw [hsplit]
      refine h.consecutive.drop _ ?_
      simp only [List.length_append, List.length_take]
      omega
    · show (s.outbound.records.drop n).length ≤ _
      have := h.queue
      rw [List.length_drop]
      omega
    · show (appendHistory _ _).length ≤ _
      rw [appendHistory, List.length_drop]
      omega
  rcases s.eventSent_cases n with ⟨hnone, he⟩ | ⟨hlost, he⟩ <;> rw [he]
  · exact ⟨hretired.consecutive, hretired.queue, hretired.history, fun hl => absurd hnone hl⟩
  · refine hretired.appendOwn ?_ _ _ _
    show (s.outbound.records.drop n).length < _
    rw [List.length_drop, h.lost hlost]
    exact Nat.sub_lt (by decide) (by omega)

theorem reset_linked (s : State) : QueueLinked s.hold :=
  ⟨rfl, Nat.zero_le _, Nat.zero_le _, fun hl => absurd rfl hl⟩

theorem taken_keeps_queue {c : Instr} {s u : State} (h : s.QueueKept) (hu : Taken s c u) :
    u.QueueKept := by
  obtain ⟨hlinked, hflight⟩ := (queueKept_iff s).mp h
  refine (queueKept_iff u).mpr ⟨?_, ?_⟩
  · rcases hu.captures with ⟨queue, history⟩ | ⟨-, hcaptures, -⟩ |
      ⟨t, f, n, -, hf, hsource, queue, history, -, hqueue, hhistory, -⟩ | rfl
    · exact hlinked.congr queue history
    · exact hlinked.captures hcaptures
    · have hn : n ≠ 0 := fun h0 => hflight f hf (h0 ▸ hsource)
      exact ((hlinked.congr queue history).eventSent hn).congr hqueue hhistory
    · exact reset_linked s
  · rcases hu.prepared with hp | hp | ⟨sel, hsel, hp⟩ <;> rw [hp]
    · exact hflight
    · nofun
    · intro f hf
      rw [← Option.some.inj hf]
      exact (State.select_source hsel).2

/-! ### Own records (R2, R14) -/

/-- Every record of both is one the origin `origin` can send. -/
def AllOnLine (origin : Fin 25) (s : State) : Prop :=
  ∀ r ∈ s.history ++ s.outbound.records, r.onLine origin

theorem AllOnLine.appendOwn {s : State} {origin : Fin 25} (h : AllOnLine origin s)
    (own : s.ownOrigin = origin) {d : Detail} (kind : d.isNetwork = true) (whole : d ≠ .loss 0)
    (stamp : Stamp) (q : TimeState) : AllOnLine origin (s.appendOwn stamp q d) := by
  intro r hr
  rw [appendOwn_outbound, appendOwn_history, ← List.append_assoc] at hr
  rcases List.mem_append.mp hr with hr | hr
  · exact h r hr
  · rw [List.mem_singleton.mp hr]
    exact ⟨kind, own, whole⟩

theorem AllOnLine.captures {s t : State} (h : AllOnLine s.ownOrigin s) (ht : Captures s t) :
    AllOnLine s.ownOrigin t ∧ t.ownOrigin = s.ownOrigin := by
  induction ht with
  | refl => exact ⟨h, rfl⟩
  | apart _ queue history control _ ih =>
    refine ⟨fun r hr => ih.1 r ?_, ?_⟩
    · rw [← queue, ← history]; exact hr
    · rw [← ih.2, State.ownOrigin, State.own, control]; rfl
  | append _ stamp q d kind whole _ ih =>
    refine ⟨ih.1.appendOwn ih.2 kind whole stamp q, ?_⟩
    rw [← ih.2, State.ownOrigin, State.own, State.appendOwn_frame _ _ _ _ .control (by decide)]; rfl
  | lose _ _ ih => exact ⟨fun r hr => ih.1 r hr, ih.2⟩

theorem AllOnLine.eventSent {s : State} {origin : Fin 25} (h : AllOnLine origin s)
    (own : s.ownOrigin = origin) (n : Nat) : AllOnLine origin (s.eventSent n) := by
  have hretired : AllOnLine origin (s.retire n) := by
    intro r hr
    rcases List.mem_append.mp hr with hr | hr
    · rcases List.mem_append.mp (List.mem_of_mem_drop hr) with hr | hr
      · exact h r (List.mem_append_left _ hr)
      · exact h r (List.mem_append_right _ (List.mem_of_mem_take hr))
    · exact h r (List.mem_append_right _ (List.mem_of_mem_drop hr))
  rcases s.eventSent_cases n with ⟨-, he⟩ | ⟨hlost, he⟩ <;> rw [he]
  · exact hretired
  · have hcleared : AllOnLine origin
        { s.retire n with outbound := { (s.retire n).outbound with lost := 0 } } := hretired
    exact hcleared.appendOwn own rfl (fun hz => hlost (Detail.loss.inj hz)) _ _

theorem hold_own (s : State) : s.hold.OwnRecordsKept :=
  ⟨nofun, fun _ => ⟨rfl, rfl⟩⟩

theorem taken_keeps_own {c : Instr} {s u : State} (h : s.OwnRecordsKept) (hline : s.LineKept)
    (hu : Taken s c u) : u.OwnRecordsKept := by
  obtain ⟨hown, hempty⟩ := h
  rcases hu.straps with ⟨hreset, haddress, -⟩ | rfl | ⟨held, adr, br, rfl⟩
  · have horigin : u.ownOrigin = s.ownOrigin := by
      rw [State.ownOrigin, State.ownOrigin, State.own, State.own, haddress]
    unfold State.OwnRecordsKept
    rw [horigin, hreset]
    rcases hu.captures with ⟨queue, history⟩ | ⟨hout, hcaptures, -⟩ |
      ⟨t, f, n, sending, -, -, queue, history, hcontrol, hqueue, hhistory, -⟩ | rfl
    · rw [queue, history]; exact ⟨hown, hempty⟩
    · exact ⟨(AllOnLine.captures hown hcaptures).1, fun hr => absurd (hout.symm.trans hr) (by decide)⟩
    · have hout := ((s.lineKept_iff.mp hline).sends (by simp [sending])).2.1
      have hbefore : AllOnLine s.ownOrigin t := by
        unfold AllOnLine; rw [queue, history]; exact hown
      have hsent := hbefore.eventSent (by rw [State.ownOrigin, State.own, hcontrol]; rfl) n
      unfold AllOnLine at hsent
      rw [← hqueue, ← hhistory] at hsent
      exact ⟨hsent, fun hr => absurd (hout.symm.trans hr) (by decide)⟩
    · exact ⟨nofun, fun _ => ⟨rfl, rfl⟩⟩
  · exact hold_own s
  · have hframe := s.release_frame adr br
    have hhistory : (s.release adr br).history = s.history := hframe .history (by decide)
    have hqueue : (s.release adr br).outbound = s.outbound := hframe .outbound (by decide)
    unfold State.OwnRecordsKept
    rw [hhistory, hqueue, (hempty held).1, (hempty held).2]
    exact ⟨nofun, fun _ => ⟨rfl, rfl⟩⟩

/-- Settles O8: the links of queue and history by what the commands capture and send, and the own records
by the straps that stay. -/
theorem queueAndHistoryStayConsecutive : Obligations.QueueAndHistoryStayConsecutive := by
  refine ⟨fun s t hs h => ?_, fun s t hs hline _ _ h => ?_⟩
  · refine step_keeps_blocks (Pre := State.QueueKept) (P := State.QueueKept)
      (bs := [.history, .outbound, .line]) (fun {s t} hsame hP => ?_) (by decide) id
      (fun _ hP => hP) (fun hP _ hu => taken_keeps_queue hP hu) (fun {s} hP hout => ?_) hs h
    · have hline : t.line = s.line := hsame .line (by decide)
      obtain ⟨hlinked, hflight⟩ := (queueKept_iff s).mp hP
      exact (queueKept_iff t).mpr ⟨hlinked.congr (hsame .outbound (by decide)) (hsame .history (by decide)),
        by rw [hline]; exact hflight⟩
    · obtain ⟨hlinked, hflight⟩ := (queueKept_iff s).mp hP
      rw [State.microsecond, if_neg (by simp [hout])]
      refine (queueKept_iff _).mpr ⟨hlinked.congr rfl rfl, ?_⟩
      show ∀ f ∈ s.bitClock.line.prepared, _
      rw [s.bitClock_prepared]; exact hflight
  · refine step_keeps_blocks (Pre := fun s => s.OwnRecordsKept ∧ s.LineKept) (P := State.OwnRecordsKept)
      (bs := [.history, .outbound, .control, .inReset]) (fun {s t} hsame hP => ?_) (by decide) And.left
      (fun _ hP => hP) (fun hP _ hu => taken_keeps_own hP.1 hP.2 hu) (fun {s} hP hout => ?_) ⟨hs, hline⟩ h
    · have hhistory : t.history = s.history := hsame .history (by decide)
      have hqueue : t.outbound = s.outbound := hsame .outbound (by decide)
      have hcontrol : t.control = s.control := hsame .control (by decide)
      have hreset : t.inReset = s.inReset := hsame .inReset (by decide)
      unfold State.OwnRecordsKept State.ownOrigin State.own at *
      rw [hhistory, hqueue, hcontrol, hreset]
      exact hP
    · rw [State.microsecond, if_neg (by simp [hout])]
      exact hP.1

end Sys2Proof.QueueInvariants
end

section
namespace Sys2Proof.Machine

open Sys2Proof

/-! ### The freshness of the samples (R67, R98, R101) -/

/-- A frame passed on leaves every freshness, or makes one 2. -/
theorem State.takeContent_freshness (s : State) (p : Station) (f : Frame) :
    (s.takeContent p f).timebase.freshness = s.timebase.freshness ∨
      (s.takeContent p f).timebase.freshness = s.timebase.freshness.set p.val 2 := by
  have hsame {t u : State} {bs : List Block} (h : t.changesOnly u bs) (hb : Block.timebase ∉ bs) :
      u.timebase = t.timebase := h .timebase hb
  have hlearn (t : State) (n : Seq) : (t.learnNumbering p n).timebase = t.timebase := by
    unfold State.learnNumbering; split <;> rfl
  have hcompare (t : State) (x : Stamp) (n : Seq) : (t.compareNext p x n).timebase = t.timebase := by
    unfold State.compareNext
    split
    · rfl
    · split
      · exact hsame (t.advance_frame p _ _ _) (by decide)
      · split <;> rfl
  unfold State.takeContent
  split
  · rw [hlearn]; exact .inl rfl
  · unfold State.takeTime
    rw [hcompare]
    unfold State.takeSample
    split
    · rw [State.takeTimeState, State.setPeer_timebase, hlearn]; exact .inl rfl
    · right; simp only [State.takeTimeState, State.setPeer_timebase, hlearn]
  · rw [hsame (s.takeRecords_frame p _ _) (by decide)]; exact .inl rfl
  · rw [hsame (s.takeRecords_frame _ _ _) (by decide)]; exact .inl rfl
  · exact .inl rfl
  · exact .inl rfl

theorem State.passOn_freshness (s : State) (p : Station) (f : Frame) :
    (s.passOn p f).timebase.freshness = s.timebase.freshness ∨
      (s.passOn p f).timebase.freshness = s.timebase.freshness.set p.val 2 := by
  have hsender : (s.takeSender p f).timebase = s.timebase := s.takeSender_frame p f .timebase (by decide)
  have hrepair (t : State) : (t.takeRepair p f).timebase = t.timebase :=
    t.takeRepair_frame p f .timebase (by decide)
  have hhorizon (t : State) : t.computeHorizon.timebase = t.timebase :=
    t.computeHorizon_frame .timebase (by decide)
  have hcontent := (s.takeSender p f).takeContent_freshness p f
  rw [hsender] at hcontent
  unfold State.passOn
  simp only
  split
  · rw [hhorizon, hrepair]; exact hcontent
  · rw [hrepair]; exact hcontent

end Sys2Proof.Machine

namespace Sys2Proof.TimeInvariants

open Sys2Proof Sys2Proof.Machine

/-- `TimeKept` of a Timebase, with what says that the station is UNCONFIGURED, and SI. -/
structure TimebaseKept (unconfigured : Prop) (si : Nat) (b : Timebase) : Prop where
  remainder : b.slewRemainder.natAbs ≤ si * 10
  locked : b.slewRemainder ≠ 0 → b.timeState = .locked
  lockRun : b.lockRun < Config.lockRuns
  releaseRun : b.releaseRun < Config.releaseRuns
  holdover : b.holdover < Config.holdoverLimit
  fresh : ∀ p : Station, b.freshness[p.val] ≤ 2
  rounds : unconfigured ↔ b.roundTimer = none
  free : unconfigured → b.timeState = .free ∧ b.correction = 0

theorem timeKept_iff (s : State) :
    s.TimeKept ↔ TimebaseKept (s.control.lifecycle = .unconfigured) s.control.config.si s.timebase := by
  constructor
  · rintro ⟨h1, h2, h3, h4, h5, h6, h7, h8⟩
    exact ⟨h1, h2, h3, h4, h5, h6, h7, h8⟩
  · rintro ⟨h1, h2, h3, h4, h5, h6, h7, h8⟩
    exact ⟨h1, h2, h3, h4, h5, h6, h7, h8⟩

section
variable {unconfigured : Prop} {si : Nat} {b : Timebase}

/-- Out of LOCKED no remainder is left. -/
theorem TimebaseKept.remainder_zero (h : TimebaseKept unconfigured si b) (hs : b.timeState ≠ .locked) :
    b.slewRemainder = 0 := by
  by_contra hr; exact hs (h.locked hr)

theorem TimebaseKept.congr_control (h : TimebaseKept unconfigured si b) {unconfigured' : Prop} {si' : Nat}
    (hu : unconfigured' ↔ unconfigured) (hsi : si' = si ∨ unconfigured) :
    TimebaseKept unconfigured' si' b := by
  refine { h with rounds := hu.trans h.rounds, free := fun hc => h.free (hu.mp hc), remainder := ?_ }
  rcases hsi with rfl | hc
  · exact h.remainder
  · rw [h.remainder_zero (by simp [(h.free hc).1])]; exact Nat.zero_le _

end

/-- A change of the time state from a state that is kept but for its run counts leaves a kept Timebase. -/
theorem changeTimeState_kept {s : State} {si : Nat} (t : TimeState)
    (hr : s.timebase.timeState ≠ .locked → s.timebase.slewRemainder = 0)
    (hf : ∀ p : Station, s.timebase.freshness[p.val] ≤ 2) (hround : s.timebase.roundTimer ≠ none) :
    TimebaseKept False si (s.changeTimeState t).timebase := by
  have hzero : (s.changeTimeState t).timebase.slewRemainder = 0 := by
    show (if s.timebase.timeState == .locked then 0 else s.timebase.slewRemainder) = 0
    split
    · rfl
    · rename_i hl; exact hr (by simpa using hl)
  exact ⟨by rw [hzero]; exact Nat.zero_le _, fun hn => absurd hn (not_not_intro hzero),
    (by decide : 0 < Config.lockRuns), (by decide : 0 < Config.releaseRuns),
    (by decide : 0 < Config.holdoverLimit), hf,
    ⟨False.elim, fun hn => hround hn⟩, False.elim⟩

theorem noteStep_timebase_kept {s : State} {si : Nat} (a : Int) (h : TimebaseKept False si s.timebase) :
    TimebaseKept False si (s.noteStep a).timebase := by
  rw [s.noteStep_timebase]; exact h

theorem clampTo_natAbs_le (cap : Nat) (a : Int) : (clampTo (cap : Int) a).natAbs ≤ cap := by
  unfold clampTo; omega

theorem holdOver_kept {s : State} (h : TimebaseKept False s.control.config.si s.timebase) :
    TimebaseKept False s.control.config.si s.holdOver.timebase := by
  have hround : s.timebase.roundTimer ≠ none := fun hn => h.rounds.mpr hn
  unfold State.holdOver
  simp only
  split
  · exact changeTimeState_kept _ (fun hl => h.remainder_zero hl) h.fresh hround
  · rename_i hlow
    exact { h with
      lockRun := (by decide : 0 < Config.lockRuns), releaseRun := (by decide : 0 < Config.releaseRuns),
      holdover := Nat.lt_of_not_le hlow }

theorem acquireRound_kept {s : State} (h : TimebaseKept False s.control.config.si s.timebase) (a : Int) :
    TimebaseKept False s.control.config.si (s.acquireRound a).timebase := by
  have hround : s.timebase.roundTimer ≠ none := fun hn => h.rounds.mpr hn
  unfold State.acquireRound
  simp only
  split
  · exact changeTimeState_kept _ (fun hl => h.remainder_zero hl) h.fresh hround
  · rename_i hlow
    exact { h with
      lockRun := Nat.lt_of_not_le hlow, releaseRun := (by decide : 0 < Config.releaseRuns),
      holdover := (by decide : 0 < Config.holdoverLimit), free := False.elim }

theorem lockedRound_kept {s : State} (h : TimebaseKept False s.control.config.si s.timebase) (a : Int)
    (hl : s.timebase.timeState = .locked) :
    TimebaseKept False s.control.config.si (s.lockedRound a).timebase := by
  have hround : s.timebase.roundTimer ≠ none := fun hn => h.rounds.mpr hn
  unfold State.lockedRound
  simp only
  split
  · exact changeTimeState_kept _ (fun hn => absurd hl hn) h.fresh hround
  · rename_i hlow
    exact { h with
      remainder := clampTo_natAbs_le _ _, locked := fun _ => hl, lockRun := (by decide : 0 < Config.lockRuns)
      releaseRun := Nat.lt_of_not_le hlow, holdover := (by decide : 0 < Config.holdoverLimit) }

theorem applyRound_kept {s : State} (h : TimebaseKept False s.control.config.si s.timebase) :
    TimebaseKept False s.control.config.si s.applyRound.timebase := by
  have hround : s.timebase.roundTimer ≠ none := fun hn => h.rounds.mpr hn
  unfold State.applyRound
  split
  · split
    · exact h
    · exact holdOver_kept h
    · exact holdOver_kept h
  · simp only
    split
    · exact noteStep_timebase_kept _
        (changeTimeState_kept _ (fun hl => h.remainder_zero hl) h.fresh hround)
    · exact noteStep_timebase_kept _ (acquireRound_kept h _)
    · exact lockedRound_kept h _ ‹_›

theorem endRound_kept {s : State} (h : s.TimeKept) (due : s.roundEndDue = true) : s.endRound.TimeKept := by
  have hk := (timeKept_iff s).mp h
  have hcontrol : s.endRound.control = s.control := s.endRound_frame .control (by decide)
  have hconfigured : s.control.lifecycle = .unconfigured ↔ False := by
    simp only [State.roundEndDue, ranOut, Bool.and_eq_true, beq_iff_eq] at due
    exact ⟨fun hu => (nomatch (hk.rounds.mp hu).symm.trans due.2), False.elim⟩
  have happly := applyRound_kept (hk.congr_control hconfigured.symm (.inl rfl))
  rw [timeKept_iff, hcontrol]
  have hnext : TimebaseKept False s.control.config.si s.endRound.timebase := { happly with
    fresh := fun p => by
      have hp := happly.fresh p
      simp only [State.endRound, State.nextRound, Vector.getElem_ofFn]
      omega
    rounds := ⟨False.elim, fun hn => by simp [State.endRound, State.nextRound] at hn⟩
    free := False.elim }
  exact hnext.congr_control hconfigured (.inl rfl)

theorem slew_kept {s : State} (h : s.TimeKept) : s.slew.TimeKept := by
  have hk := (timeKept_iff s).mp h
  have hfree {u : Prop} (hr : s.timebase.slewRemainder ≠ 0) (hu : s.control.lifecycle = .unconfigured) : u := by
    have hl := hk.locked hr
    rw [(hk.free hu).1] at hl
    contradiction
  unfold State.slew
  split
  · rename_i hpos
    refine (timeKept_iff _).mpr { hk with
      remainder := ?_, locked := fun _ => hk.locked (by omega), free := fun hu => hfree (by omega) hu }
    have := hk.remainder
    show (s.timebase.slewRemainder - 1).natAbs ≤ s.control.config.si * 10
    omega
  · split
    · rename_i hneg
      refine (timeKept_iff _).mpr { hk with
        remainder := ?_, locked := fun _ => hk.locked (by omega), free := fun hu => hfree (by omega) hu }
      have := hk.remainder
      show (s.timebase.slewRemainder + 1).natAbs ≤ s.control.config.si * 10
      omega
    · exact h

theorem reset_timeKept (s : State) : s.hold.TimeKept := by
  refine (timeKept_iff _).mpr ⟨Nat.zero_le _, fun h => absurd rfl h, (by decide : 0 < Config.lockRuns),
    (by decide : 0 < Config.releaseRuns), (by decide : 0 < Config.holdoverLimit), fun p => ?_,
    iff_of_true rfl rfl, fun _ => ⟨rfl, rfl⟩⟩
  simp [State.hold, State.reset, Timebase.reset]

theorem timeKept_of_timebase {s u : State} (h : s.TimeKept) (hb : u.timebase = s.timebase)
    (hl : u.control.lifecycle = .unconfigured ↔ s.control.lifecycle = .unconfigured)
    (hc : u.control.config = s.control.config ∨ s.control.lifecycle = .unconfigured) : u.TimeKept := by
  rw [timeKept_iff, hb]
  exact ((timeKept_iff s).mp h).congr_control hl (hc.imp_left (congrArg ConfigRecord.si))

theorem timeKept_of_owed {s u : State} (h : s.TimeKept) {owed : Bool} {counter : BitVec 48}
    (hb : u.timebase = { s.timebase with timeOwed := owed, sofCounter := counter })
    (hl : u.control.lifecycle = .unconfigured ↔ s.control.lifecycle = .unconfigured)
    (hc : u.control.config = s.control.config) : u.TimeKept := by
  have hk : TimebaseKept (s.control.lifecycle = .unconfigured) s.control.config.si
      { s.timebase with timeOwed := owed, sofCounter := counter } := { (timeKept_iff s).mp h with }
  rw [timeKept_iff, hb]
  exact hk.congr_control hl (.inl (congrArg ConfigRecord.si hc))

theorem timeKept_of_frame {s u : State} {cs : List Block} (h : s.TimeKept) (hf : s.changesOnly u cs)
    (hb : ∀ b ∈ [Block.timebase, .control], b ∉ cs) : u.TimeKept := by
  have hcontrol : u.control = s.control := hf .control (hb _ (by decide))
  exact timeKept_of_timebase h (hf .timebase (hb _ (by decide))) (by rw [hcontrol]) (.inl (by rw [hcontrol]))

theorem enterQuiet_timeKept {s : State} (h : s.TimeKept) (hl : s.control.lifecycle ≠ .unconfigured)
    (cause : QuietCause) : (s.enterQuiet cause).TimeKept :=
  timeKept_of_owed h (LineInvariants.enterQuiet_timebase s cause)
    (by rw [State.enterQuiet_control]; simp [hl]) (by rw [State.enterQuiet_control])

theorem takeStart_timeKept {s : State} (h : s.TimeKept) : s.takeStart.TimeKept := by
  have hk := (timeKept_iff s).mp h
  unfold State.takeStart
  split
  · split
    · have hl : s.control.lifecycle = .unconfigured := beq_iff_eq.mp ‹_›
      exact (timeKept_iff _).mpr { hk with rounds := ⟨nofun, nofun⟩, free := nofun }
    · exact h
  · exact h

theorem passOn_timeKept {s : State} (h : s.TimeKept) (p : Station) (f : Frame) :
    (s.passOn p f).TimeKept := by
  have hk := (timeKept_iff s).mp h
  have hcontrol : (s.passOn p f).control = s.control := s.passOn_frame p f .control (by decide)
  have hfresh : ∀ q : Station, (s.passOn p f).timebase.freshness[q.val] ≤ 2 := by
    intro q
    rcases s.passOn_freshness p f with he | he <;> rw [he]
    · exact hk.fresh q
    · by_cases hpq : p = q
      · simp [hpq]
      · rw [Vector.getElem_set_ne _ _ (fun hv => hpq (Fin.ext hv))]
        exact hk.fresh q
  have hb := s.passOn_timebase p f
  rw [Timebase.sameButFresh] at hb
  rw [timeKept_iff, hcontrol, hb]
  exact { hk with fresh := hfresh }

theorem takeCompletion_timebase (s : State) (src : Source) : ∃ owed,
    (s.takeCompletion src).timebase = { s.timebase with timeOwed := owed } := by
  cases src with
  | time => exact ⟨false, rfl⟩
  | event n => exact ⟨s.timebase.timeOwed, s.eventSent_frame n .timebase (by decide)⟩
  | _ => exact ⟨s.timebase.timeOwed, rfl⟩

theorem taken_keeps_time {c : Instr} {s u : State} (h : s.TimeKept) (hline : s.LineKept)
    (hu : Taken s c u) : u.TimeKept := by
  have hmove := hu.control
  by_cases hc : Block.timebase ∉ touches c
  · have hb : u.timebase = s.timebase := hu.frame .timebase hc
    generalize hk : u.control = k at hmove
    cases hmove with
    | reset row => exact absurd (by simp [row, touches]) hc
    | start row _ _ => rcases row with rfl | rfl <;> exact absurd (by simp [touches]) hc
    | quieten why =>
      rcases why with ⟨rfl, -⟩ | ⟨-, -, -, hl⟩
      · exact absurd (by simp [touches]) hc
      · exact timeKept_of_timebase h hb (by rcases hl with hl | hl <;> simp [hk, hl]) (.inl (by rw [hk]))
    | rejoin _ quiet => exact timeKept_of_timebase h hb (by simp [hk, quiet]) (.inl (by rw [hk]))
    | run _ joining => exact timeKept_of_timebase h hb (by simp [hk, joining]) (.inl (by rw [hk]))
    | configure _ unconfigured _ _ => exact timeKept_of_timebase h hb (by rw [hk]) (.inr unconfigured)
    | _ => exact timeKept_of_timebase h hb (by rw [hk]) (.inl (by rw [hk]))
  cases hu with
  | deviceReset => exact reset_timeKept s
  | start _ _ => exact takeStart_timeKept h
  | roundEnd due => exact endRound_kept h due
  | slewTick _ => exact slew_kept (s := { s with ticks := { s.ticks with slew := Config.slewPeriod } }) h
  | sofIdle _ _ => split <;> exact timeKept_of_owed h rfl Iff.rfl rfl
  | frameBegin _ _ => exact timeKept_of_owed h rfl Iff.rfl rfl
  | sofElsewhere _ _ =>
    exact timeKept_of_frame h (cs := [.line, .medium]) (State.changesOnly_trans
      (State.changesOnly_mono s.findBoundary_frame (by decide))
      (State.changesOnly_mono (State.othersDrive_frame _ _) (by decide))) (by decide)
  | @receivedFrame _ raw _ _ _ _ =>
    have hend := timeKept_of_frame h (s.afterReception_frame raw) (by decide)
    rcases s.takeFrame_cases raw with ht | ht | ht | ⟨hl, -, ht⟩ | ⟨p, f, -, -, -, -, ht⟩ <;> rw [ht]
    · exact hend
    · exact hend
    · exact hend
    · refine enterQuiet_timeKept hend ?_ _
      rw [s.afterReception_control]
      rcases hl with hl | hl <;> simp [hl]
    · exact passOn_timeKept hend p f
  | bitError busy =>
    have hrunning := ((s.lineKept_iff.mp hline).sends busy).1
    unfold State.abortFrame
    simp only
    split
    · refine enterQuiet_timeKept h ?_ _
      show s.control.lifecycle ≠ _
      simp [hrunning]
    · exact h
  | frameComplete _ _ =>
    have hend : (s.sentUpTo s.comparedBits).endSending.TimeKept :=
      timeKept_of_frame (u := s.sentUpTo s.comparedBits) h (s.sentUpTo_frame _) (by decide)
    unfold State.completeFrame
    split
    · obtain ⟨owed, hb⟩ := takeCompletion_timebase (s.sentUpTo s.comparedBits).endSending ‹Prepared›.source
      obtain ⟨pending, hc⟩ := (s.sentUpTo s.comparedBits).endSending.takeCompletion_control ‹Prepared›.source
      exact timeKept_of_owed hend hb (by rw [hc]) (by rw [hc])
    · exact hend
  | rejoin row _ =>
    unfold State.takeRejoin
    split
    · have hquiet : s.control.lifecycle = .quiet := beq_iff_eq.mp ‹_›
      exact timeKept_of_timebase h rfl (iff_of_false nofun (by simp [hquiet])) (.inl rfl)
    · exact h
  | status _ _ => exact h
  | peers _ _ => exact h
  | inputs _ _ => exact h
  | clearCounts _ _ => exact h
  | badCommand _ _ => exact h
  | readOperands _ _ => exact h
  | endResponse _ _ =>
    exact timeKept_of_frame h s.endResponse_frame (by decide)
  | selFall _ => exact absurd (by simp [touches]) hc
  | _ => exact absurd (by simp [touches, offerBlocks]) hc

/-! ### The ticks (R31, R110, R118) -/

theorem ticksKept_of_ticks {s u : State} (h : s.TicksKept) (ht : u.ticks = s.ticks) : u.TicksKept := by
  unfold State.TicksKept; rw [ht]; exact h

theorem taken_keeps_ticks {c : Instr} {s u : State} (h : s.TicksKept) (hu : Taken s c u) :
    u.TicksKept := by
  by_cases hc : Block.ticks ∉ touches c
  · exact ticksKept_of_ticks h (hu.frame .ticks hc)
  obtain ⟨hrelease, hslew, hsample⟩ := h
  cases hu with
  | deviceReset => exact ⟨Nat.le_refl _, Nat.le_refl _, Nat.le_refl _⟩
  | sampleTick _ =>
    have hticks := State.sampleAll_frame { s with ticks := { s.ticks with sample := Config.samplePeriod } }
      .ticks (by decide)
    exact ticksKept_of_ticks (s := { s with ticks := { s.ticks with sample := Config.samplePeriod } })
      ⟨hrelease, hslew, Nat.le_refl _⟩ hticks
  | releaseTick _ =>
    have hticks := State.computeHorizon_frame
      { s with ticks := { s.ticks with release := Config.releasePeriod } } .ticks (by decide)
    exact ticksKept_of_ticks (s := { s with ticks := { s.ticks with release := Config.releasePeriod } })
      ⟨Nat.le_refl _, hslew, hsample⟩ hticks
  | slewTick _ =>
    have hticks := State.slew_frame
      { s with ticks := { s.ticks with slew := Config.slewPeriod } } .ticks (by decide)
    exact ticksKept_of_ticks (s := { s with ticks := { s.ticks with slew := Config.slewPeriod } })
      ⟨hrelease, Nat.le_refl _, hsample⟩ hticks
  | status row _ => rcases row with rfl | rfl <;> simp [touches] at hc
  | start row _ => rcases row with rfl | rfl <;> simp [touches] at hc
  | peers row _ => rcases row with rfl | rfl <;> simp [touches] at hc
  | inputs row _ => rcases row with rfl | rfl <;> simp [touches] at hc
  | rejoin row _ => rcases row with rfl | rfl <;> simp [touches] at hc
  | clearCounts row _ => rcases row with rfl | rfl <;> simp [touches] at hc
  | badCommand row _ => rcases row with rfl | rfl <;> simp [touches] at hc
  | endResponse row _ => rcases row with ⟨rfl, -⟩ | ⟨rfl, -⟩ <;> simp [touches] at hc
  | receivedFrame row _ _ _ => cases c <;> simp_all [touches, receptionBlocks, frameBytes]
  | _ => simp [touches, offerBlocks] at hc

/-- Settles O13: the Timebase by the rounds and the slew, the ticks by the rows that restart them. -/
theorem timebaseStaysInRange : Obligations.TimebaseStaysInRange := by
  intro s t htime hticks hline h
  refine step_keeps_blocks (Pre := fun s => (s.TimeKept ∧ s.TicksKept) ∧ s.LineKept)
    (P := fun s => s.TimeKept ∧ s.TicksKept) (bs := [.timebase, .control, .ticks])
    (fun {s t} hsame hP => ?_) (by decide) And.left (fun _ hP => hP)
    (fun hP _ hu => ⟨taken_keeps_time hP.1.1 hP.2 hu, taken_keeps_ticks hP.1.2 hu⟩)
    (fun {s} hP hout => ?_) ⟨⟨htime, hticks⟩, hline⟩ h
  · have hcontrol : t.control = s.control := hsame .control (by decide)
    exact ⟨timeKept_of_timebase hP.1 (hsame .timebase (by decide)) (by rw [hcontrol])
      (.inl (by rw [hcontrol])), ticksKept_of_ticks hP.2 (hsame .ticks (by decide))⟩
  · obtain ⟨⟨hkept, hrelease, hslew, hsample⟩, -⟩ := hP
    have hk := (timeKept_iff s).mp hkept
    rw [State.microsecond, if_neg (by simp [hout])]
    refine ⟨(timeKept_iff _).mpr { hk with rounds := hk.rounds.trans ?_ }, ?_⟩
    · show _ ↔ tickTimer s.timebase.roundTimer = none
      cases s.timebase.roundTimer <;> simp [tickTimer]
    · exact ⟨Nat.le_trans (Nat.sub_le _ _) hrelease, Nat.le_trans (Nat.sub_le _ _) hslew,
        Nat.le_trans (Nat.sub_le _ _) hsample⟩

end Sys2Proof.TimeInvariants
end

section
namespace Sys2Proof.Machine

open Sys2Proof

/-! ### What a transition and the expiries make of an input (R121 to R126) -/

/-- The input with its transition to `level` counted. -/
def Input.counted (x : Input) (level : Bool) : Input :=
  { x with level := level, edgeCount := x.edgeCount + 1 }

/-- R125: the input SUSPENDED. -/
def InputConfig.suspended (c : InputConfig) (x : Input) : Input :=
  { x with
    state := .suspended, holdoffRef := none, holdoffTimer := none, window := none,
    quietTimer := some c.windowTime }

/-- R121: the input after an EDGE: in HOLDOFF, where a hold-off is configured. -/
def InputConfig.reported (c : InputConfig) (x : Input) : Input :=
  if c.holdoff = 0 then x
  else { x with state := .holdoff, holdoffRef := some x.level, holdoffTimer := some c.holdoffTime }

/-- R119 to R125: the input after a transition to `level`. -/
def InputConfig.afterTransition (c : InputConfig) (x : Input) (level : Bool) : Input :=
  let y := { x.counted level with window := c.countInWindow x.window }
  match x.state with
  | .disabled => x
  | .suspended => { x.counted level with quietTimer := some c.windowTime }
  | .armed =>
    if c.overLimit y.window then c.suspended y else if c.mode.reports level then c.reported y else y
  | .holdoff => if c.overLimit y.window then c.suspended y else y

theorem State.setInput_self (s : State) (i : Fin 16) : s.setInput i (s.input i) = s := by
  simp [State.setInput, State.input]

theorem State.capture_inputs (s : State) (stamp : Stamp) (q : TimeState) (d : Detail) :
    (s.capture stamp q d).inputs = s.inputs :=
  s.capture_frame stamp q d .inputs (by decide)

/-- A transition changes its own input, as `afterTransition` says. -/
theorem State.transition_inputs (s : State) (i : Fin 16) (level : Bool) (stamp : Stamp) (q : TimeState)
    (snap : Line16) : (s.transition i level stamp q snap).inputs =
      (s.setInput i ((s.inputConfig i).afterTransition (s.input i) level)).inputs := by
  unfold State.transition InputConfig.afterTransition
  cases hs : (s.input i).state with
  | disabled => simp only [hs]; rw [State.setInput_self]
  | suspended => simp only [hs, Input.counted]
  | armed =>
    simp only [hs, Input.counted]
    split
    · rw [State.suspendInput, State.capture_inputs, InputConfig.suspended]
    · split
      · rw [State.reportEdge, State.capture_inputs, InputConfig.reported]
      · rfl
  | holdoff =>
    simp only [hs, Input.counted]
    split
    · rw [State.suspendInput, State.capture_inputs, InputConfig.suspended]
    · rfl

/-- A free order is a permutation. -/
theorem arrange_perm {α : Type} (n k : Nat) (xs : List α) : (arrange n k xs).Perm xs := by
  induction n generalizing k xs with
  | zero => exact .refl _
  | succ n ih =>
    match xs with
    | [] => exact .refl _
    | [x] => exact .refl _
    | x :: y :: zs =>
      have hj : Config.tieChoice k % (zs.length + 2) < (x :: y :: zs).length :=
        Nat.mod_lt _ (Nat.succ_pos _)
      rw [arrange, List.getElem?_eq_getElem hj]
      exact ((ih (k + 1) _).cons _).trans (List.getElem_cons_eraseIdx_perm hj)

end Sys2Proof.Machine

namespace Sys2Proof.InputInvariants

open Sys2Proof Sys2Proof.Machine

/-- `inputKept` of an input, with its configuration and what says that the station is UNCONFIGURED. -/
structure InputKept (c : InputConfig) (unconfigured : Prop) (x : Input) : Prop where
  holdoffTimer : x.holdoffTimer.isSome = true ↔ x.state = .holdoff
  holdoffRef : x.holdoffRef.isSome = true ↔ x.state = .holdoff
  quietTimer : x.quietTimer.isSome = true ↔ x.state = .suspended
  window : ∀ w ∈ x.window, 1 ≤ w.count ∧ w.count ≤ c.chatterLimit ∧
    (x.state = .armed ∨ x.state = .holdoff)
  candidate : ∀ k ∈ x.candidate, c.qualification = .qualified ∧ k.level = !x.level
  disabled : x.state = .disabled → x = Input.reset
  before : unconfigured → x.state = .disabled
  off : ¬ unconfigured → (x.state = .disabled ↔ c.mode = .off)

theorem inputKept_iff (s : State) (i : Fin 16) : s.inputKept i ↔
    InputKept (s.inputConfig i) (s.control.lifecycle = .unconfigured) (s.input i) := by
  constructor
  · rintro ⟨h1, h2, h3, h4, h5, h6, h7, h8⟩
    exact ⟨h1, h2, h3, h4, h5, h6, h7, h8⟩
  · rintro ⟨h1, h2, h3, h4, h5, h6, h7, h8⟩
    exact ⟨h1, h2, h3, h4, h5, h6, h7, h8⟩

theorem reset_inputKept (c : InputConfig) (unconfigured : Prop) (h : ¬ unconfigured → c.mode = .off) :
    InputKept c unconfigured Input.reset :=
  ⟨iff_of_false nofun nofun, iff_of_false nofun nofun, iff_of_false nofun nofun, nofun, nofun,
    fun _ => rfl, fun _ => rfl, fun hu => iff_of_true rfl (h hu)⟩

section
variable {c : InputConfig} {unconfigured : Prop} {x : Input}

/-- A change of state of an input that is not DISABLED leaves what is said of DISABLED inputs. -/
theorem InputKept.enabled (h : InputKept c unconfigured x) (hx : x.state ≠ .disabled) {y : Input}
    (hy : y.state ≠ .disabled) :
    (y.state = .disabled → y = Input.reset) ∧ (unconfigured → y.state = .disabled) ∧
      (¬ unconfigured → (y.state = .disabled ↔ c.mode = .off)) :=
  ⟨fun hd => absurd hd hy, fun hu => absurd (h.before hu) hx,
    fun hu => iff_of_false hy fun hm => hx ((h.off hu).mpr hm)⟩

theorem InputKept.suspended (h : InputKept c unconfigured x) (hx : x.state ≠ .disabled) {y : Input}
    (candidate : y.candidate = none) : InputKept c unconfigured (c.suspended y) := by
  obtain ⟨hd, hb, ho⟩ := h.enabled hx (y := c.suspended y) nofun
  exact ⟨iff_of_false nofun nofun, iff_of_false nofun nofun, iff_of_true rfl rfl, nofun,
    fun k hk => by simp [InputConfig.suspended, candidate] at hk, hd, hb, ho⟩

/-- Within the limit the count of a window stays at least 1 and at most the limit. -/
theorem countInWindow_within {w : Option ChatterWindow} (h : ∀ v ∈ w, 1 ≤ v.count ∧ v.count ≤ c.chatterLimit)
    (hover : c.overLimit (c.countInWindow w) = false) :
    ∀ v ∈ c.countInWindow w, 1 ≤ v.count ∧ v.count ≤ c.chatterLimit := by
  unfold InputConfig.countInWindow InputConfig.overLimit at *
  by_cases hlimit : c.chatterLimit = 0
  · simpa [hlimit] using h
  · rw [if_neg hlimit] at hover ⊢
    intro v hv
    cases w with
    | none =>
      rw [← Option.some.inj hv]
      exact ⟨Nat.le_refl _, Nat.one_le_iff_ne_zero.mpr hlimit⟩
    | some w =>
      rw [← Option.some.inj hv]
      simp only [hlimit, Bool.and_eq_false_iff, decide_eq_false_iff_not,
        Nat.not_lt, bne_eq_false_iff_eq, false_or] at hover
      exact ⟨Nat.succ_pos _, hover⟩

theorem InputKept.reported (h : InputKept c unconfigured x) (hx : x.state ≠ .disabled)
    (hq : x.quietTimer = none) : InputKept c unconfigured (c.reported x) := by
  unfold InputConfig.reported
  split
  · exact h
  · obtain ⟨hd, hb, ho⟩ := h.enabled hx
      (y := { x with state := .holdoff, holdoffRef := some x.level, holdoffTimer := some c.holdoffTime }) nofun
    exact ⟨iff_of_true rfl rfl, iff_of_true rfl rfl, iff_of_false (by simp [hq]) nofun,
      fun w hw => ⟨(h.window w hw).1, (h.window w hw).2.1, .inr rfl⟩, h.candidate, hd, hb, ho⟩

/-- A transition keeps an input whose candidate is closed. -/
theorem InputKept.afterTransition (h : InputKept c unconfigured x) (hcand : x.candidate = none)
    (level : Bool) : InputKept c unconfigured (c.afterTransition x level) := by
  have hnone {y : Input} (hy : y.candidate = none) : ∀ k ∈ y.candidate,
      c.qualification = .qualified ∧ k.level = !y.level := by rw [hy]; nofun
  -- the transition counted, with its window within the limit
  have hwithin (hs : x.state = .armed ∨ x.state = .holdoff)
      (hover : c.overLimit (c.countInWindow x.window) = false) :
      InputKept c unconfigured { x.counted level with window := c.countInWindow x.window } := by
    have hne : x.state ≠ .disabled := by rcases hs with hs | hs <;> simp [hs]
    obtain ⟨hd, hb, ho⟩ := h.enabled hne (y := { x.counted level with window := c.countInWindow x.window }) hne
    have hwindow := countInWindow_within (fun v hv => ⟨(h.window v hv).1, (h.window v hv).2.1⟩) hover
    exact ⟨h.holdoffTimer, h.holdoffRef, h.quietTimer,
      fun w hw => ⟨(hwindow w hw).1, (hwindow w hw).2, hs⟩, hnone hcand, hd, hb, ho⟩
  unfold InputConfig.afterTransition
  cases hs : x.state with
  | disabled => exact h
  | suspended =>
    have hne : x.state ≠ .disabled := by simp [hs]
    obtain ⟨hd, hb, ho⟩ := h.enabled hne
      (y := { x.counted level with quietTimer := some c.windowTime }) hne
    exact ⟨h.holdoffTimer, h.holdoffRef, iff_of_true rfl hs, h.window, hnone hcand, hd, hb, ho⟩
  | armed =>
    simp only
    split
    · exact h.suspended (by simp [hs]) hcand
    · rename_i hover
      have hy := hwithin (.inl hs) (by simpa using hover)
      split
      · refine hy.reported (by simp [Input.counted, hs]) ?_
        have := h.quietTimer
        simpa [hs, Option.isSome_iff_ne_none, Input.counted] using this
      · exact hy
  | holdoff =>
    simp only
    split
    · exact h.suspended (by simp [hs]) hcand
    · rename_i hover
      exact hwithin (.inr hs) (by simpa using hover)

theorem InputKept.tick (h : InputKept c unconfigured x) : InputKept c unconfigured x.tick := by
  have htimer (t : Option Nat) : (tickTimer t).isSome = t.isSome := by cases t <;> rfl
  refine ⟨?_, h.holdoffRef, ?_, fun w hw => ?_, h.candidate, fun hd => ?_, h.before, h.off⟩
  · show (tickTimer x.holdoffTimer).isSome = true ↔ _
    rw [htimer]; exact h.holdoffTimer
  · show (tickTimer x.quietTimer).isSome = true ↔ _
    rw [htimer]; exact h.quietTimer
  · obtain ⟨v, hv, rfl⟩ := Option.map_eq_some_iff.mp hw
    exact h.window v hv
  · rw [h.disabled hd]; rfl

end

theorem input_setInput (s : State) (i j : Fin 16) (x : Input) :
    (s.setInput i x).input j = if j = i then x else s.input j := by
  split
  · rename_i h; rw [h, State.input_setInput_same]
  · rename_i h; exact State.input_setInput_other s i j x h

/-- Inputs that another state holds too, under the same configuration. -/
theorem inputsKept_of_inputs {s u : State} (h : s.InputsKept) (hi : u.inputs = s.inputs)
    (hl : u.control.lifecycle = .unconfigured ↔ s.control.lifecycle = .unconfigured)
    (hc : u.control.config = s.control.config) : u.InputsKept := by
  intro i
  have hk := (inputKept_iff s i).mp (h i)
  rw [inputKept_iff, State.input_congr hi, State.inputConfig, hc]
  exact { hk with before := fun hu => hk.before (hl.mp hu), off := fun hu => hk.off fun hn => hu (hl.mpr hn) }

theorem inputsKept_of_frame {s u : State} {bs : List Block} (h : s.InputsKept) (hf : s.changesOnly u bs)
    (hb : ∀ b ∈ [Block.inputs, .control], b ∉ bs) : u.InputsKept := by
  have hcontrol : u.control = s.control := hf .control (hb _ (by decide))
  exact inputsKept_of_inputs h (hf .inputs (hb _ (by decide))) (by rw [hcontrol]) (by rw [hcontrol])

theorem inputsKept_setInput {s : State} (h : s.InputsKept) {i : Fin 16} {x : Input}
    (hx : InputKept (s.inputConfig i) (s.control.lifecycle = .unconfigured) x) :
    (s.setInput i x).InputsKept := by
  intro j
  rw [inputKept_iff, input_setInput]
  split
  · rename_i hj; rw [hj]; exact hx
  · exact (inputKept_iff s j).mp (h j)

theorem setInput_capture_kept {s : State} (h : s.InputsKept) {i : Fin 16} {x : Input}
    (hx : InputKept (s.inputConfig i) (s.control.lifecycle = .unconfigured) x) (stamp : Stamp) (q : TimeState)
    (d : Detail) : ((s.setInput i x).capture stamp q d).InputsKept :=
  inputsKept_of_frame (inputsKept_setInput h hx) (State.capture_frame _ _ _ _) (by decide)

theorem transition_kept {s : State} (h : s.InputsKept) {i : Fin 16} (hcand : (s.input i).candidate = none)
    (level : Bool) (stamp : Stamp) (q : TimeState) (snap : Line16) :
    (s.transition i level stamp q snap).InputsKept := by
  have hcontrol : (s.transition i level stamp q snap).control = s.control :=
    s.transition_frame i level stamp q snap .control (by decide)
  exact inputsKept_of_inputs
    (inputsKept_setInput h (((inputKept_iff s i).mp (h i)).afterTransition hcand level))
    (s.transition_inputs i level stamp q snap) (by rw [hcontrol]; rfl) (by rw [hcontrol]; rfl)

/-- A DIRECT input has no candidate. -/
theorem readDirect_kept {s : State} (h : s.InputsKept) (i : Fin 16) : (s.readDirect i).InputsKept := by
  unfold State.readDirect
  split
  · rename_i hdue
    simp only [State.directReadDue, Bool.and_eq_true, bne_iff_ne, beq_iff_eq] at hdue
    obtain ⟨⟨⟨⟨-, hstate⟩, hdirect⟩, -⟩, -⟩ := hdue
    have hk := (inputKept_iff s i).mp (h i)
    have hcand : (s.input i).candidate = none := by
      cases hc : (s.input i).candidate with
      | none => rfl
      | some k => exact absurd (hdirect.symm.trans (hk.candidate k hc).1) (by decide)
    obtain ⟨hd, hb, ho⟩ := hk.enabled hstate (y := { s.input i with countTaken := true }) hstate
    have hx : InputKept (s.inputConfig i) (s.control.lifecycle = .unconfigured)
        { s.input i with countTaken := true } :=
      ⟨hk.holdoffTimer, hk.holdoffRef, hk.quietTimer, hk.window, hk.candidate, hd, hb, ho⟩
    refine transition_kept (inputsKept_setInput h hx) ?_ _ _ _ _
    rw [State.input_setInput_same]
    exact hcand
  · exact h

/-- An input that a sample tick reads. -/
def Sampled (s : State) (i : Fin 16) : Prop :=
  (s.input i).state ≠ .disabled ∧ (s.inputConfig i).qualification = .qualified

theorem afterTransition_enabled {c : InputConfig} {x : Input} (h : x.state ≠ .disabled) (level : Bool) :
    (c.afterTransition x level).state ≠ .disabled := by
  unfold InputConfig.afterTransition InputConfig.suspended InputConfig.reported Input.counted
  cases hs : x.state with
  | disabled => exact absurd hs h
  | suspended => simp
  | armed => simp only; split_ifs <;> simp
  | holdoff => simp only; split_ifs <;> simp

/-- Sampling an input disables none. -/
theorem sampleInput_sampled {s : State} {i j : Fin 16} (h : Sampled s j) : Sampled (s.sampleInput i) j := by
  have hset {t : State} {x : Input} (ht : Sampled t j) (hx : i = j → x.state ≠ .disabled) :
      Sampled (t.setInput i x) j := by
    refine ⟨?_, ht.2⟩
    rw [input_setInput]
    split
    · rename_i hj; exact hx hj.symm
    · exact ht.1
  have htransition {t : State} (level : Bool) (stamp : Stamp) (q : TimeState) (snap : Line16)
      (ht : Sampled t j) : Sampled (t.transition i level stamp q snap) j := by
    have hcontrol : (t.transition i level stamp q snap).control = t.control :=
      t.transition_frame i level stamp q snap .control (by decide)
    have hmove := hset ht (x := (t.inputConfig i).afterTransition (t.input i) level)
      fun hij => afterTransition_enabled (hij ▸ ht.1) level
    refine ⟨?_, by rw [State.inputConfig, hcontrol]; exact ht.2⟩
    rw [State.input_congr (t.transition_inputs i level stamp q snap)]
    exact hmove.1
  unfold State.sampleInput
  split
  · split
    · exact h
    · exact hset h fun hij => hij ▸ h.1
  · simp only
    split
    · exact htransition _ _ _ _ (hset h fun hij => hij ▸ h.1)
    · exact hset h fun hij => hij ▸ h.1

theorem sampleInput_kept {s : State} (h : s.InputsKept) {i : Fin 16} (hs : Sampled s i) :
    (s.sampleInput i).InputsKept := by
  have hk := (inputKept_iff s i).mp (h i)
  obtain ⟨hstate, hqualified⟩ := hs
  have hclosed : InputKept (s.inputConfig i) (s.control.lifecycle = .unconfigured)
      { s.input i with candidate := none } := by
    obtain ⟨hd, hb, ho⟩ := hk.enabled hstate (y := { s.input i with candidate := none }) hstate
    exact ⟨hk.holdoffTimer, hk.holdoffRef, hk.quietTimer, hk.window, nofun, hd, hb, ho⟩
  unfold State.sampleInput
  split
  · split
    · exact h
    · rename_i hdiffers
      refine inputsKept_setInput h ?_
      obtain ⟨hd, hb, ho⟩ := hk.enabled hstate (y := { s.input i with
        candidate := some (Candidate.mk (s.pin i) s.now s.timebase.timeState s.snapshot) }) hstate
      refine ⟨hk.holdoffTimer, hk.holdoffRef, hk.quietTimer, hk.window, fun k hc => ?_, hd, hb, ho⟩
      rw [← Option.some.inj hc]
      refine ⟨hqualified, ?_⟩
      show s.pin i = !(s.input i).level
      cases hp : s.pin i <;> cases hl : (s.input i).level <;> simp_all
  · simp only
    split
    · refine transition_kept (inputsKept_setInput h hclosed) ?_ _ _ _ _
      rw [State.input_setInput_same]
    · exact inputsKept_setInput h hclosed

theorem sampleAll_kept {s : State} (h : s.InputsKept) : s.sampleAll.InputsKept := by
  have hfold (xs : List (Fin 16)) : ∀ t : State, t.InputsKept → (∀ i ∈ xs, Sampled t i) →
      (xs.foldl State.sampleInput t).InputsKept := by
    induction xs with
    | nil => exact fun t ht _ => ht
    | cons i xs ih =>
      intro t ht hs
      exact ih _ (sampleInput_kept ht (hs i (by simp))) fun j hj =>
        sampleInput_sampled (hs j (List.mem_cons_of_mem _ hj))
  refine hfold _ _ h fun i hi => ?_
  have hmem := (arrange_perm 16 s.choices s.sampledInputs).mem_iff.mp hi
  simp only [State.sampledInputs, List.mem_filter, Bool.and_eq_true, bne_iff_ne, beq_iff_eq] at hmem
  exact hmem.2

theorem endHoldoff_kept {s : State} (h : s.InputsKept) {i : Fin 16} (due : s.holdoffDue i = true) :
    (s.endHoldoff i).InputsKept := by
  have hk := (inputKept_iff s i).mp (h i)
  have hstate : (s.input i).state = .holdoff := by
    simp only [State.holdoffDue, Bool.and_eq_true, beq_iff_eq] at due
    exact due.1.2
  unfold State.endHoldoff
  simp only
  split
  · obtain ⟨hd, hb, ho⟩ := hk.enabled (by simp [hstate]) (y := { s.input i with
        holdoffRef := some (s.input i).level, holdoffTimer := some (s.inputConfig i).holdoffTime })
      (by simp [hstate])
    refine setInput_capture_kept h ?_ _ _ _
    exact ⟨iff_of_true rfl hstate, iff_of_true rfl hstate, hk.quietTimer, hk.window, hk.candidate, hd, hb, ho⟩
  · obtain ⟨hd, hb, ho⟩ := hk.enabled (by simp [hstate]) (y := { s.input i with
        state := .armed, holdoffRef := none, holdoffTimer := none }) nofun
    refine inputsKept_setInput h ⟨iff_of_false nofun nofun, iff_of_false nofun nofun,
      iff_of_false (fun hq => ?_) nofun, fun w hw => ⟨(hk.window w hw).1, (hk.window w hw).2.1, .inl rfl⟩,
      hk.candidate, hd, hb, ho⟩
    exact absurd (hk.quietTimer.mp hq) (by simp [hstate])

theorem resumeInput_kept {s : State} (h : s.InputsKept) {i : Fin 16} (due : s.quietDue i = true) :
    (s.resumeInput i).InputsKept := by
  have hk := (inputKept_iff s i).mp (h i)
  have hstate : (s.input i).state = .suspended := by
    simp only [State.quietDue, Bool.and_eq_true, beq_iff_eq] at due
    exact due.1.2
  obtain ⟨hd, hb, ho⟩ := hk.enabled (by simp [hstate]) (y := { s.input i with
    state := .armed, window := none, holdoffRef := none, holdoffTimer := none, quietTimer := none }) nofun
  refine setInput_capture_kept h ?_ _ _ _
  exact ⟨iff_of_false nofun nofun, iff_of_false nofun nofun, iff_of_false nofun nofun, nofun, hk.candidate,
    hd, hb, ho⟩

theorem closeWindow_kept {s : State} (h : s.InputsKept) {i : Fin 16} (due : s.windowDue i = true) :
    (s.closeWindow i).InputsKept := by
  have hk := (inputKept_iff s i).mp (h i)
  have hstate : (s.input i).state ≠ .disabled := by
    intro hd
    simp [State.windowDue, hk.disabled hd, Input.reset] at due
  obtain ⟨hd, hb, ho⟩ := hk.enabled hstate (y := { s.input i with window := none }) hstate
  exact inputsKept_setInput h ⟨hk.holdoffTimer, hk.holdoffRef, hk.quietTimer, nofun, hk.candidate, hd, hb, ho⟩

theorem takeStart_inputsKept {s : State} (h : s.InputsKept) : s.takeStart.InputsKept := by
  unfold State.takeStart
  split
  · split
    · intro i
      have hinput : (s.startUp.respond (some .start) [resultOk]).input i =
          Input.atStart (s.inputConfig i).mode (s.pin i) := by
        simp [State.input, State.respond, State.startUp]
      have hjoining : ¬ ((s.startUp.respond (some .start) [resultOk]).control.lifecycle = .unconfigured) := nofun
      rw [inputKept_iff, hinput, Input.atStart]
      show InputKept (s.inputConfig i) _ _
      split
      · exact reset_inputKept _ _ fun _ => beq_iff_eq.mp ‹_›
      · rename_i hmode
        exact ⟨iff_of_false nofun nofun, iff_of_false nofun nofun, iff_of_false nofun nofun, nofun, nofun,
          nofun, fun hu => absurd hu hjoining, fun _ => iff_of_false nofun (by simpa using hmode)⟩
    · exact h
  · exact h

theorem taken_keeps_inputs {c : Instr} {s u : State} (h : s.InputsKept) (hline : s.LineKept)
    (hu : Taken s c u) : u.InputsKept := by
  by_cases hc : Block.inputs ∉ touches c
  · have hi : u.inputs = s.inputs := hu.frame .inputs hc
    have hmove := hu.control
    generalize hk : u.control = k at hmove
    cases hmove with
    | reset row => exact absurd (by simp [row, touches]) hc
    | start row _ _ => rcases row with rfl | rfl <;> exact absurd (by simp [touches]) hc
    | quieten why =>
      refine inputsKept_of_inputs h hi ?_ (by rw [hk])
      rcases why with ⟨-, -, busy⟩ | ⟨-, -, -, hl⟩
      · simp [hk, ((s.lineKept_iff.mp hline).sends busy).1]
      · rcases hl with hl | hl <;> simp [hk, hl]
    | rejoin _ quiet => exact inputsKept_of_inputs h hi (by simp [hk, quiet]) (by rw [hk])
    | run _ joining => exact inputsKept_of_inputs h hi (by simp [hk, joining]) (by rw [hk])
    | configure _ unconfigured _ _ =>
      intro i
      have hs := (inputKept_iff s i).mp (h i)
      have hl : u.control.lifecycle = .unconfigured := by rw [hk]; exact unconfigured
      rw [inputKept_iff, State.input_congr hi, hs.disabled (hs.before unconfigured)]
      exact reset_inputKept _ _ fun hn => absurd hl hn
    | _ => exact inputsKept_of_inputs h hi (by rw [hk]) (by rw [hk])
  cases hu with
  | deviceReset =>
    intro i
    have hinput : s.hold.input i = Input.reset := by simp [State.input, State.hold, State.reset]
    rw [inputKept_iff, hinput]
    exact reset_inputKept _ _ fun hn => absurd rfl hn
  | start _ _ => exact takeStart_inputsKept h
  | pinRead _ => exact readDirect_kept h _
  | pinMove _ => exact h
  | sampleTick _ =>
    exact sampleAll_kept (s := { s with ticks := { s.ticks with sample := Config.samplePeriod } }) h
  | holdoffExpiry due => exact endHoldoff_kept h due
  | windowExpiry due => exact closeWindow_kept h due
  | quietExpiry due => exact resumeInput_kept h due
  | status _ _ => exact h
  | peers _ _ => exact h
  | inputs _ _ => exact h
  | clearCounts _ _ => exact h
  | badCommand _ _ => exact h
  | readOperands _ _ => exact h
  | rejoin row _ =>
    unfold State.takeRejoin
    split
    · have hquiet : s.control.lifecycle = .quiet := beq_iff_eq.mp ‹_›
      exact inputsKept_of_inputs h rfl (iff_of_false nofun (by simp [hquiet])) rfl
    · exact h
  | endResponse _ _ => exact inputsKept_of_frame h s.endResponse_frame (by decide)
  | receivedFrame row _ _ _ => cases c <;> simp_all [touches, receptionBlocks, frameBytes]
  | _ => exact absurd (by simp [touches, offerBlocks]) hc

/-- Settles O14: each input by its transitions and expiries, a sample tick by induction on its inputs. -/
theorem inputsStayConsistent : Obligations.InputsStayConsistent := by
  intro s t hinputs hline h
  refine step_keeps_blocks (Pre := fun s => s.InputsKept ∧ s.LineKept) (P := State.InputsKept)
    (bs := [.inputs, .control]) (fun {s t} hsame hP => ?_) (by decide) And.left (fun _ hP => hP)
    (fun hP _ hu => taken_keeps_inputs hP.1 hP.2 hu) (fun {s} hP hout => ?_) ⟨hinputs, hline⟩ h
  · have hcontrol : t.control = s.control := hsame .control (by decide)
    exact inputsKept_of_inputs hP (hsame .inputs (by decide)) (by rw [hcontrol]) (by rw [hcontrol])
  · intro i
    have hinput : s.microsecond.input i = (s.input i).tick := by
      rw [State.microsecond, if_neg (by simp [hout])]
      simp [State.input]
    rw [inputKept_iff, hinput]
    have hk := ((inputKept_iff s i).mp (hP.1 i)).tick
    rw [State.microsecond, if_neg (by simp [hout])]
    exact hk

end Sys2Proof.InputInvariants
end

section
namespace Sys2Proof.Machine

open Sys2Proof

/-! ### What the journal's operations leave of the tables -/

@[simp] theorem State.offer_peers (s : State) (r : Record) (x : Bool) : (s.offer r x).peers = s.peers :=
  s.offer_frame r x .peers (by decide)
@[simp] theorem State.offer_repair (s : State) (r : Record) (x : Bool) : (s.offer r x).repair = s.repair :=
  s.offer_frame r x .repair (by decide)
@[simp] theorem State.offer_control (s : State) (r : Record) (x : Bool) : (s.offer r x).control = s.control :=
  s.offer_frame r x .control (by decide)
@[simp] theorem State.note_peers (s : State) (d : Detail) : (s.note d).peers = s.peers :=
  s.note_frame d .peers (by decide)
@[simp] theorem State.note_repair (s : State) (d : Detail) : (s.note d).repair = s.repair :=
  s.note_frame d .repair (by decide)
@[simp] theorem State.note_control (s : State) (d : Detail) : (s.note d).control = s.control :=
  s.note_frame d .control (by decide)
@[simp] theorem State.declareRuns_peers (s : State) (p : Station) (c : GapCause) (seqs : List Seq) :
    (s.declareRuns p c seqs).peers = s.peers := s.declareRuns_frame p c seqs .peers (by decide)
@[simp] theorem State.declareRuns_repair (s : State) (p : Station) (c : GapCause) (seqs : List Seq) :
    (s.declareRuns p c seqs).repair = s.repair := s.declareRuns_frame p c seqs .repair (by decide)
@[simp] theorem State.declareRuns_control (s : State) (p : Station) (c : GapCause) (seqs : List Seq) :
    (s.declareRuns p c seqs).control = s.control := s.declareRuns_frame p c seqs .control (by decide)
@[simp] theorem State.declareRuns_timebase (s : State) (p : Station) (c : GapCause) (seqs : List Seq) :
    (s.declareRuns p c seqs).timebase = s.timebase := s.declareRuns_frame p c seqs .timebase (by decide)
@[simp] theorem State.computeHorizon_peers (s : State) : s.computeHorizon.peers = s.peers :=
  s.computeHorizon_frame .peers (by decide)
@[simp] theorem State.computeHorizon_repair (s : State) : s.computeHorizon.repair = s.repair :=
  s.computeHorizon_frame .repair (by decide)
@[simp] theorem State.computeHorizon_timebase (s : State) : s.computeHorizon.timebase = s.timebase :=
  s.computeHorizon_frame .timebase (by decide)

theorem State.note_horizon (s : State) (d : Detail) : (s.note d).journal.horizon = s.journal.horizon :=
  (s.countNote.offer_journal (s.makeNote d) false).1

theorem State.declareRuns_horizon (s : State) (p : Station) (c : GapCause) (seqs : List Seq) :
    (s.declareRuns p c seqs).journal.horizon = s.journal.horizon := by
  unfold State.declareRuns
  generalize seqRuns seqs = runs
  induction runs generalizing s with
  | nil => rfl
  | cons run more ih => rw [List.foldl_cons, ih, State.note_horizon]

theorem State.peer_setPeer (s : State) (p q : Station) (e : PeerEntry) :
    (s.setPeer p e).peer q = if q = p then e else s.peer q := by
  split
  · rename_i h; rw [h, State.peer_setPeer_same]
  · rename_i h; exact State.peer_setPeer_other s p q e h

theorem State.missing_setMissing (s : State) (p q : Station) (set : List Missing) :
    (s.setMissing p set).missing q = if q = p then set else s.missing q := by
  split
  · rename_i h; rw [h, State.missing_setMissing_same]
  · rename_i h; exact State.missing_setMissing_other s p q set h

theorem State.setPeer_self (s : State) (p : Station) : s.setPeer p (s.peer p) = s := by
  simp [State.setPeer, State.peer]

theorem State.setPeer_setPeer (s : State) (p : Station) (e e' : PeerEntry) :
    (s.setPeer p e).setPeer p e' = s.setPeer p e' := by
  simp [State.setPeer]

/-! ### What the journal's operations depend on -/

/-- `t` has the journal, the counters and the host port of `s`, and its network time and time state. -/
structure State.agrees (s t : State) : Prop where
  journal : t.journal = s.journal
  counters : t.counters = s.counters
  host : t.host = s.host
  now : t.now = s.now
  timeState : t.timebase.timeState = s.timebase.timeState

theorem State.agrees_refl (s : State) : s.agrees s := ⟨rfl, rfl, rfl, rfl, rfl⟩

theorem State.agrees.trans {s t u : State} (h : s.agrees t) (h' : t.agrees u) : s.agrees u :=
  ⟨h'.journal.trans h.journal, h'.counters.trans h.counters, h'.host.trans h.host,
    h'.now.trans h.now, h'.timeState.trans h.timeState⟩

theorem State.agrees_of_frame {s t : State} {bs : List Block} (h : s.changesOnly t bs)
    (hb : ∀ b ∈ [Block.journal, .counters, .host, .timebase], b ∉ bs) : s.agrees t := by
  have htime : t.timebase = s.timebase := h .timebase (hb _ (by decide))
  exact ⟨h .journal (hb _ (by decide)), h .counters (hb _ (by decide)), h .host (hb _ (by decide)),
    by rw [State.now, htime]; rfl, by rw [htime]⟩

theorem State.setPeer_agrees (s : State) (p : Station) (e : PeerEntry) : s.agrees (s.setPeer p e) :=
  ⟨rfl, rfl, rfl, rfl, rfl⟩

theorem State.setMissing_agrees (s : State) (p : Station) (set : List Missing) :
    s.agrees (s.setMissing p set) := ⟨rfl, rfl, rfl, rfl, rfl⟩

theorem State.agrees.offer {s t : State} (h : s.agrees t) (r : Record) (x : Bool) :
    (s.offer r x).agrees (t.offer r x) := by
  obtain ⟨hj, hc, hh, hnow, ht⟩ := h
  refine ⟨State.offer_journal_congr r x hj hnow, ?_, ?_, ?_, ?_⟩
  · unfold State.offer
    rw [hj]
    split_ifs <;> simp [State.dropRecord, State.setDropFlag, State.countDrop, State.insertLate,
      State.countLate, State.insertSettling, hc]
  · unfold State.offer
    rw [hj]
    split_ifs <;> simp [State.dropRecord, State.setDropFlag, State.countDrop, State.insertLate,
      State.countLate, State.insertSettling, hh]
  · rw [State.now, State.now, State.offer_timebase, State.offer_timebase]; exact hnow
  · rw [State.offer_timebase, State.offer_timebase, ht]

theorem State.agrees.countNote {s t : State} (h : s.agrees t) : s.countNote.agrees t.countNote :=
  ⟨by simp [State.countNote, h.journal], h.counters, h.host, h.now, h.timeState⟩

theorem State.agrees.note {s t : State} (h : s.agrees t) (d : Detail) : (s.note d).agrees (t.note d) := by
  have hnote : t.makeNote d = s.makeNote d := by
    simp [State.makeNote, h.now, h.journal, h.timeState]
  rw [State.note, State.note, hnote]
  exact h.countNote.offer _ _

theorem State.agrees.declareRuns {s t : State} (h : s.agrees t) (p : Station) (c : GapCause)
    (seqs : List Seq) : (s.declareRuns p c seqs).agrees (t.declareRuns p c seqs) := by
  unfold State.declareRuns
  generalize seqRuns seqs = runs
  induction runs generalizing s t with
  | nil => exact h
  | cons run more ih => exact ih (h.note _)

theorem State.agrees.computeHorizon {s t : State} (h : s.agrees t) (hp : t.peers = s.peers) :
    s.computeHorizon.agrees t.computeHorizon := by
  have hkept (v : State) : v.computeHorizon.counters = v.counters ∧ v.computeHorizon.host = v.host :=
    ⟨v.computeHorizon_frame .counters (by decide), v.computeHorizon_frame .host (by decide)⟩
  refine ⟨State.computeHorizon_journal_congr h.journal h.now (by simp [State.peerTerms, hp]), ?_, ?_, ?_, ?_⟩
  · rw [(hkept s).1, (hkept t).1, h.counters]
  · rw [(hkept s).2, (hkept t).2, h.host]
  · rw [State.now, State.now, State.computeHorizon_timebase, State.computeHorizon_timebase]; exact h.now
  · rw [State.computeHorizon_timebase, State.computeHorizon_timebase, h.timeState]

/-- IRQ settled, what the journal has become of `s` stands in the journal, the counters and the host port. -/
theorem State.agrees.journaledIn {s t : State} (h : s.agrees t) : s.journaledIn t.settleIrq :=
  ⟨h.journal, h.counters, by rw [← h.host]; rfl⟩

/-! ### The sender of a frame (R46 to R49, R51, R54) -/

/-- R68: the mismatch value of the sender's entry after its frame. -/
def State.heardMismatch (s : State) (p : Station) (f : Frame) : Bool :=
  match f.si with
  | some si => si.toNat != s.control.config.si
  | none => (s.peer p).mismatch

theorem State.takeMismatch_eq (s : State) (p : Station) (f : Frame) :
    s.takeMismatch p f = s.setPeer p { s.peer p with mismatch := s.heardMismatch p f } := by
  unfold State.takeMismatch State.heardMismatch
  cases f.si with
  | some si => rfl
  | none => exact (s.setPeer_self p).symm

theorem State.bringActive_peer (s : State) (p q : Station) (n : Option Numbering) (x : Bool) :
    (s.bringActive p n x).peer q = if q = p then
      { s.peer p with
        state := .active, numbering := n, ct := s.journal.horizon, silenceTimer := some s.silenceLimit }
      else s.peer q := by
  rw [State.bringActive, State.peer_congr (State.note_peers _ _), State.peer_setPeer]

theorem State.bringActive_repair (s : State) (p : Station) (n : Option Numbering) (x : Bool) :
    (s.bringActive p n x).repair = s.repair :=
  State.note_repair _ _

theorem State.bringActive_agrees (s : State) (p : Station) (n : Option Numbering) (x : Bool) :
    (s.note (.peerUp p x (s.peer p).mismatch)).agrees (s.bringActive p n x) :=
  (s.setPeer_agrees p _).note _

theorem State.declareLost_peers (s : State) (p : Station) (c : GapCause) (gone : Missing → Bool) :
    (s.declareLost p c gone).peers = s.peers :=
  State.declareRuns_peers _ _ _ _

theorem State.declareLost_repair (s : State) (p : Station) (c : GapCause) (gone : Missing → Bool) :
    (s.declareLost p c gone).repair = (s.setMissing p ((s.missing p).filter (fun m => !gone m))).repair :=
  State.declareRuns_repair _ _ _ _

theorem State.declareLost_missing (s : State) (p q : Station) (c : GapCause) (gone : Missing → Bool) :
    (s.declareLost p c gone).missing q =
      if q = p then (s.missing p).filter (fun m => !gone m) else s.missing q := by
  rw [State.missing_congr (s.declareLost_repair p c gone), State.missing_setMissing]

theorem State.declareLost_agrees (s : State) (p : Station) (c : GapCause) (gone : Missing → Bool) :
    (s.declareRuns p c (((s.missing p).filter gone).map (·.seq))).agrees (s.declareLost p c gone) :=
  (s.setMissing_agrees p _).declareRuns _ _ _

/-- R48, R54: the numbering of the sender's entry before the content of its frame is taken. -/
def State.heardNumbering (s : State) (p : Station) (f : Frame) : Option Numbering :=
  if (s.peer p).state = .absent then f.numbering
  else match f.restartNext with
    | some next => some (Numbering.at next)
    | none => (s.peer p).numbering

/-- What the entry of a sender other than SELF becomes. -/
theorem State.enterSender_peer (s : State) {p : Station} (q : Station) (f : Frame)
    (hself : (s.peer p).state ≠ .self) : (s.enterSender p f).peer q = if q = p then
      { s.peer p with
        state := .active
        numbering := s.heardNumbering p f
        ct := if (s.peer p).state = .active ∧ f.restartNext = none then (s.peer p).ct
          else s.journal.horizon
        silenceTimer := if (s.peer p).state = .active ∧ f.restartNext = none then (s.peer p).silenceTimer
          else some s.silenceLimit }
      else s.peer q := by
  have hrestart (next : Seq) : (s.restartPeer p next).peer q = if q = p then
      { s.peer p with
        state := .active, numbering := some (Numbering.at next), ct := s.journal.horizon,
        silenceTimer := some s.silenceLimit } else s.peer q := by
    have hlimit : (s.declareLost p .restart (fun _ => true)).silenceLimit = s.silenceLimit := by
      rw [State.silenceLimit, State.declareLost, State.declareRuns_control]; rfl
    have hhorizon : (s.declareLost p .restart (fun _ => true)).journal.horizon = s.journal.horizon := by
      rw [State.declareLost, State.declareRuns_horizon]; rfl
    rw [State.restartPeer, State.bringActive_peer, hlimit, hhorizon,
      State.peer_congr (s.declareLost_peers _ _ _), State.peer_congr (s.declareLost_peers _ _ _)]
  unfold State.enterSender State.heardNumbering
  cases hs : (s.peer p).state with
  | self => exact absurd hs hself
  | absent => simp only [State.bringActive_peer]; simp
  | silent =>
    cases hr : f.restartNext with
    | none => simp only [State.bringActive_peer]; simp
    | some next => simp only [hrestart]; simp
  | active =>
    cases hr : f.restartNext with
    | none =>
      simp only [and_self, if_true, reduceCtorEq, if_false]
      split
      · rename_i hq; rw [hq, ← hs]
      · rfl
    | some next => simp only [hrestart]; simp

/-- A restart leaves nothing missing, and nothing else of the missing sets changes. -/
theorem State.enterSender_missing (s : State) {p : Station} (q : Station) (f : Frame)
    (hself : (s.peer p).state ≠ .self) : (s.enterSender p f).missing q =
      if q = p ∧ (s.peer p).state ≠ .absent ∧ f.restartNext ≠ none then [] else s.missing q := by
  have hrestart (next : Seq) : (s.restartPeer p next).missing q = if q = p then [] else s.missing q := by
    rw [State.restartPeer, State.missing_congr (State.bringActive_repair _ _ _ _), State.declareLost_missing]
    simp
  have hbring (n : Option Numbering) (x : Bool) : (s.bringActive p n x).missing q = s.missing q :=
    State.missing_congr (State.bringActive_repair _ _ _ _) q
  unfold State.enterSender
  cases hs : (s.peer p).state with
  | self => exact absurd hs hself
  | absent => simp [hbring]
  | silent => cases hr : f.restartNext <;> simp [hbring, hrestart]
  | active => cases hr : f.restartNext <;> simp [hrestart]

theorem State.enterSender_answers (s : State) (p : Station) (f : Frame) :
    (s.enterSender p f).repair.originAnswers = s.repair.originAnswers ∧
      (s.enterSender p f).repair.proxy = s.repair.proxy := by
  have hbring (t : State) (n : Option Numbering) (x : Bool) : (t.bringActive p n x).repair = t.repair :=
    State.bringActive_repair _ _ _ _
  have hrestart (next : Seq) : (s.restartPeer p next).repair.originAnswers = s.repair.originAnswers ∧
      (s.restartPeer p next).repair.proxy = s.repair.proxy := by
    rw [State.restartPeer, hbring, State.declareLost_repair]
    exact ⟨rfl, rfl⟩
  unfold State.enterSender
  split
  · exact ⟨rfl, rfl⟩
  · rw [hbring]; exact ⟨rfl, rfl⟩
  · exact hrestart _
  · exact hrestart _
  · rw [hbring]; exact ⟨rfl, rfl⟩
  · exact ⟨rfl, rfl⟩

theorem State.takeMismatch_agrees (s : State) (p : Station) (f : Frame) : s.agrees (s.takeMismatch p f) := by
  rw [s.takeMismatch_eq]; exact s.setPeer_agrees _ _

/-- What the entry of a sender other than SELF is before the content of its frame is taken. -/
theorem State.takeSender_peer (s : State) {p : Station} (q : Station) (f : Frame)
    (hself : (s.peer p).state ≠ .self) : (s.takeSender p f).peer q = if q = p then
      { s.peer p with
        state := .active
        numbering := s.heardNumbering p f
        ct := if (s.peer p).state = .active ∧ f.restartNext = none then (s.peer p).ct
          else s.journal.horizon
        silenceTimer := some s.silenceLimit
        lastHeard := some s.now
        mismatch := s.heardMismatch p f }
      else s.peer q := by
  have hm : (s.takeMismatch p f).peer p = { s.peer p with mismatch := s.heardMismatch p f } := by
    rw [s.takeMismatch_eq, State.peer_setPeer_same]
  have hmq : q ≠ p → (s.takeMismatch p f).peer q = s.peer q := fun hq => by
    rw [s.takeMismatch_eq, State.peer_setPeer_other _ _ _ _ hq]
  have hnumbering : (s.takeMismatch p f).heardNumbering p f = s.heardNumbering p f := by
    unfold State.heardNumbering; rw [hm]
  have henter (r : Station) := (s.takeMismatch p f).enterSender_peer (p := p) r f (by rw [hm]; exact hself)
  -- what `hearSender` writes stands in blocks that the entry of the sender leaves
  have htime : ((s.takeMismatch p f).enterSender p f).timebase = s.timebase :=
    s.takeSender_frame p f .timebase (by decide)
  have hcontrol : ((s.takeMismatch p f).enterSender p f).control = s.control :=
    s.takeSender_frame p f .control (by decide)
  have hmismatch := s.takeMismatch_agrees p f
  have hlimit : ((s.takeMismatch p f).enterSender p f).silenceLimit = s.silenceLimit := by
    rw [State.silenceLimit, hcontrol]; rfl
  have hnow : ((s.takeMismatch p f).enterSender p f).now = s.now := by
    rw [State.now, htime]; rfl
  rw [State.takeSender, State.hearSender, State.peer_setPeer, henter p, henter q, hnow, hlimit, hm,
    hnumbering, hmismatch.journal, if_pos rfl]
  split
  · simp
  · rename_i hq; exact hmq hq

theorem State.takeSender_missing (s : State) {p : Station} (q : Station) (f : Frame)
    (hself : (s.peer p).state ≠ .self) : (s.takeSender p f).missing q =
      if q = p ∧ (s.peer p).state ≠ .absent ∧ f.restartNext ≠ none then [] else s.missing q := by
  have hm : (s.takeMismatch p f).peer p = { s.peer p with mismatch := s.heardMismatch p f } := by
    rw [s.takeMismatch_eq, State.peer_setPeer_same]
  have hmissing : (s.takeMismatch p f).missing q = s.missing q := by rw [s.takeMismatch_eq]; rfl
  have henter := (s.takeMismatch p f).enterSender_missing (p := p) q f (by rw [hm]; exact hself)
  rw [hm, hmissing] at henter
  exact henter

theorem State.takeSender_answers (s : State) (p : Station) (f : Frame) :
    (s.takeSender p f).repair.originAnswers = s.repair.originAnswers ∧
      (s.takeSender p f).repair.proxy = s.repair.proxy := by
  have h := (s.takeMismatch p f).enterSender_answers p f
  rw [s.takeMismatch_eq] at h
  rw [State.takeSender, State.hearSender, s.takeMismatch_eq]
  exact h

/-- What the sender's frame makes of the journal before its content is taken: a PEER_UP note where the entry
enters ACTIVE or is restarted, after the declaration of what a restart leaves behind. -/
theorem State.takeSender_agrees (s : State) (p : Station) (f : Frame) :
    ((s.peer p).state = .active → f.restartNext = none → s.agrees (s.takeSender p f)) ∧
    ((s.peer p).state = .absent ∨ ((s.peer p).state = .silent ∧ f.restartNext = none) →
      (s.note (.peerUp p f.restartNext.isSome (s.heardMismatch p f))).agrees (s.takeSender p f)) ∧
    ((s.peer p).state = .active ∨ (s.peer p).state = .silent → f.restartNext ≠ none →
      ((s.declareRuns p .restart ((s.missing p).map (·.seq))).note
        (.peerUp p true (s.heardMismatch p f))).agrees (s.takeSender p f)) := by
  have hpeer : (s.takeMismatch p f).peer p = { s.peer p with mismatch := s.heardMismatch p f } := by
    rw [s.takeMismatch_eq, State.peer_setPeer_same]
  have hmissing : (s.takeMismatch p f).missing p = s.missing p := by rw [s.takeMismatch_eq]; rfl
  have hm := s.takeMismatch_agrees p f
  generalize hv : s.takeMismatch p f = v at *
  have hstate : (v.peer p).state = (s.peer p).state := by rw [hpeer]
  have hheard : (v.enterSender p f).agrees (s.takeSender p f) := by
    rw [State.takeSender, hv]; exact State.setPeer_agrees _ _ _
  have hmis : (v.peer p).mismatch = s.heardMismatch p f := by rw [hpeer]
  have hrestart (next : Seq) : ((s.declareRuns p .restart ((s.missing p).map (·.seq))).note
      (.peerUp p true (s.heardMismatch p f))).agrees (v.restartPeer p next) := by
    have hlost := v.declareLost_agrees p .restart (fun _ => true)
    have hall : (v.missing p).filter (fun _ => true) = s.missing p := by rw [hmissing]; simp
    have hentry : ((v.declareLost p .restart (fun _ => true)).peer p).mismatch = s.heardMismatch p f := by
      rw [State.peer_congr (v.declareLost_peers _ _ _), hmis]
    have hbring := (v.declareLost p .restart (fun _ => true)).bringActive_agrees p
      (some (Numbering.at next)) true
    rw [hall] at hlost
    rw [hentry] at hbring
    exact (((hm.declareRuns _ _ _).trans hlost).note _).trans hbring
  have hbring (n : Option Numbering) (x : Bool) :
      (s.note (.peerUp p x (s.heardMismatch p f))).agrees (v.bringActive p n x) := by
    have h := v.bringActive_agrees p n x
    rw [hmis] at h
    exact (hm.note _).trans h
  rw [← hstate]
  refine ⟨fun hs hr => ?_, fun hs => ?_, fun hs hr => ?_⟩
  · have he : v.enterSender p f = v := by unfold State.enterSender; rw [hs, hr]
    exact hm.trans (he ▸ hheard)
  · refine State.agrees.trans ?_ hheard
    unfold State.enterSender
    rcases hs with hs | ⟨hs, hr⟩
    · rw [hs]; exact hbring _ _
    · rw [hs, hr]; exact hbring _ _
  · refine State.agrees.trans ?_ hheard
    obtain ⟨next, hr⟩ := Option.ne_none_iff_exists'.mp hr
    unfold State.enterSender
    rcases hs with hs | hs <;> rw [hs, hr] <;> exact hrestart next

/-! ### The records of a frame (R57 to R61) -/

/-- R61, R72: the set of `p` once the sequences `new` have joined it. -/
def State.joined (s : State) (p : Station) (new : List Seq) : List Missing :=
  (s.missing p).drop (overrun (s.missing p).length new.length) ++
    (new.drop (overrun (s.missing p).length new.length - (s.missing p).length)).map s.newMissing

/-- R61: the oldest sequences that do not fit when `new` join the set of `p`. -/
def State.overrunBy (s : State) (p : Station) (new : List Seq) : List Seq :=
  ((s.missing p).map (·.seq) ++ new).take (overrun (s.missing p).length new.length)

theorem State.advance_eq (s : State) (p : Station) (n : Numbering) (upTo next : Seq) :
    s.advance p n upTo next = ((s.setMissing p (s.joined p (seqsUpTo n.next upTo))).declareRuns p .overrun
      (s.overrunBy p (seqsUpTo n.next upTo))).setNumbering p { n with next := next } := rfl

theorem State.advance_peer (s : State) (p q : Station) (n : Numbering) (upTo next : Seq) :
    (s.advance p n upTo next).peer q =
      if q = p then { s.peer p with numbering := some { n with next := next } } else s.peer q := by
  have hpeers : ((s.setMissing p (s.joined p (seqsUpTo n.next upTo))).declareRuns p .overrun
      (s.overrunBy p (seqsUpTo n.next upTo))).peers = s.peers := State.declareRuns_peers _ _ _ _
  rw [State.advance_eq, State.setNumbering, State.peer_setPeer, State.peer_congr hpeers,
    State.peer_congr hpeers]

theorem State.advance_missing (s : State) (p q : Station) (n : Numbering) (upTo next : Seq) :
    (s.advance p n upTo next).missing q =
      if q = p then s.joined p (seqsUpTo n.next upTo) else s.missing q := by
  rw [State.advance_eq, State.setNumbering, State.missing_congr (State.setPeer_repair _ _ _),
    State.missing_congr (State.declareRuns_repair _ _ _ _), State.missing_setMissing]

theorem State.advance_answers (s : State) (p : Station) (n : Numbering) (upTo next : Seq) :
    (s.advance p n upTo next).repair.originAnswers = s.repair.originAnswers ∧
      (s.advance p n upTo next).repair.proxy = s.repair.proxy := by
  rw [State.advance_eq, State.setNumbering, State.setPeer_repair, State.declareRuns_repair]
  exact ⟨rfl, rfl⟩

theorem State.advance_agrees (s : State) (p : Station) (n : Numbering) (upTo next : Seq) :
    (s.declareRuns p .overrun (s.overrunBy p (seqsUpTo n.next upTo))).agrees (s.advance p n upTo next) := by
  rw [State.advance_eq]
  exact ((s.setMissing_agrees p _).declareRuns _ _ _).trans (State.setPeer_agrees _ _ _)

/-! ### What the content of a frame does to the entries -/

/-- From `s` to `t` the entry and the missing set of `q` stay, or `q` is a heard peer whose numbering is known
after. -/
def State.learns (s t : State) (q : Station) : Prop :=
  (t.peer q = s.peer q ∧ t.missing q = s.missing q) ∨
    (((s.peer q).state = .active ∨ (s.peer q).state = .silent) ∧ (t.peer q).state = (s.peer q).state ∧
      (t.peer q).silenceTimer = (s.peer q).silenceTimer ∧ (t.peer q).numbering ≠ none)

theorem State.learns_refl (s : State) (q : Station) : s.learns s q := .inl ⟨rfl, rfl⟩

theorem State.learns.trans {s t u : State} {q : Station} (h : s.learns t q) (h' : t.learns u q) :
    s.learns u q := by
  rcases h with ⟨hp, hm⟩ | ⟨hs, hstate, htimer, hn⟩
  · rcases h' with ⟨hp', hm'⟩ | ⟨hs', hstate', htimer', hn'⟩
    · exact .inl ⟨hp'.trans hp, hm'.trans hm⟩
    · rw [hp] at hs' hstate' htimer'
      exact .inr ⟨hs', hstate', htimer', hn'⟩
  · rcases h' with ⟨hp', -⟩ | ⟨-, hstate', htimer', hn'⟩
    · exact .inr ⟨hs, by rw [hp', hstate], by rw [hp', htimer], by rw [hp']; exact hn⟩
    · exact .inr ⟨hs, hstate'.trans hstate, htimer'.trans htimer, hn'⟩

theorem State.learns_of_same {s t : State} (hp : t.peers = s.peers) (hr : t.repair = s.repair)
    (q : Station) : s.learns t q :=
  .inl ⟨State.peer_congr hp q, State.missing_congr hr q⟩

theorem State.advance_learns (s : State) {p : Station} (n : Numbering) (upTo next : Seq) (q : Station)
    (hs : (s.peer p).state = .active ∨ (s.peer p).state = .silent) :
    s.learns (s.advance p n upTo next) q := by
  by_cases hq : q = p
  · rw [hq]
    refine .inr ⟨hs, ?_⟩
    rw [State.advance_peer, if_pos rfl]
    exact ⟨rfl, rfl, nofun⟩
  · refine .inl ⟨?_, ?_⟩
    · rw [State.advance_peer, if_neg hq]
    · rw [State.advance_missing, if_neg hq]

theorem State.classify_learns (s : State) {p : Station} (n : Numbering) (x : Bool) (r : Record) (q : Station)
    (hs : (s.peer p).state = .active ∨ (s.peer p).state = .silent) (hn : (s.peer p).numbering ≠ none) :
    s.learns (s.classify p n x r) q := by
  have hoffer (t : State) : t.learns (t.offer r x) q :=
    State.learns_of_same (t.offer_peers r x) (t.offer_repair r x) q
  unfold State.classify
  split
  · exact (s.advance_learns n _ _ q hs).trans (hoffer _)
  · split
    · refine State.learns.trans ?_ (hoffer _)
      by_cases hq : q = p
      · rw [hq]; exact .inr ⟨hs, rfl, rfl, hn⟩
      · refine .inl ⟨rfl, ?_⟩
        rw [State.fillMissing, State.missing_setMissing, if_neg hq]
    · exact State.learns_of_same rfl rfl q

theorem State.setPeer_learns (s : State) {p : Station} {e : PeerEntry} (q : Station)
    (hs : (s.peer p).state = .active ∨ (s.peer p).state = .silent) (hstate : e.state = (s.peer p).state)
    (htimer : e.silenceTimer = (s.peer p).silenceTimer) (hn : e.numbering ≠ none) :
    s.learns (s.setPeer p e) q := by
  by_cases hq : q = p
  · rw [hq]
    refine .inr ⟨hs, ?_⟩
    rw [State.peer_setPeer_same]
    exact ⟨hstate, htimer, hn⟩
  · exact .inl ⟨State.peer_setPeer_other _ _ _ _ hq, rfl⟩

theorem State.setNumbering_learns (s : State) {p : Station} (n : Numbering) (q : Station)
    (hs : (s.peer p).state = .active ∨ (s.peer p).state = .silent) : s.learns (s.setNumbering p n) q :=
  s.setPeer_learns q hs rfl rfl nofun

theorem State.takeRecord_learns (p : Station) (x : Bool) (s : State) (r : Record) (q : Station) :
    s.learns (State.takeRecord p x s r) q := by
  unfold State.takeRecord
  have hduplicate : s.learns s.countDuplicate q := State.learns_of_same rfl rfl q
  cases hs : (s.peer p).state with
  | self => exact hduplicate
  | absent => exact hduplicate
  | active =>
    cases hn : (s.peer p).numbering with
    | none =>
      simp only
      split
      · exact hduplicate
      · refine (s.setNumbering_learns (Numbering.at r.seq) q (.inl hs)).trans
          (State.classify_learns _ _ _ _ _ ?_ ?_) <;> rw [State.setNumbering, State.peer_setPeer_same]
        · exact .inl hs
        · nofun
    | some n => exact s.classify_learns n x r q (.inl hs) (by simp [hn])
  | silent =>
    cases hn : (s.peer p).numbering with
    | none => exact hduplicate
    | some n => exact s.classify_learns n x r q (.inr hs) (by simp [hn])

theorem State.takeRecords_learns (s : State) (p : Station) (x : Bool) (rs : List Record) (q : Station) :
    s.learns (s.takeRecords p x rs) q := by
  unfold State.takeRecords
  induction rs generalizing s with
  | nil => exact s.learns_refl q
  | cons r rs ih => exact (State.takeRecord_learns p x s r q).trans (ih _)

/-- R53, R64: the numbering an entry has once it is known. -/
theorem State.learnNumbering_eq (s : State) (p : Station) (next : Seq) : s.learnNumbering p next =
    s.setPeer p { s.peer p with
      numbering := some ((s.peer p).numbering.getD (Numbering.at next)) } := by
  unfold State.learnNumbering
  cases hn : (s.peer p).numbering with
  | none => rfl
  | some n =>
    have hsame : { s.peer p with numbering := some n } = s.peer p := by rw [← hn]
    rw [Option.getD_some, hsame]
    exact (s.setPeer_self p).symm

/-! ### The content of a TIME frame (R64 to R68, R100) -/

/-- The entry of the sender of a TIME frame, with its numbering known, its time state and its sample. -/
def State.timeEntry (s : State) (p : Station) (sender : Stamp) (next : Seq) (ts : TimeState) : PeerEntry :=
  { s.peer p with
    numbering := some ((s.peer p).numbering.getD (Numbering.at next))
    timeState := some ts
    offset := if (s.peer p).mismatch then (s.peer p).offset
      else some { value := s.sampleOf sender, round := s.timebase.round } }

/-- The freshness once the sample of a TIME frame has been stored, or not for a mismatch. -/
def State.timeFreshness (s : State) (p : Station) : Vector Nat 24 :=
  if (s.peer p).mismatch then s.timebase.freshness else s.timebase.freshness.set p.val 2

/-- A TIME frame before its next sequence is compared. -/
def State.timeSampled (s : State) (p : Station) (sender : Stamp) (next : Seq) (ts : TimeState) : State :=
  { s.setPeer p (s.timeEntry p sender next ts) with
    timebase := { s.timebase with freshness := s.timeFreshness p } }

theorem State.takeTime_eq (s : State) (p : Station) (sender settled : Stamp) (next : Seq) (ts : TimeState) :
    s.takeTime p sender settled next ts = (s.timeSampled p sender next ts).compareNext p settled next := by
  have hsampled : ((s.learnNumbering p next).takeTimeState p ts).takeSample p sender =
      s.timeSampled p sender next ts := by
    rw [s.learnNumbering_eq, State.takeTimeState, State.peer_setPeer_same, State.setPeer_setPeer]
    unfold State.takeSample State.timeSampled State.timeEntry State.timeFreshness
    rw [State.peer_setPeer_same]
    split
    · rename_i hm; simp [State.setPeer]
    · rename_i hm; simp [State.setPeer, State.sampleOf]
  rw [State.takeTime, hsampled]

theorem State.timeSampled_peer (s : State) (p q : Station) (sender : Stamp) (next : Seq) (ts : TimeState) :
    (s.timeSampled p sender next ts).peer q =
      if q = p then s.timeEntry p sender next ts else s.peer q :=
  s.peer_setPeer p q _

theorem State.timeSampled_agrees (s : State) (p : Station) (sender : Stamp) (next : Seq) (ts : TimeState) :
    s.agrees (s.timeSampled p sender next ts) := ⟨rfl, rfl, rfl, rfl, rfl⟩

theorem State.compareNext_learns (s : State) {p : Station} (settled : Stamp) (next : Seq) (q : Station)
    (hs : (s.peer p).state = .active ∨ (s.peer p).state = .silent) :
    s.learns (s.compareNext p settled next) q := by
  unfold State.compareNext
  cases hn : (s.peer p).numbering with
  | none => exact s.learns_refl q
  | some n =>
    simp only
    split
    · exact s.advance_learns n _ _ q hs
    · split
      · exact s.setPeer_learns q hs rfl rfl (by simp [hn])
      · exact s.learns_refl q

/-- The content of a frame of an ACTIVE sender. -/
theorem State.takeContent_learns (s : State) {p : Station} (f : Frame) (q : Station)
    (hs : (s.peer p).state = .active) : s.learns (s.takeContent p f) q := by
  unfold State.takeContent
  split
  · rw [s.learnNumbering_eq]; exact s.setPeer_learns q (.inl hs) rfl rfl nofun
  · rename_i sender settled next _ ts
    rw [s.takeTime_eq]
    have hsampled : s.learns (s.timeSampled p sender next ts) q := by
      have h := s.setPeer_learns (e := s.timeEntry p sender next ts) q (.inl hs) rfl rfl nofun
      exact h
    refine hsampled.trans (State.compareNext_learns _ _ _ _ (.inl ?_))
    rw [State.timeSampled_peer, if_pos rfl]; exact hs
  · exact s.takeRecords_learns _ _ _ q
  · exact s.takeRecords_learns _ _ _ q
  · exact s.learns_refl q
  · exact s.learns_refl q

end Sys2Proof.Machine
end

section
namespace Sys2Proof.Machine

open Sys2Proof

/-! ### Repair frames at the Repair Unit (R79 to R89) -/

theorem State.addProxy_missing (s : State) (p q : Station) (seq : Seq) :
    (s.addProxy p seq).missing q = s.missing q := by
  unfold State.addProxy
  split <;> rfl

theorem State.addProxy_answers (s : State) (p : Station) (seq : Seq) :
    (s.addProxy p seq).repair.originAnswers = s.repair.originAnswers := by
  unfold State.addProxy
  split <;> rfl

theorem State.takeProxyRequest_missing (s : State) (p q : Station) (seqs : List Seq) :
    (s.takeProxyRequest p seqs).missing q = s.missing q := by
  have hfold (seqs : List Seq) : ∀ t : State,
      (seqs.foldl (fun t q => t.addProxy p q) t).missing q = t.missing q := by
    induction seqs with
    | nil => exact fun _ => rfl
    | cons a seqs ih => exact fun t => (ih _).trans (t.addProxy_missing p q a)
  unfold State.takeProxyRequest
  split
  · exact hfold _ _
  · rfl

theorem State.takeOriginRequest_missing (s : State) (p q : Station) (seqs : List Seq) :
    (s.takeOriginRequest p seqs).missing q = s.missing q := by
  unfold State.takeOriginRequest
  split <;> rfl

/-- A request that does not name its own sender holds back the entries of its subject. -/
theorem State.takeRequest_missing (s : State) (sender subject q : Station) (proxy : Bool) (seqs : List Seq) :
    (s.takeRequest sender subject proxy seqs).missing q =
      if subject ≠ sender ∧ q = subject then (s.missing subject).map (s.holdBackEntry seqs)
      else s.missing q := by
  have hsuppress : (s.suppress subject seqs).missing q =
      if q = subject then (s.missing subject).map (s.holdBackEntry seqs) else s.missing q :=
    State.missing_setMissing _ _ _ _
  unfold State.takeRequest
  by_cases hsame : subject = sender
  · simp [hsame]
  · simp only [hsame, if_false, ne_eq, not_false_eq_true, true_and]
    split_ifs at hsuppress ⊢ <;>
      simp only [State.takeOriginRequest_missing, State.takeProxyRequest_missing, hsuppress]

theorem State.takeRequest_agrees (s : State) (sender subject : Station) (proxy : Bool) (seqs : List Seq) :
    s.agrees (s.takeRequest sender subject proxy seqs) :=
  State.agrees_of_frame (s.takeRequest_frame _ _ _ _) (by decide)

/-- What the Repair Unit makes of a missing set: a REPAIR_REQ holds entries back, a REPAIR_NONE of the origin
takes those it names. -/
theorem State.takeRepair_missing (s : State) (p q : Station) (f : Frame) :
    (s.takeRepair p f).missing q = match f with
      | .repairReq subject _ seqs =>
        if subject ≠ p ∧ q = subject then (s.missing subject).map (s.holdBackEntry seqs) else s.missing q
      | .repairNone subject seqs =>
        if subject = p ∧ q = subject then (s.missing subject).filter (fun m => !seqs.contains m.seq)
        else s.missing q
      | _ => s.missing q := by
  unfold State.takeRepair
  cases f with
  | repairReq subject proxy seqs => exact s.takeRequest_missing p subject q proxy seqs
  | repairNone subject seqs =>
    simp only
    by_cases hsame : subject = p
    · simp only [hsame, if_true, true_and]
      exact s.declareLost_missing p q .expired _
    · simp [hsame]
  | _ => rfl

theorem State.takeRepair_peers (s : State) (p : Station) (f : Frame) :
    (s.takeRepair p f).peers = s.peers :=
  s.takeRepair_frame p f .peers (by decide)

/-- A set in which nothing is missing stays so. -/
theorem State.takeRepair_nil (s : State) {p q : Station} (f : Frame) (h : s.missing q = []) :
    (s.takeRepair p f).missing q = [] := by
  rw [s.takeRepair_missing]
  cases f with
  | repairReq subject proxy seqs =>
    simp only
    split
    · rename_i hq; rw [← hq.2, h]; rfl
    · exact h
  | repairNone subject seqs =>
    simp only
    split
    · rename_i hq; rw [← hq.2, h]; rfl
    · exact h
  | _ => exact h

/-! ### A frame passed on (R46) -/

theorem State.passOn_cases (s : State) (p : Station) (f : Frame) :
    s.passOn p f = ((s.takeSender p f).takeContent p f).takeRepair p f ∨
      s.passOn p f = (((s.takeSender p f).takeContent p f).takeRepair p f).computeHorizon := by
  unfold State.passOn
  simp only
  split
  · exact .inr rfl
  · exact .inl rfl

theorem State.passOn_peers (s : State) (p : Station) (f : Frame) :
    (s.passOn p f).peers = ((s.takeSender p f).takeContent p f).peers := by
  rcases s.passOn_cases p f with h | h <;> rw [h]
  · exact State.takeRepair_peers _ _ _
  · rw [State.computeHorizon_peers]; exact State.takeRepair_peers _ _ _

theorem State.passOn_repair (s : State) (p : Station) (f : Frame) :
    (s.passOn p f).repair = (((s.takeSender p f).takeContent p f).takeRepair p f).repair := by
  rcases s.passOn_cases p f with h | h <;> rw [h]
  exact State.computeHorizon_repair _

/-! ### The missing sets under the other commands -/

theorem State.microsecond_peer (s : State) (hout : s.inReset = false) (q : Station) :
    s.microsecond.peer q = (s.peer q).tick := by
  rw [State.microsecond, if_neg (by simp [hout])]
  simp [State.peer]

theorem State.microsecond_missing (s : State) (hout : s.inReset = false) (q : Station) :
    s.microsecond.missing q = (s.missing q).map Missing.tick := by
  rw [State.microsecond, if_neg (by simp [hout])]
  simp [State.missing]

/-- R45, R167: the release places SELF at the sampled address, when it is valid. -/
theorem State.release_peer (s : State) (adr : BitVec 5) (br : BitVec 2) (q : Station) :
    (s.release adr br).peer q =
      if stationOf adr = some q then { s.peer q with state := .self } else s.peer q := by
  unfold State.release State.placeSelf
  simp only [State.own]
  cases hp : stationOf adr with
  | none => simp [State.peer]
  | some p =>
    simp only [State.peer_setPeer, Option.some.injEq]
    by_cases hq : q = p
    · simp [hq, State.peer]
    · simp [hq, Ne.symm hq, State.peer]

theorem State.release_control (s : State) (adr : BitVec 5) (br : BitVec 2) : (s.release adr br).control =
    { s.control with address := adr, bitRate := bitRateOf br } := by
  unfold State.release State.placeSelf
  split <;> rfl

theorem State.enterQuiet_missing (s : State) (cause : QuietCause) (q : Station) :
    (s.enterQuiet cause).missing q = (s.missing q).map s.spendIfDue := by
  have hrepair : (s.enterQuiet cause).repair = s.quietRepair.repair := rfl
  rw [State.missing, hrepair, State.quietRepair]
  simp

theorem State.expireMissing_missing (s : State) (p q : Station) : (s.expireMissing p).missing q =
    if q = p then ((s.missing p).filter (fun m => !s.exhausted m)).map s.dueAgain else s.missing q := by
  rw [State.expireMissing, State.missing_setMissing, State.declareLost_missing,
    State.declareLost_missing, if_pos rfl]
  split <;> rfl

theorem State.takeCompletion_missing (s : State) (src : Source) (q : Station) :
    (s.takeCompletion src).missing q = match src with
      | .repairReq p seqs => if q = p then
          (s.missing p).map (fun m => if seqs.contains m.seq && m.timer.isDue then s.spendTry m else m)
          else s.missing q
      | _ => s.missing q := by
  cases src with
  | repairReq p seqs => exact State.missing_setMissing _ _ _ _
  | event n =>
    have hrepair : (s.eventSent n).repair = s.repair := s.eventSent_frame n .repair (by decide)
    exact State.missing_congr hrepair q
  | _ => rfl

end Sys2Proof.Machine

namespace Sys2Proof.PeerInvariants

open Sys2Proof Sys2Proof.Machine

/-- `peerKept` of an entry with its missing set, what says that it is the own one, and that the station is
UNCONFIGURED. -/
structure PeerKept (own unconfigured : Prop) (e : PeerEntry) (set : List Missing) : Prop where
  self : e.state = .self ↔ own
  timer : e.silenceTimer.isSome = true ↔ e.state = .active
  absent : e.state = .absent → e = PeerEntry.reset
  missing : e.state = .absent ∨ e.state = .self ∨ e.numbering = none → set = []
  before : unconfigured → e.state = .absent ∨ e.state = .self

theorem peerKept_iff (s : State) (p : Station) : s.peerKept p ↔
    PeerKept (s.own = some p) (s.control.lifecycle = .unconfigured) (s.peer p) (s.missing p) := by
  constructor
  · rintro ⟨h1, h2, h3, h4, h5⟩
    exact ⟨h1, h2, h3, h4, h5⟩
  · rintro ⟨h1, h2, h3, h4, h5⟩
    exact ⟨h1, h2, h3, h4, h5⟩

theorem PeerKept.of_nil {own unconfigured : Prop} {e : PeerEntry} {set set' : List Missing}
    (h : PeerKept own unconfigured e set) (hset : set = [] → set' = []) :
    PeerKept own unconfigured e set' :=
  { h with missing := fun he => hset (h.missing he) }

/-- What learning the content of a frame does to an entry keeps it. -/
theorem PeerKept.learns {own unconfigured : Prop} {s t : State} {q : Station}
    (h : PeerKept own unconfigured (s.peer q) (s.missing q)) (hl : s.learns t q) :
    PeerKept own unconfigured (t.peer q) (t.missing q) := by
  rcases hl with ⟨hp, hm⟩ | ⟨hs, hstate, htimer, hn⟩
  · rw [hp, hm]; exact h
  · have heard : (t.peer q).state ≠ .absent ∧ (t.peer q).state ≠ .self := by
      rw [hstate]; rcases hs with hs | hs <;> simp [hs]
    exact ⟨by rw [hstate]; exact h.self, by rw [htimer, hstate]; exact h.timer,
      fun ha => absurd ha heard.1,
      fun ha => by rcases ha with ha | ha | ha; exacts [absurd ha heard.1, absurd ha heard.2, absurd ha hn],
      by rw [hstate]; exact h.before⟩

theorem passOn_kept {s : State} (h : ∀ q, s.peerKept q) {p : Station} (hown : s.own ≠ some p)
    (hconfigured : s.control.lifecycle ≠ .unconfigured) (f : Frame) (q : Station) :
    (s.passOn p f).peerKept q := by
  have hself : (s.peer p).state ≠ .self := fun hs => hown (((peerKept_iff s p).mp (h p)).self.mp hs)
  have hk := (peerKept_iff s q).mp (h q)
  have hsender : PeerKept (s.own = some q) (s.control.lifecycle = .unconfigured)
      ((s.takeSender p f).peer q) ((s.takeSender p f).missing q) := by
    rw [s.takeSender_peer q f hself, s.takeSender_missing q f hself]
    by_cases hq : q = p
    · subst hq
      simp only [if_true, true_and]
      refine ⟨iff_of_false nofun hown, iff_of_true rfl rfl, nofun, fun hn => ?_,
        fun hu => absurd hu hconfigured⟩
      rcases hn with hn | hn | hn
      · contradiction
      · contradiction
      · simp only [State.heardNumbering] at hn
        by_cases ha : (s.peer q).state = .absent
        · simpa [ha] using hk.missing (.inl ha)
        · cases hr : f.restartNext with
          | some next => simp [ha, hr] at hn
          | none =>
            simp only [ha, if_false, hr] at hn
            simpa [hr] using hk.missing (.inr (.inr hn))
    · simp only [hq, if_false, false_and]; exact hk
  have hactive : ((s.takeSender p f).peer p).state = .active := by
    rw [s.takeSender_peer p f hself, if_pos rfl]
  have hcontent := hsender.learns ((s.takeSender p f).takeContent_learns f q hactive)
  have hcontrol : (s.passOn p f).control = s.control := s.passOn_frame p f .control (by decide)
  rw [peerKept_iff, State.own, hcontrol, State.peer_congr (s.passOn_peers p f),
    State.missing_congr (s.passOn_repair p f)]
  exact hcontent.of_nil fun hnil => State.takeRepair_nil _ f hnil

/-- The entries stay, nothing new is missing, and the station's own address and life cycle stay in step. -/
theorem peersKept_of_peers {s u : State} (h : s.PeersKept) (hp : u.peers = s.peers)
    (hm : ∀ q, s.missing q = [] → u.missing q = []) (ho : u.own = s.own) (hr : u.inReset = s.inReset)
    (hl : u.control.lifecycle = .unconfigured → s.control.lifecycle = .unconfigured)
    (hn : s.own = none → u.control.lifecycle = .unconfigured) : u.PeersKept := by
  obtain ⟨hkept, hreset, -⟩ := h
  refine ⟨fun q => ?_, by rw [hr, ho]; exact hreset, by rw [ho]; exact hn⟩
  have hk := ((peerKept_iff s q).mp (hkept q)).of_nil (hm q)
  rw [peerKept_iff, State.peer_congr hp, ho]
  exact { hk with before := fun hu => hk.before (hl hu) }

theorem peersKept_of_frame {s u : State} {bs : List Block} (h : s.PeersKept) (hf : s.changesOnly u bs)
    (hb : ∀ b ∈ [Block.peers, .control, .repair, .inReset], b ∉ bs) : u.PeersKept := by
  have hcontrol : u.control = s.control := hf .control (hb _ (by decide))
  have hrepair : u.repair = s.repair := hf .repair (hb _ (by decide))
  exact peersKept_of_peers h (hf .peers (hb _ (by decide)))
    (fun q hq => by rw [State.missing_congr hrepair]; exact hq) (by rw [State.own, hcontrol]; rfl)
    (hf .inReset (hb _ (by decide))) (by rw [hcontrol]; exact id) (by rw [hcontrol]; exact h.2.2)

theorem silencePeer_kept {s : State} (h : s.PeersKept) {p : Station} (due : s.silenceDue p = true) :
    (s.silencePeer p).PeersKept := by
  have hactive : (s.peer p).state = .active := by
    simp only [State.silenceDue, Bool.and_eq_true, beq_iff_eq] at due
    exact due.1.2
  have hset : (s.setPeer p { s.peer p with state := .silent, silenceTimer := none }).PeersKept := by
    refine ⟨fun q => ?_, h.2⟩
    have hk := (peerKept_iff s q).mp (h.1 q)
    rw [peerKept_iff, State.peer_setPeer]
    split
    · rename_i hq
      subst hq
      exact ⟨iff_of_false nofun fun ho => by simpa [hactive] using hk.self.mpr ho, iff_of_false nofun nofun,
        nofun, fun hn => hk.missing (.inr (.inr (by rcases hn with hn | hn | hn <;> first | contradiction | exact hn))),
        fun hu => by simpa [hactive] using hk.before hu⟩
    · exact hk
  unfold State.silencePeer
  exact peersKept_of_frame (peersKept_of_frame hset (State.note_frame _ _) (by decide))
    (State.computeHorizon_frame _) (by decide)

theorem release_kept {s : State} (h : s.PeersKept) (held : s.inReset = true) (adr : BitVec 5) (br : BitVec 2) :
    (s.release adr br).PeersKept := by
  have hnone := h.2.1 held
  have hunconfigured := h.2.2 hnone
  have habsent (q : Station) : s.peer q = PeerEntry.reset := by
    have hk := (peerKept_iff s q).mp (h.1 q)
    rcases hk.before hunconfigured with ha | ha
    · exact hk.absent ha
    · exact absurd (hk.self.mp ha) (by simp [hnone])
  have hrepair : (s.release adr br).repair = s.repair := s.release_frame adr br .repair (by decide)
  have hcontrol := s.release_control adr br
  have hown : (s.release adr br).own = stationOf adr := by rw [State.own, hcontrol]
  have hout : (s.release adr br).inReset = false := by
    unfold State.release State.placeSelf; split <;> rfl
  refine ⟨fun q => ?_, fun hr => absurd (hout.symm.trans hr) (by decide), fun _ => by rw [hcontrol]; exact hunconfigured⟩
  have hk := (peerKept_iff s q).mp (h.1 q)
  rw [peerKept_iff, hown, s.release_peer, hcontrol, State.missing_congr hrepair,
    hk.missing (.inl (by rw [habsent]; rfl)), habsent]
  split
  · rename_i hq
    exact ⟨iff_of_true rfl hq, iff_of_false nofun nofun, nofun, fun _ => rfl, fun _ => .inr rfl⟩
  · rename_i hq
    exact ⟨iff_of_false nofun hq, iff_of_false nofun nofun, fun _ => rfl, fun _ => rfl, fun _ => .inl rfl⟩

theorem hold_kept (s : State) : s.hold.PeersKept := by
  refine ⟨fun q => ?_, fun _ => rfl, fun _ => rfl⟩
  have hpeer : s.hold.peer q = PeerEntry.reset := by simp [State.peer, State.hold, State.reset]
  have hmissing : s.hold.missing q = [] := by
    simp [State.missing, State.hold, State.reset, RepairUnit.reset]
  rw [peerKept_iff, hpeer, hmissing]
  exact ⟨iff_of_false nofun nofun, iff_of_false nofun nofun, fun _ => rfl, fun _ => rfl, fun _ => .inl rfl⟩

/-- Where the entries stay and nothing new is missing, the life cycle alone decides. -/
theorem taken_keeps_peers_of_same {c : Instr} {s u : State} (h : s.PeersKept) (hline : s.LineKept)
    (hu : Taken s c u) (hp : u.peers = s.peers) (hm : ∀ q, s.missing q = [] → u.missing q = []) :
    u.PeersKept := by
  rcases hu.straps with ⟨hr, haddress, -⟩ | rfl | ⟨held, adr, br, rfl⟩
  · have ho : u.own = s.own := by rw [State.own, State.own, haddress]
    have hmove := hu.control
    generalize hk : u.control = k at hmove
    cases hmove with
    | reset _ =>
      have hnone : s.own = none := by rw [← ho, State.own, hk]; rfl
      exact peersKept_of_peers h hp hm ho hr (fun _ => h.2.2 hnone) fun _ => by rw [hk]; rfl
    | start _ unconfigured valid =>
      exact peersKept_of_peers h hp hm ho hr (fun _ => unconfigured) fun hn => by simp [hn] at valid
    | rejoin _ quiet =>
      exact peersKept_of_peers h hp hm ho hr (by rw [hk]; nofun) fun hn => by simpa [quiet] using h.2.2 hn
    | run _ joining =>
      exact peersKept_of_peers h hp hm ho hr (by rw [hk]; nofun) fun hn => by simpa [joining] using h.2.2 hn
    | quieten why =>
      refine peersKept_of_peers h hp hm ho hr (by rw [hk]; nofun) fun hn => ?_
      have hl := h.2.2 hn
      rcases why with ⟨-, -, busy⟩ | ⟨-, -, hsome, -⟩
      · simp [((s.lineKept_iff.mp hline).sends busy).1] at hl
      · simp [hn] at hsome
    | _ => exact peersKept_of_peers h hp hm ho hr (by rw [hk]; exact id) (by rw [hk]; exact h.2.2)
  · exact hold_kept s
  · exact release_kept h held adr br

theorem taken_keeps_peers {c : Instr} {s u : State} (h : s.PeersKept) (hline : s.LineKept)
    (hu : Taken s c u) : u.PeersKept := by
  have map_nil {f : Missing → Missing} {set : List Missing} (hset : set = []) : set.map f = [] := by
    rw [hset]; rfl
  by_cases hc : Block.peers ∉ touches c ∧ Block.repair ∉ touches c
  · have hrepair : u.repair = s.repair := hu.frame .repair hc.2
    exact taken_keeps_peers_of_same h hline hu (hu.frame .peers hc.1)
      fun q hq => by rw [State.missing_congr hrepair]; exact hq
  by_cases hc' : Block.peers ∉ touches c
  · refine taken_keeps_peers_of_same h hline hu (hu.frame .peers hc') fun q hq => ?_
    cases hu with
    | repairExpiry _ =>
      rw [s.expireMissing_missing]
      split
      · rename_i hqp; rw [← hqp, hq]; rfl
      · exact hq
    | proxyExpiry _ => exact hq
    | frameBegin _ _ => exact hq
    | bitError _ =>
      unfold State.abortFrame
      simp only
      split
      · rw [State.enterQuiet_missing]; exact map_nil hq
      · exact hq
    | frameComplete _ _ =>
      have hend : (s.sentUpTo s.comparedBits).endSending.missing q = s.missing q := by
        have hrepair : (s.sentUpTo s.comparedBits).repair = s.repair := s.sentUpTo_frame _ .repair (by decide)
        exact State.missing_congr hrepair q
      unfold State.completeFrame
      split
      · rw [State.takeCompletion_missing]
        split
        · split
          · rename_i hqp; rw [← hqp, hend, hq]; rfl
          · rw [hend, hq]
        · rw [hend, hq]
      · rw [hend, hq]
    | status row _ => rcases row with rfl | rfl <;> simp [touches] at hc
    | start row _ => rcases row with rfl | rfl <;> simp [touches] at hc
    | peers row _ => rcases row with rfl | rfl <;> simp [touches] at hc
    | inputs row _ => rcases row with rfl | rfl <;> simp [touches] at hc
    | rejoin row _ => rcases row with rfl | rfl <;> simp [touches] at hc
    | clearCounts row _ => rcases row with rfl | rfl <;> simp [touches] at hc
    | badCommand row _ => rcases row with rfl | rfl <;> simp [touches] at hc
    | endResponse row _ => rcases row with ⟨rfl, -⟩ | ⟨rfl, -⟩ <;> simp [touches] at hc
    | receivedFrame row _ _ _ => cases c <;> simp_all [touches, receptionBlocks, frameBytes]
    | _ => simp [touches, offerBlocks] at hc hc'
  cases hu with
  | deviceReset => exact hold_kept s
  | resetRelease held => exact release_kept h held _ _
  | silenceExpiry due => exact silencePeer_kept h due
  | @receivedFrame _ raw row reads whole failed =>
    have hend := peersKept_of_frame h (s.afterReception_frame raw) (by decide)
    have hself := Taken.receivedFrame row reads whole failed
    rcases s.takeFrame_cases raw with ht | ht | ht | ⟨-, -, ht⟩ | ⟨p, f, -, hown, hl, -, ht⟩
    · rw [ht]; exact hend
    · rw [ht]; exact hend
    · rw [ht]; exact hend
    · refine taken_keeps_peers_of_same h hline hself ?_ fun q hq => ?_
      · rw [ht, State.enterQuiet_frame _ _ .peers (by decide)]
        exact s.afterReception_frame raw .peers (by decide)
      · have hrepair : (s.afterReception raw).repair = s.repair :=
          s.afterReception_frame raw .repair (by decide)
        rw [ht, State.enterQuiet_missing, State.missing_congr hrepair]
        exact map_nil hq
    · have hpass := (s.afterReception raw).passOn_frame p f
      have hcontrol : ((s.afterReception raw).passOn p f).control = s.control :=
        (hpass .control (by decide)).trans (s.afterReception_control raw)
      have hreset : ((s.afterReception raw).passOn p f).inReset = (s.afterReception raw).inReset :=
        hpass .inReset (by decide)
      have hown' : (s.afterReception raw).own ≠ some p := by
        rw [State.own, s.afterReception_control]; exact hown
      rw [ht]
      refine ⟨passOn_kept hend.1 hown' (by rw [s.afterReception_control]; exact hl) f, ?_, ?_⟩
      · rw [hreset, State.own, hcontrol, ← s.afterReception_control raw]; exact hend.2.1
      · rw [State.own, hcontrol]; exact h.2.2
  | status row _ => rcases row with rfl | rfl <;> simp [touches] at hc'
  | start row _ => rcases row with rfl | rfl <;> simp [touches] at hc'
  | peers row _ => rcases row with rfl | rfl <;> simp [touches] at hc'
  | inputs row _ => rcases row with rfl | rfl <;> simp [touches] at hc'
  | rejoin row _ => rcases row with rfl | rfl <;> simp [touches] at hc'
  | clearCounts row _ => rcases row with rfl | rfl <;> simp [touches] at hc'
  | badCommand row _ => rcases row with rfl | rfl <;> simp [touches] at hc'
  | endResponse row _ => rcases row with ⟨rfl, -⟩ | ⟨rfl, -⟩ <;> simp [touches] at hc'
  | _ => simp [touches, offerBlocks] at hc'

/-- Settles O15: the entries by the frames passed on, the silence of a peer and the release of device reset. -/
theorem peerTableStaysConsistent : Obligations.PeerTableStaysConsistent := by
  intro s t hpeers hline h
  refine step_keeps_blocks (Pre := fun s => s.PeersKept ∧ s.LineKept) (P := State.PeersKept)
    (bs := [.peers, .control, .repair, .inReset]) (fun {s t} hsame hP => ?_) (by decide) And.left
    (fun _ hP => hP) (fun hP _ hu => taken_keeps_peers hP.1 hP.2 hu) (fun {s} hP hout => ?_) ⟨hpeers, hline⟩ h
  · have hcontrol : t.control = s.control := hsame .control (by decide)
    have hrepair : t.repair = s.repair := hsame .repair (by decide)
    exact peersKept_of_peers hP (hsame .peers (by decide))
      (fun q hq => by rw [State.missing_congr hrepair]; exact hq) (by rw [State.own, hcontrol]; rfl)
      (hsame .inReset (by decide)) (by rw [hcontrol]; exact id) (by rw [hcontrol]; exact hP.2.2)
  · obtain ⟨hkept, hreset, hown⟩ := hP.1
    have hrest : s.microsecond.own = s.own ∧ s.microsecond.control.lifecycle = s.control.lifecycle ∧
        s.microsecond.inReset = s.inReset := by
      rw [State.microsecond, if_neg (by simp [hout])]
      exact ⟨rfl, rfl, rfl⟩
    obtain ⟨hown', hlifecycle, hreset'⟩ := hrest
    refine ⟨fun q => ?_, by rw [hreset', hown']; exact hreset, by rw [hown', hlifecycle]; exact hown⟩
    have hk := (peerKept_iff s q).mp (hkept q)
    rw [peerKept_iff, hown', hlifecycle, s.microsecond_peer hout, s.microsecond_missing hout]
    have htimer : (tickTimer (s.peer q).silenceTimer).isSome = (s.peer q).silenceTimer.isSome := by
      cases (s.peer q).silenceTimer <;> rfl
    refine ⟨hk.self, ?_, fun ha => by rw [hk.absent ha]; rfl, fun hn => by rw [hk.missing hn]; rfl, hk.before⟩
    show (tickTimer (s.peer q).silenceTimer).isSome = true ↔ _
    rw [htimer]
    exact hk.timer

end Sys2Proof.PeerInvariants
end

section
namespace Sys2Proof.RepairInvariants

open Sys2Proof Sys2Proof.Machine

/-! ### Missing sets within their limits (R61, R71, R77) -/

/-- An entry within the limits that Station Control gives, due only in RUNNING. -/
structure EntryKept (c : Control) (m : Missing) : Prop where
  tries : m.tries ≤ c.config.retries
  due : m.timer.isDue = true → m.tries < c.config.retries ∧ c.lifecycle = .running
  timing : ∀ left, m.timer = .timing left → left ≤ c.config.ri * 1000

structure SetKept (c : Control) (set : List Missing) : Prop where
  few : set.length ≤ Config.missingCapacity
  entry : ∀ m ∈ set, EntryKept c m

/-- Under Station Control `c` every missing set is within its limits. -/
structure Limits (c : Control) (s : State) : Prop where
  control : s.control = c
  retries : 1 ≤ c.config.retries
  sets : ∀ q, SetKept c (s.missing q)

theorem repairKept_iff (s : State) : s.RepairKept ↔
    Limits s.control s ∧ ∀ q, s.control.lifecycle = .unconfigured → s.missing q = [] := by
  constructor
  · rintro ⟨hr, hsets⟩
    refine ⟨⟨rfl, hr, fun q => ?_⟩, fun q => (hsets q).2.2.2⟩
    obtain ⟨hfew, hentry, hdue, -⟩ := hsets q
    refine ⟨hfew, fun m hm => ?_⟩
    obtain ⟨htries, hless, htimer⟩ := hentry m hm
    refine ⟨htries, fun hd => ⟨hless hd, ?_⟩, fun left hl => ?_⟩
    · by_contra hrun
      rw [hdue hrun m hm] at hd
      contradiction
    · rw [hl] at htimer; exact htimer
  · rintro ⟨⟨-, hr, hsets⟩, hempty⟩
    refine ⟨hr, fun q => ⟨(hsets q).few, fun m hm => ?_, fun hrun m hm => ?_, hempty q⟩⟩
    · obtain ⟨htries, hdue, htiming⟩ := (hsets q).entry m hm
      refine ⟨htries, fun hd => (hdue hd).1, ?_⟩
      cases ht : m.timer with
      | due age => trivial
      | timing left => exact htiming left ht
    · by_contra hd
      exact hrun (((hsets q).entry m hm).due (by simpa using hd)).2

theorem SetKept.nil (c : Control) : SetKept c [] := ⟨Nat.zero_le _, nofun⟩

theorem SetKept.sublist {c : Control} {set set' : List Missing} (h : SetKept c set) (hs : set'.Sublist set) :
    SetKept c set' :=
  ⟨Nat.le_trans hs.length_le h.few, fun m hm => h.entry m (hs.subset hm)⟩

theorem SetKept.map {c c' : Control} {set : List Missing} (h : SetKept c set) {f : Missing → Missing}
    (hf : ∀ m, EntryKept c m → EntryKept c' (f m)) : SetKept c' (set.map f) := by
  refine ⟨by rw [List.length_map]; exact h.few, fun m hm => ?_⟩
  obtain ⟨m', hm', rfl⟩ := List.mem_map.mp hm
  exact hf m' (h.entry m' hm')

/-- A due entry that spends its try has one more and times RI. -/
theorem EntryKept.spend {c : Control} {m : Missing} {s : State} (hc : s.control = c)
    (htries : m.tries < c.config.retries) : EntryKept c (s.spendTry m) := by
  refine ⟨htries, nofun, fun left hl => ?_⟩
  have hleft : s.control.config.ri * 1000 = left := RepairTimer.timing.inj hl
  rw [← hleft, hc]

theorem EntryKept.whenDue {c : Control} {m : Missing} {s : State} (hc : s.control = c)
    (htries : m.tries < c.config.retries) (hdue : m.timer.isDue = true) : EntryKept c (s.whenDue m) := by
  unfold State.whenDue
  split
  · rename_i hr
    have hrunning : c.lifecycle = .running := by rw [← hc]; exact beq_iff_eq.mp hr
    exact ⟨Nat.le_of_lt htries, fun _ => ⟨htries, hrunning⟩, fun left hl => by rw [hl] at hdue; contradiction⟩
  · exact EntryKept.spend hc htries

theorem Limits.congr {c : Control} {s t : State} (h : Limits c s) (hc : t.control = s.control)
    (hr : t.repair = s.repair) : Limits c t :=
  ⟨hc.trans h.control, h.retries, fun q => by rw [State.missing_congr hr]; exact h.sets q⟩

theorem Limits.setMissing {c : Control} {s : State} (h : Limits c s) (p : Station) {set : List Missing}
    (hs : SetKept c set) : Limits c (s.setMissing p set) := by
  refine ⟨h.control, h.retries, fun q => ?_⟩
  rw [State.missing_setMissing]
  split
  · exact hs
  · exact h.sets q

theorem overrun_joined_length (held added : Nat) :
    (held - overrun held added) + (added - (overrun held added - held)) ≤ Config.missingCapacity := by
  unfold overrun Config.missingCapacity
  omega

theorem Limits.joined {c : Control} {s : State} (h : Limits c s) (p : Station) (new : List Seq) :
    SetKept c (s.joined p new) := by
  refine ⟨?_, fun m hm => ?_⟩
  · rw [State.joined, List.length_append, List.length_drop, List.length_map, List.length_drop]
    exact overrun_joined_length _ _
  · rcases List.mem_append.mp hm with hm | hm
    · exact (h.sets p).entry m (List.mem_of_mem_drop hm)
    · obtain ⟨q, -, rfl⟩ := List.mem_map.mp hm
      exact EntryKept.whenDue h.control h.retries rfl

theorem Limits.declareLost {c : Control} {s : State} (h : Limits c s) (p : Station) (cause : GapCause)
    (gone : Missing → Bool) : Limits c (s.declareLost p cause gone) :=
  (h.setMissing p ((h.sets p).sublist List.filter_sublist)).congr (State.declareRuns_control _ _ _ _)
    (State.declareRuns_repair _ _ _ _)

theorem Limits.advance {c : Control} {s : State} (h : Limits c s) (p : Station) (n : Numbering)
    (upTo next : Seq) : Limits c (s.advance p n upTo next) := by
  rw [State.advance_eq]
  exact ((h.setMissing p (h.joined p _)).congr (State.declareRuns_control _ _ _ _)
    (State.declareRuns_repair _ _ _ _)).congr rfl rfl

theorem Limits.classify {c : Control} {s : State} (h : Limits c s) (p : Station) (n : Numbering) (x : Bool)
    (r : Record) : Limits c (s.classify p n x r) := by
  unfold State.classify
  split
  · exact (h.advance p n _ _).congr (State.offer_control _ _ _) (State.offer_repair _ _ _)
  · split
    · exact (h.setMissing p ((h.sets p).sublist List.filter_sublist)).congr (State.offer_control _ _ _)
        (State.offer_repair _ _ _)
    · exact h.congr rfl rfl

theorem Limits.takeRecord {c : Control} {s : State} (h : Limits c s) (p : Station) (x : Bool) (r : Record) :
    Limits c (State.takeRecord p x s r) := by
  unfold State.takeRecord
  split
  · exact h.congr rfl rfl
  · exact h.congr rfl rfl
  · exact h.classify p _ x r
  · exact h.classify p _ x r
  · split
    · exact h.congr rfl rfl
    · exact (h.congr (t := s.setNumbering p (Numbering.at r.seq)) rfl rfl).classify p _ x r
  · exact h.congr rfl rfl

theorem Limits.takeRecords {c : Control} {s : State} (h : Limits c s) (p : Station) (x : Bool)
    (rs : List Record) : Limits c (s.takeRecords p x rs) := by
  unfold State.takeRecords
  induction rs generalizing s with
  | nil => exact h
  | cons r rs ih => exact ih (h.takeRecord p x r)

theorem Limits.compareNext {c : Control} {s : State} (h : Limits c s) (p : Station) (settled : Stamp)
    (next : Seq) : Limits c (s.compareNext p settled next) := by
  unfold State.compareNext
  split
  · exact h
  · split
    · exact h.advance p _ _ _
    · split
      · exact h.congr rfl rfl
      · exact h

theorem Limits.takeContent {c : Control} {s : State} (h : Limits c s) (p : Station) (f : Frame) :
    Limits c (s.takeContent p f) := by
  unfold State.takeContent
  split
  · rw [s.learnNumbering_eq]; exact h.congr rfl rfl
  · rw [s.takeTime_eq]
    exact Limits.compareNext (h.congr (t := s.timeSampled p _ _ _) rfl rfl) p _ _
  · exact h.takeRecords p _ _
  · exact h.takeRecords _ _ _
  · exact h
  · exact h

theorem Limits.takeSender {c : Control} {s : State} (h : Limits c s) (p : Station) (f : Frame) :
    Limits c (s.takeSender p f) := by
  have hbring {t : State} (ht : Limits c t) (n : Option Numbering) (x : Bool) :
      Limits c (t.bringActive p n x) :=
    ht.congr (State.note_control _ _) (State.bringActive_repair _ _ _ _)
  have henter {t : State} (ht : Limits c t) : Limits c (t.enterSender p f) := by
    unfold State.enterSender
    split
    · exact ht
    · exact hbring ht _ _
    · exact hbring (ht.declareLost p _ _) _ _
    · exact hbring (ht.declareLost p _ _) _ _
    · exact hbring ht _ _
    · exact ht
  have hmismatch : Limits c (s.takeMismatch p f) := by
    rw [s.takeMismatch_eq]; exact h.congr rfl rfl
  exact (henter hmismatch).congr rfl rfl

theorem holdBackEntry_kept {c : Control} {s : State} (hc : s.control = c) (seqs : List Seq) {m : Missing}
    (h : EntryKept c m) : EntryKept c (s.holdBackEntry seqs m) := by
  unfold State.holdBackEntry
  split
  · refine ⟨h.tries, nofun, fun left hl => ?_⟩
    have hleft : s.control.config.ri * 1000 = left := RepairTimer.timing.inj hl
    rw [← hleft, hc]
  · exact h

theorem Limits.takeRepair {c : Control} {s : State} (h : Limits c s) (p : Station) (f : Frame) :
    Limits c (s.takeRepair p f) := by
  refine ⟨(s.takeRepair_frame p f .control (by decide)).trans h.control, h.retries, fun q => ?_⟩
  rw [s.takeRepair_missing]
  cases f with
  | repairReq subject proxy seqs =>
    simp only
    split
    · exact (h.sets subject).map fun m hm => holdBackEntry_kept h.control seqs hm
    · exact h.sets q
  | repairNone subject seqs =>
    simp only
    split
    · exact (h.sets subject).sublist List.filter_sublist
    · exact h.sets q
  | _ => exact h.sets q

theorem Limits.passOn {c : Control} {s : State} (h : Limits c s) (p : Station) (f : Frame) :
    Limits c (s.passOn p f) := by
  have hall := ((h.takeSender p f).takeContent p f).takeRepair p f
  have hcontrol : (s.passOn p f).control = s.control := s.passOn_frame p f .control (by decide)
  exact hall.congr (by rw [hcontrol, h.control, hall.control]) (s.passOn_repair p f)

theorem dueAgain_kept {c : Control} {s : State} (hc : s.control = c) {m : Missing} (h : EntryKept c m) :
    EntryKept c (s.dueAgain m) := by
  unfold State.dueAgain
  split
  · rename_i hd
    simp only [Bool.and_eq_true, decide_eq_true_eq] at hd
    exact EntryKept.whenDue hc (by rw [← hc]; exact hd.2) rfl
  · exact h

/-- Entry into QUIET spends the try of every due entry. -/
theorem Limits.enterQuiet {c : Control} {s : State} (h : Limits c s) (cause : QuietCause) :
    Limits (s.enterQuiet cause).control (s.enterQuiet cause) := by
  have hc := h.control
  subst hc
  refine ⟨rfl, h.retries, fun q => ?_⟩
  rw [State.enterQuiet_missing, State.enterQuiet_control]
  refine (h.sets q).map fun m hm => ?_
  unfold State.spendIfDue
  split
  · rename_i hd
    have hspent := EntryKept.spend (s := s) rfl (hm.due hd).1
    exact ⟨hspent.tries, nofun, hspent.timing⟩
  · rename_i hd
    exact ⟨hm.tries, fun hd' => absurd hd' hd, hm.timing⟩

/-- With nothing missing the sets are within any limits. -/
theorem Limits.of_empty {c : Control} {s : State} (hc : s.control = c) (hr : 1 ≤ c.config.retries)
    (hempty : ∀ q, s.missing q = []) : Limits c s :=
  ⟨hc, hr, fun q => by rw [hempty q]; exact SetKept.nil c⟩

/-- Another state of Station Control with the same record, RUNNING where it was. -/
theorem Limits.of_control {c : Control} {s u : State} (h : Limits c s) (hrepair : u.repair = s.repair)
    (hconfig : u.control.config = c.config) (hrun : c.lifecycle = .running → u.control.lifecycle = .running) :
    Limits u.control u := by
  refine ⟨rfl, by rw [hconfig]; exact h.retries, fun q => ?_⟩
  rw [State.missing_congr hrepair, ← List.map_id' (s.missing q)]
  refine (h.sets q).map fun m hm => ⟨by rw [hconfig]; exact hm.tries, fun hd => ?_, by rw [hconfig]; exact hm.timing⟩
  rw [hconfig]
  exact ⟨(hm.due hd).1, hrun (hm.due hd).2⟩

theorem repairKept_of_limits {s u : State} (h : s.RepairKept) (hu : Limits u.control u)
    (hl : u.control.lifecycle = .unconfigured → s.control.lifecycle = .unconfigured)
    (hm : ∀ q, s.missing q = [] → u.missing q = []) : u.RepairKept :=
  (repairKept_iff u).mpr ⟨hu, fun q hq => hm q (((repairKept_iff s).mp h).2 q (hl hq))⟩

theorem repairKept_of_same {s u : State} (h : s.RepairKept) (hrepair : u.repair = s.repair)
    (hcontrol : u.control = s.control) : u.RepairKept :=
  repairKept_of_limits h (by rw [hcontrol]; exact ((repairKept_iff s).mp h).1.congr hcontrol hrepair)
    (by rw [hcontrol]; exact id) fun q hq => by rw [State.missing_congr hrepair]; exact hq

theorem repairKept_of_frame {s u : State} {bs : List Block} (h : s.RepairKept) (hf : s.changesOnly u bs)
    (hb : ∀ b ∈ [Block.repair, .control], b ∉ bs) : u.RepairKept :=
  repairKept_of_same h (hf .repair (hb _ (by decide))) (hf .control (hb _ (by decide)))

theorem enterQuiet_kept {s : State} (h : s.RepairKept) (cause : QuietCause) :
    (s.enterQuiet cause).RepairKept :=
  repairKept_of_limits h (((repairKept_iff s).mp h).1.enterQuiet cause) (by rw [State.enterQuiet_control]; nofun)
    fun q hq => by rw [State.enterQuiet_missing, hq]; rfl

theorem takeCompletion_kept {s : State} (h : s.RepairKept) (src : Source) : (s.takeCompletion src).RepairKept := by
  obtain ⟨pending, hcontrol⟩ := s.takeCompletion_control src
  have hlimits := ((repairKept_iff s).mp h).1
  have hspend (seqs : List Seq) (m : Missing) (hm : EntryKept s.control m) :
      EntryKept s.control (if seqs.contains m.seq && m.timer.isDue then s.spendTry m else m) := by
    split
    · rename_i hd
      exact EntryKept.spend rfl (hm.due (by simp_all)).1
    · exact hm
  refine repairKept_of_limits h ⟨rfl, by rw [hcontrol]; exact hlimits.retries, fun q => ?_⟩
    (by rw [hcontrol]; exact id) fun q hq => ?_
  · rw [hcontrol]
    have hset : SetKept s.control ((s.takeCompletion src).missing q) := by
      rw [s.takeCompletion_missing]
      split
      · split
        · exact (hlimits.sets _).map (hspend _)
        · exact hlimits.sets q
      · exact hlimits.sets q
    exact ⟨hset.few, fun m hm => ⟨(hset.entry m hm).tries, (hset.entry m hm).due, (hset.entry m hm).timing⟩⟩
  · rw [s.takeCompletion_missing]
    split
    · split
      · rename_i hqp; rw [← hqp, hq]; rfl
      · exact hq
    · exact hq

theorem taken_keeps_repair {c : Instr} {s u : State} (h : s.RepairKept) (hu : Taken s c u) :
    u.RepairKept := by
  obtain ⟨hlimits, hempty⟩ := (repairKept_iff s).mp h
  by_cases hc : Block.repair ∉ touches c
  · have hrepair : u.repair = s.repair := hu.frame .repair hc
    have hnil (q : Station) (hq : s.missing q = []) : u.missing q = [] := by
      rw [State.missing_congr hrepair]; exact hq
    by_cases hcontrol : Block.control ∉ touches c
    · exact repairKept_of_same h hrepair (hu.frame .control hcontrol)
    have hmove := hu.control
    generalize hk : u.control = k at hmove
    cases hmove with
    | reset row => exact absurd (by simp [row, touches]) hc
    | configure _ unconfigured whole good =>
      have hgood := configOf_inRange (configFields_length whole) good
      refine repairKept_of_limits h (Limits.of_empty rfl ?_ fun q => hnil q (hempty q unconfigured))
        (fun _ => unconfigured) hnil
      rw [hk]; exact hgood.2.2.2.2.2.2.2.1
    | start _ unconfigured _ =>
      exact repairKept_of_limits h (Limits.of_empty rfl (by rw [hk]; exact hlimits.retries)
        fun q => hnil q (hempty q unconfigured)) (fun _ => unconfigured) hnil
    | rejoin _ quiet =>
      exact repairKept_of_limits h (hlimits.of_control hrepair (by rw [hk]) (by simp [quiet]))
        (by rw [hk]; nofun) hnil
    | run _ joining =>
      exact repairKept_of_limits h (hlimits.of_control hrepair (by rw [hk]) (by rw [hk]; exact fun _ => rfl))
        (by rw [hk]; nofun) hnil
    | quieten why =>
      exfalso
      rcases why with ⟨rfl, -⟩ | ⟨hrow, -⟩
      · exact hc (by simp [touches])
      · cases c <;> simp_all [touches, receptionBlocks, frameBytes]
    | _ =>
      exact repairKept_of_limits h (hlimits.of_control hrepair (by rw [hk]) (by rw [hk]; exact id))
        (by rw [hk]; exact id) hnil
  cases hu with
  | deviceReset =>
    have hmissing (q : Station) : s.hold.missing q = [] := by
      simp [State.missing, State.hold, State.reset, RepairUnit.reset]
    exact (repairKept_iff _).mpr ⟨Limits.of_empty rfl (by decide : 1 ≤ ConfigRecord.default.retries) hmissing,
      fun q _ => hmissing q⟩
  | repairExpiry _ =>
    refine repairKept_of_limits (u := s.expireMissing _) h ?_ ?_ fun q hq => ?_
    · have hcontrol := s.expireMissing_frame ‹Station› .control (by decide)
      rw [hcontrol]
      refine ⟨hcontrol, hlimits.retries, fun q => ?_⟩
      rw [s.expireMissing_missing]
      split
      · exact ((hlimits.sets _).sublist List.filter_sublist).map fun m hm => dueAgain_kept rfl hm
      · exact hlimits.sets q
    · rw [s.expireMissing_frame _ .control (by decide)]; exact id
    · rw [s.expireMissing_missing]
      split
      · rename_i hqp; rw [← hqp, hq]; rfl
      · exact hq
  | proxyExpiry _ => exact h
  | frameBegin _ _ => exact h
  | bitError _ =>
    unfold State.abortFrame
    simp only
    split
    · exact enterQuiet_kept h _
    · exact h
  | frameComplete _ _ =>
    have hend : (s.sentUpTo s.comparedBits).endSending.RepairKept :=
      repairKept_of_frame (u := s.sentUpTo s.comparedBits) h (s.sentUpTo_frame _) (by decide)
    unfold State.completeFrame
    split
    · exact takeCompletion_kept hend _
    · exact hend
  | @receivedFrame _ raw _ _ _ _ =>
    have hend := repairKept_of_frame h (s.afterReception_frame raw) (by decide)
    rcases s.takeFrame_cases raw with ht | ht | ht | ⟨-, -, ht⟩ | ⟨p, f, -, -, hl, -, ht⟩ <;> rw [ht]
    · exact hend
    · exact hend
    · exact hend
    · exact enterQuiet_kept hend _
    · have hpass := ((repairKept_iff _).mp hend).1.passOn p f
      have hcontrol := hpass.control
      refine (repairKept_iff _).mpr ⟨by rw [hcontrol]; exact hpass, fun q hq => ?_⟩
      rw [hcontrol, s.afterReception_control] at hq
      exact absurd hq hl
  | status row _ => rcases row with rfl | rfl <;> simp [touches] at hc
  | start row _ => rcases row with rfl | rfl <;> simp [touches] at hc
  | peers row _ => rcases row with rfl | rfl <;> simp [touches] at hc
  | inputs row _ => rcases row with rfl | rfl <;> simp [touches] at hc
  | rejoin row _ => rcases row with rfl | rfl <;> simp [touches] at hc
  | clearCounts row _ => rcases row with rfl | rfl <;> simp [touches] at hc
  | badCommand row _ => rcases row with rfl | rfl <;> simp [touches] at hc
  | endResponse row _ => rcases row with ⟨rfl, -⟩ | ⟨rfl, -⟩ <;> simp [touches] at hc
  | _ => simp [touches, offerBlocks] at hc

end Sys2Proof.RepairInvariants
end

section
namespace Sys2Proof.Machine

open Sys2Proof

/-! ### What the content checks leave of a frame (R159) -/

theorem seqsOf_ne_nil {bs : List Byte} {qs : List Seq} (h : seqsOf bs = some qs) : qs ≠ [] := by
  rintro rfl
  unfold seqsOf at h
  split at h
  · rename_i count rest
    split at h
    · rename_i qs hparse
      split at h
      · rename_i hcount
        rw [Option.some.inj h] at hparse
        cases hn : count.toNat with
        | zero => simp [hn] at hcount
        | succ n =>
          rw [hn] at hparse
          unfold parseSeqs at hparse
          split at hparse
          · contradiction
          · simp at hparse
          · contradiction
      · contradiction
    · contradiction
  · contradiction

theorem parseRecords_length {origin : Fin 25} {n : Nat} {bs : List Byte} {rs : List Record}
    (h : parseRecords origin n bs = some rs) : rs.length = n := by
  induction n generalizing bs rs with
  | zero =>
    unfold parseRecords at h
    split at h
    · rw [← Option.some.inj h]; rfl
    · contradiction
  | succ n ih =>
    unfold parseRecords at h
    split at h
    · rename_i hrest
      rw [← Option.some.inj h, List.length_cons, ih hrest]
    · contradiction

theorem recordsOf_length {origin : Fin 25} {bs : List Byte} {rs : List Record}
    (h : recordsOf origin bs = some rs) : 1 ≤ rs.length ∧ rs.length ≤ Config.frameRecords := by
  unfold recordsOf at h
  simp only at h
  split at h
  · rename_i hn
    rw [parseRecords_length h]
    simpa using hn
  · contradiction

/-- A frame names at least one sequence, and carries at most four records. -/
def Frame.within : Frame → Prop
  | .repairReq _ _ seqs => seqs ≠ []
  | .repairNone _ seqs => seqs ≠ []
  | .repairData _ rs => rs.length ≤ Config.frameRecords
  | .event rs => rs.length ≤ Config.frameRecords
  | _ => True

theorem parseBody_within {sender : Station} {kind : Byte} {body : List Byte} {f : Frame}
    (h : parseBody sender kind body = some f) : f.within := by
  cases f with
  | hello next restart si => trivial
  | time sender settled next si ts => trivial
  | repairReq subject proxy seqs =>
    unfold parseBody at h
    repeat' split at h
    all_goals simp_all [Frame.within]
    exact seqsOf_ne_nil ‹_›
  | repairNone subject seqs =>
    unfold parseBody at h
    repeat' split at h
    all_goals simp_all [Frame.within]
    exact seqsOf_ne_nil ‹_›
  | repairData subject rs =>
    unfold parseBody at h
    repeat' split at h
    all_goals simp_all [Frame.within]
    obtain ⟨hrs, rfl⟩ := h
    exact (recordsOf_length hrs).2
  | event rs =>
    unfold parseBody at h
    repeat' split at h
    all_goals simp_all [Frame.within]
    exact (recordsOf_length h).2

theorem checkContent_valid {arb kind : Byte} {body : List Byte} {p : Station} {f : Frame}
    (h : checkContent arb kind body = .valid p f) :
    stationOf (arb.setWidth 5) = some p ∧ kindClass kind = some (arb.extractLsb' 5 3) ∧
      parseBody p kind body = some f := by
  unfold checkContent at h
  split at h
  · contradiction
  · rename_i sender hsender
    split at h
    · rename_i hkind
      split at h
      · rename_i f' hbody
        obtain ⟨rfl, rfl⟩ := FrameCheck.valid.inj h
        exact ⟨hsender, hkind, hbody⟩
      · contradiction
    · contradiction

theorem checkFrame_valid {raw : List Byte} {p : Station} {f : Frame} (h : checkFrame raw = .valid p f) :
    ∃ arb kind body, checkContent arb kind body = .valid p f := by
  unfold checkFrame at h
  simp only at h
  split at h
  · split at h
    · exact ⟨_, _, _, h⟩
    · contradiction
  · contradiction

theorem checkFrame_within {raw : List Byte} {p : Station} {f : Frame} (h : checkFrame raw = .valid p f) :
    f.within := by
  obtain ⟨arb, kind, body, hc⟩ := checkFrame_valid h
  exact parseBody_within (checkContent_valid hc).2.2

/-! ### The answer lists (R83 to R88) -/

/-- `t` has the answer lists of `s`. -/
def State.sameAnswers (s t : State) : Prop :=
  t.repair.originAnswers = s.repair.originAnswers ∧ t.repair.proxy = s.repair.proxy

theorem State.sameAnswers_refl (s : State) : s.sameAnswers s := ⟨rfl, rfl⟩

theorem State.sameAnswers_of_repair {s t : State} (h : t.repair = s.repair) : s.sameAnswers t :=
  ⟨by rw [h], by rw [h]⟩

theorem State.sameAnswers.trans {s t u : State} (h : s.sameAnswers t) (h' : t.sameAnswers u) :
    s.sameAnswers u :=
  ⟨h'.1.trans h.1, h'.2.trans h.2⟩

theorem State.setMissing_sameAnswers (s : State) (p : Station) (set : List Missing) :
    s.sameAnswers (s.setMissing p set) := ⟨rfl, rfl⟩

theorem State.declareLost_sameAnswers (s : State) (p : Station) (cause : GapCause) (gone : Missing → Bool) :
    s.sameAnswers (s.declareLost p cause gone) :=
  (s.setMissing_sameAnswers p _).trans (State.sameAnswers_of_repair (State.declareRuns_repair _ _ _ _))

theorem State.advance_sameAnswers (s : State) (p : Station) (n : Numbering) (upTo next : Seq) :
    s.sameAnswers (s.advance p n upTo next) :=
  s.advance_answers p n upTo next

theorem State.classify_sameAnswers (s : State) (p : Station) (n : Numbering) (x : Bool) (r : Record) :
    s.sameAnswers (s.classify p n x r) := by
  unfold State.classify
  split
  · exact (s.advance_sameAnswers p n _ _).trans (State.sameAnswers_of_repair (State.offer_repair _ _ _))
  · split
    · exact (s.setMissing_sameAnswers p _).trans (State.sameAnswers_of_repair (State.offer_repair _ _ _))
    · exact s.sameAnswers_refl

theorem State.takeRecord_sameAnswers (s : State) (p : Station) (x : Bool) (r : Record) :
    s.sameAnswers (State.takeRecord p x s r) := by
  have hduplicate : s.sameAnswers s.countDuplicate := s.sameAnswers_refl
  unfold State.takeRecord
  split
  · exact hduplicate
  · exact hduplicate
  · exact s.classify_sameAnswers p _ x r
  · exact s.classify_sameAnswers p _ x r
  · split
    · exact hduplicate
    · exact (State.classify_sameAnswers (s.setNumbering p (Numbering.at r.seq)) p _ x r)
  · exact hduplicate

theorem State.takeRecords_sameAnswers (s : State) (p : Station) (x : Bool) (rs : List Record) :
    s.sameAnswers (s.takeRecords p x rs) := by
  unfold State.takeRecords
  induction rs generalizing s with
  | nil => exact s.sameAnswers_refl
  | cons r rs ih => exact (s.takeRecord_sameAnswers p x r).trans (ih _)

theorem State.takeContent_sameAnswers (s : State) (p : Station) (f : Frame) :
    s.sameAnswers (s.takeContent p f) := by
  unfold State.takeContent
  split
  · rw [s.learnNumbering_eq]; exact s.sameAnswers_refl
  · rename_i sender settled next _ ts
    rw [s.takeTime_eq]
    refine State.sameAnswers.trans (t := s.timeSampled p sender next ts) s.sameAnswers_refl ?_
    unfold State.compareNext
    split
    · exact State.sameAnswers_refl _
    · split
      · exact State.advance_sameAnswers _ _ _ _ _
      · split <;> exact State.sameAnswers_refl _
  · exact s.takeRecords_sameAnswers _ _ _
  · exact s.takeRecords_sameAnswers _ _ _
  · exact s.sameAnswers_refl
  · exact s.sameAnswers_refl

end Sys2Proof.Machine
end

section
namespace Sys2Proof.RepairInvariants

open Sys2Proof Sys2Proof.Machine

/-! ### The answer lists within their limits (R84, R86, R91) -/

/-- Both lists within their sizes, every answer with a frame left to send. -/
structure ListsKept (answers : List (List Frame)) (proxy : List ProxyEntry) : Prop where
  origin : answers.length ≤ Config.originCapacity
  few : proxy.length ≤ Config.proxyCapacity
  left : ∀ answer ∈ answers, answer ≠ []

theorem answersKept_iff (s : State) : s.AnswersKept ↔
    ListsKept s.repair.originAnswers s.repair.proxy ∧
      (s.control.lifecycle ≠ .running → s.repair.originAnswers = [] ∧ s.repair.proxy = []) :=
  ⟨fun ⟨ho, hf, hl, hempty⟩ => ⟨⟨ho, hf, hl⟩, hempty⟩,
   fun ⟨⟨ho, hf, hl⟩, hempty⟩ => ⟨ho, hf, hl, hempty⟩⟩

theorem ListsKept.nil : ListsKept [] [] := ⟨Nat.zero_le _, Nat.zero_le _, nofun⟩

theorem ListsKept.shorter {answers : List (List Frame)} {proxy proxy' : List ProxyEntry}
    (h : ListsKept answers proxy) (hp : proxy'.length ≤ proxy.length) : ListsKept answers proxy' :=
  ⟨h.origin, Nat.le_trans hp h.few, h.left⟩

theorem answersKept_of_empty {s : State} (ho : s.repair.originAnswers = []) (hp : s.repair.proxy = []) :
    s.AnswersKept :=
  (answersKept_iff s).mpr ⟨by rw [ho, hp]; exact ListsKept.nil, fun _ => ⟨ho, hp⟩⟩

/-- With the lists as they were, RUNNING may only be left with both empty. -/
theorem answersKept_of_same {s u : State} (h : s.AnswersKept) (hsame : s.sameAnswers u)
    (hrun : s.control.lifecycle = .running → u.control.lifecycle = .running) : u.AnswersKept := by
  obtain ⟨hlists, hempty⟩ := (answersKept_iff s).mp h
  refine (answersKept_iff u).mpr ⟨by rw [hsame.1, hsame.2]; exact hlists, fun hu => ?_⟩
  rw [hsame.1, hsame.2]
  exact hempty fun hs => hu (hrun hs)

theorem answerSent_kept {answers : List (List Frame)} (h : ∀ a ∈ answers, a ≠ []) :
    (answerSent answers).length ≤ answers.length ∧ ∀ a ∈ answerSent answers, a ≠ [] := by
  match answers with
  | [] => exact ⟨Nat.le_refl _, h⟩
  | [] :: more => exact ⟨Nat.le_succ _, fun a ha => h a (List.mem_cons_of_mem _ ha)⟩
  | [_] :: more => exact ⟨Nat.le_succ _, fun a ha => h a (List.mem_cons_of_mem _ ha)⟩
  | (_ :: g :: gs) :: more =>
    refine ⟨Nat.le_refl _, fun a ha => ?_⟩
    rcases List.mem_cons.mp ha with rfl | ha
    · exact List.cons_ne_nil g gs
    · exact h a (List.mem_cons_of_mem _ ha)

theorem inFours_ne_nil {n : Nat} {rs : List Record} (hn : n ≠ 0) (h : rs ≠ []) : inFours n rs ≠ [] := by
  cases n with
  | zero => exact absurd rfl hn
  | succ n =>
    cases rs with
    | nil => exact absurd rfl h
    | cons r rs => exact List.cons_ne_nil _ _

/-- An answer to a request that names a sequence has a frame: of the records held, or of the rest. -/
theorem originAnswer_ne_nil (s : State) (p : Station) {seqs : List Seq} (h : seqs ≠ []) :
    s.originAnswer p seqs ≠ [] := by
  obtain ⟨q, hq⟩ := List.exists_mem_of_ne_nil seqs h
  intro hnil
  unfold State.originAnswer at hnil
  simp only [List.append_eq_nil_iff, List.map_eq_nil_iff] at hnil
  obtain ⟨hfours, hrest⟩ := hnil
  cases hr : s.retained q with
  | none =>
    have hgone : q ∈ seqs.filter (fun q => (s.retained q).isNone) := List.mem_filter.mpr ⟨hq, by simp [hr]⟩
    split at hrest
    · rename_i hempty
      rw [List.isEmpty_iff.mp hempty] at hgone
      contradiction
    · contradiction
  | some r =>
    have hheld : r ∈ seqs.filterMap s.retained := List.mem_filterMap.mpr ⟨q, hq, hr⟩
    have hne : seqs.filterMap s.retained ≠ [] := List.ne_nil_of_mem hheld
    exact inFours_ne_nil (fun hz => hne (List.length_eq_zero_iff.mp hz)) hne hfours

theorem addProxy_kept {s : State} (p : Station) (seq : Seq)
    (h : ListsKept s.repair.originAnswers s.repair.proxy) :
    ListsKept (s.addProxy p seq).repair.originAnswers (s.addProxy p seq).repair.proxy := by
  refine ⟨by rw [s.addProxy_answers]; exact h.origin, ?_, by rw [s.addProxy_answers]; exact h.left⟩
  unfold State.addProxy
  split
  · rename_i hroom
    simp only [Bool.and_eq_true, decide_eq_true_eq] at hroom
    simp only [List.length_append, List.length_singleton]
    exact hroom.2
  · exact h.few

theorem takeRepair_kept {s : State} (p : Station) {f : Frame} (hf : f.within)
    (h : ListsKept s.repair.originAnswers s.repair.proxy) :
    ListsKept (s.takeRepair p f).repair.originAnswers (s.takeRepair p f).repair.proxy := by
  have hsuppress (subject : Station) (seqs : List Seq) :
      ListsKept (s.suppress subject seqs).repair.originAnswers (s.suppress subject seqs).repair.proxy := h
  unfold State.takeRepair
  cases f with
  | repairReq subject proxy seqs =>
    simp only
    unfold State.takeRequest
    split
    · exact h
    · simp only
      split
      · unfold State.takeOriginRequest
        split
        · rename_i hroom
          simp only [Bool.and_eq_true, decide_eq_true_eq] at hroom
          refine ⟨?_, h.few, fun a ha => ?_⟩
          · rw [List.length_append, List.length_singleton]; exact hroom.2
          · rcases List.mem_append.mp ha with ha | ha
            · exact h.left a ha
            · rw [List.mem_singleton.mp ha]; exact originAnswer_ne_nil _ _ hf
        · exact h
      · split
        · have hfold (seqs : List Seq) (t : State) (ht : ListsKept t.repair.originAnswers t.repair.proxy) :
              ListsKept (seqs.foldl (fun t q => t.addProxy subject q) t).repair.originAnswers
                (seqs.foldl (fun t q => t.addProxy subject q) t).repair.proxy := by
            induction seqs generalizing t with
            | nil => exact ht
            | cons q seqs ih => exact ih _ (addProxy_kept subject q ht)
          unfold State.takeProxyRequest
          split
          · exact hfold _ _ (hsuppress subject seqs)
          · exact h
        · exact h
  | repairNone subject seqs =>
    simp only
    split
    · obtain ⟨ho, hp⟩ := s.declareLost_sameAnswers subject .expired (fun m => seqs.contains m.seq)
      show ListsKept (s.declareLost _ _ _).repair.originAnswers (s.declareLost _ _ _).repair.proxy
      rw [ho, hp]; exact h
    · exact h
  | repairData subject rs => exact h.shorter (List.length_filter_le _ _)
  | _ => exact h

theorem passOn_lists_kept {s : State} (p : Station) {f : Frame} (hf : f.within)
    (h : ListsKept s.repair.originAnswers s.repair.proxy) :
    ListsKept (s.passOn p f).repair.originAnswers (s.passOn p f).repair.proxy := by
  have hsame : s.sameAnswers ((s.takeSender p f).takeContent p f) :=
    State.sameAnswers.trans (s.takeSender_answers p f) (State.takeContent_sameAnswers _ p f)
  rw [s.passOn_repair]
  exact takeRepair_kept p hf (by rw [hsame.1, hsame.2]; exact h)

/-- Outside RUNNING no answer is made. -/
theorem takeRepair_empty {s : State} (p : Station) (f : Frame) (hrun : s.control.lifecycle ≠ .running)
    (h : s.repair.originAnswers = [] ∧ s.repair.proxy = []) :
    (s.takeRepair p f).repair.originAnswers = [] ∧ (s.takeRepair p f).repair.proxy = [] := by
  have hsuppress (subject : Station) (seqs : List Seq) : (s.suppress subject seqs).running = false := by
    show (s.control.lifecycle == .running) = false
    simpa using hrun
  unfold State.takeRepair
  cases f with
  | repairReq subject proxy seqs =>
    simp only
    unfold State.takeRequest State.takeOriginRequest State.takeProxyRequest
    simp only [hsuppress, Bool.false_and]
    repeat' split
    all_goals first | exact h | contradiction
  | repairNone subject seqs =>
    simp only
    split
    · obtain ⟨ho, hp⟩ := s.declareLost_sameAnswers subject .expired (fun m => seqs.contains m.seq)
      exact ⟨ho.trans h.1, hp.trans h.2⟩
    · exact h
  | repairData subject rs => exact ⟨h.1, by show List.filter _ s.repair.proxy = []; rw [h.2]; rfl⟩
  | _ => exact h

theorem passOn_lists_empty {s : State} (p : Station) (f : Frame) (hrun : s.control.lifecycle ≠ .running)
    (h : s.repair.originAnswers = [] ∧ s.repair.proxy = []) :
    (s.passOn p f).repair.originAnswers = [] ∧ (s.passOn p f).repair.proxy = [] := by
  have hsame : s.sameAnswers ((s.takeSender p f).takeContent p f) :=
    State.sameAnswers.trans (s.takeSender_answers p f) (State.takeContent_sameAnswers _ p f)
  have hcontrol : ((s.takeSender p f).takeContent p f).control = s.control :=
    (State.takeContent_frame _ p f .control (by decide)).trans (s.takeSender_frame p f .control (by decide))
  rw [s.passOn_repair]
  exact takeRepair_empty p f (by rw [hcontrol]; exact hrun) ⟨hsame.1.trans h.1, hsame.2.trans h.2⟩

theorem buildProxy_length (j : Journal) (n : Nat) (list : List ProxyEntry) :
    (j.buildProxy n list).1.length ≤ list.length := by
  induction n generalizing list with
  | zero => exact Nat.le_refl _
  | succ n ih =>
    unfold Journal.buildProxy
    split
    · exact Nat.le_refl _
    · simp only
      split
      · exact Nat.le_trans (ih _) (List.length_filter_le _ _)
      · exact List.length_filter_le _ _

/-- A selection leaves the proxy list or a shorter one. -/
theorem select_proxy_length {s : State} {sel : Selection} (h : s.select = some sel) :
    sel.proxy.length ≤ s.repair.proxy.length := by
  have hlow {proxy : List ProxyEntry} (h : s.selectLow proxy = some sel) : sel.proxy = proxy := by
    unfold State.selectLow at h
    split at h
    · rw [← Option.some.inj h]
    · split at h
      · contradiction
      · rw [← Option.some.inj h]
  have hbuilt := buildProxy_length s.journal s.repair.proxy.length s.repair.proxy
  have hproxy (h : s.selectProxy = some sel) : sel.proxy.length ≤ s.repair.proxy.length := by
    unfold State.selectProxy at h
    split at h
    · rename_i hb
      rw [hb] at hbuilt
      rw [← Option.some.inj h]; exact hbuilt
    · rename_i hb
      rw [hb] at hbuilt
      rw [hlow h]; exact hbuilt
  unfold State.select at h
  split at h
  · rw [← Option.some.inj h]
  · split at h
    · rw [← Option.some.inj h]
    · split at h
      · rw [← Option.some.inj h]
      · exact hproxy h

theorem takeCompletion_answers_kept {s : State} (h : s.AnswersKept) (src : Source) :
    (s.takeCompletion src).AnswersKept := by
  obtain ⟨pending, hcontrol⟩ := s.takeCompletion_control src
  obtain ⟨hlists, hempty⟩ := (answersKept_iff s).mp h
  have hrun : s.control.lifecycle = .running → (s.takeCompletion src).control.lifecycle = .running := by
    rw [hcontrol]; exact id
  cases src with
  | originAnswer =>
    obtain ⟨hshort, hleft⟩ := answerSent_kept hlists.left
    refine (answersKept_iff _).mpr ⟨⟨Nat.le_trans hshort hlists.origin, hlists.few, hleft⟩, fun hu => ?_⟩
    obtain ⟨ho, hp⟩ := hempty hu
    exact ⟨by show answerSent s.repair.originAnswers = []; rw [ho]; rfl, hp⟩
  | proxyAnswer p seqs =>
    refine (answersKept_iff _).mpr ⟨hlists.shorter (List.length_filter_le _ _), fun hu => ?_⟩
    obtain ⟨ho, hp⟩ := hempty hu
    exact ⟨ho, by show List.filter _ s.repair.proxy = []; rw [hp]; rfl⟩
  | event n =>
    have hrepair : (s.eventSent n).repair = s.repair := s.eventSent_frame n .repair (by decide)
    exact answersKept_of_same h (State.sameAnswers_of_repair hrepair) hrun
  | _ => exact answersKept_of_same h ⟨rfl, rfl⟩ hrun

theorem taken_keeps_answers {c : Instr} {s u : State} (h : s.AnswersKept) (hu : Taken s c u) :
    u.AnswersKept := by
  obtain ⟨hlists, hempty⟩ := (answersKept_iff s).mp h
  by_cases hc : Block.repair ∉ touches c
  · have hsame : s.sameAnswers u := State.sameAnswers_of_repair (hu.frame .repair hc)
    by_cases hcontrol : Block.control ∉ touches c
    · exact answersKept_of_same h hsame (by rw [hu.frame .control hcontrol]; exact id)
    have hmove := hu.control
    generalize hk : u.control = k at hmove
    have houtside (hs : s.control.lifecycle ≠ .running) : u.AnswersKept :=
      answersKept_of_empty (hsame.1.trans (hempty hs).1) (hsame.2.trans (hempty hs).2)
    cases hmove with
    | reset row => exact absurd (by simp [row, touches]) hc
    | start _ unconfigured _ => exact houtside (by rw [unconfigured]; nofun)
    | rejoin _ quiet => exact houtside (by rw [quiet]; nofun)
    | run _ joining => exact houtside (by rw [joining]; nofun)
    | quieten why =>
      exfalso
      rcases why with ⟨rfl, -⟩ | ⟨hrow, -⟩
      · exact hc (by simp [touches])
      · cases c <;> simp_all [touches, receptionBlocks, frameBytes]
    | _ => exact answersKept_of_same h hsame (by rw [hk]; exact id)
  cases hu with
  | deviceReset => exact answersKept_of_empty rfl rfl
  | @repairExpiry p _ =>
    have hsame : s.sameAnswers (s.expireMissing p) :=
      (s.declareLost_sameAnswers p .exhausted s.exhausted).trans (State.setMissing_sameAnswers _ _ _)
    exact answersKept_of_same h hsame (by rw [s.expireMissing_frame p .control (by decide)]; exact id)
  | proxyExpiry _ =>
    refine (answersKept_iff _).mpr ⟨hlists.shorter (by simp [State.endProxyDelay]), fun hs => ?_⟩
    obtain ⟨ho, hp⟩ := hempty hs
    exact ⟨ho, by show List.map _ s.repair.proxy = []; rw [hp]; rfl⟩
  | frameBegin selected may =>
    refine (answersKept_iff _).mpr ⟨hlists.shorter (select_proxy_length selected), fun hs => ?_⟩
    unfold State.mayBegin State.running at may
    simp only [Bool.and_eq_true, beq_iff_eq] at may
    exact absurd may.1.1.2 hs
  | bitError _ =>
    unfold State.abortFrame
    simp only
    split
    · exact answersKept_of_empty rfl rfl
    · exact h
  | frameComplete _ _ =>
    have hend := s.sentUpTo_frame s.comparedBits
    have hcontrol : (s.sentUpTo s.comparedBits).endSending.control = s.control := hend .control (by decide)
    have hkept : (s.sentUpTo s.comparedBits).endSending.AnswersKept :=
      answersKept_of_same h (State.sameAnswers_of_repair (hend .repair (by decide)))
        (by rw [hcontrol]; exact id)
    unfold State.completeFrame
    split
    · exact takeCompletion_answers_kept hkept _
    · exact hkept
  | @receivedFrame _ raw _ _ _ _ =>
    have hrepair : (s.afterReception raw).repair = s.repair := s.afterReception_frame raw .repair (by decide)
    have hcontrol := s.afterReception_control raw
    have hend : (s.afterReception raw).AnswersKept :=
      answersKept_of_same h (State.sameAnswers_of_repair hrepair) (by rw [hcontrol]; exact id)
    rcases s.takeFrame_cases raw with ht | ht | ht | ⟨-, -, ht⟩ | ⟨p, f, hcheck, -, hl, -, ht⟩ <;> rw [ht]
    · exact hend
    · exact hend
    · exact hend
    · exact answersKept_of_empty rfl rfl
    · have hpass : ((s.afterReception raw).passOn p f).control = (s.afterReception raw).control :=
        State.passOn_frame _ p f .control (by decide)
      obtain ⟨hlists', hempty'⟩ := (answersKept_iff _).mp hend
      refine (answersKept_iff _).mpr ⟨passOn_lists_kept p (checkFrame_within hcheck) hlists', fun hs => ?_⟩
      rw [hpass] at hs
      exact passOn_lists_empty p f hs (hempty' hs)
  | status row _ => rcases row with rfl | rfl <;> simp [touches] at hc
  | start row _ => rcases row with rfl | rfl <;> simp [touches] at hc
  | peers row _ => rcases row with rfl | rfl <;> simp [touches] at hc
  | inputs row _ => rcases row with rfl | rfl <;> simp [touches] at hc
  | rejoin row _ => rcases row with rfl | rfl <;> simp [touches] at hc
  | clearCounts row _ => rcases row with rfl | rfl <;> simp [touches] at hc
  | badCommand row _ => rcases row with rfl | rfl <;> simp [touches] at hc
  | endResponse row _ => rcases row with ⟨rfl, -⟩ | ⟨rfl, -⟩ <;> simp [touches] at hc
  | _ => simp [touches, offerBlocks] at hc

/-- Settles O9: the sets through `Limits`, the answer lists through `ListsKept`. -/
theorem repairUnitStaysWithinLimits : Obligations.RepairUnitStaysWithinLimits := by
  refine ⟨fun s t h => ?_, fun s t h => ?_⟩
  · refine step_keeps_blocks (Pre := State.RepairKept) (P := State.RepairKept) (bs := [.repair, .control])
      (fun {s t} hsame hP => repairKept_of_same hP (hsame .repair (by decide)) (hsame .control (by decide)))
      (by decide) id (fun _ hP => hP) (fun hP _ hu => taken_keeps_repair hP hu) (fun {s} hP hout => ?_) h
    obtain ⟨hlimits, hempty⟩ := (repairKept_iff s).mp hP
    have hcontrol : s.microsecond.control.lifecycle = s.control.lifecycle ∧
        s.microsecond.control.config = s.control.config := by
      rw [State.microsecond, if_neg (by simp [hout])]; exact ⟨rfl, rfl⟩
    obtain ⟨hlifecycle, hconfig⟩ := hcontrol
    refine repairKept_of_limits hP ⟨rfl, by rw [hconfig]; exact hlimits.retries, fun q => ?_⟩
      (by rw [hlifecycle]; exact id) fun q hq => by rw [s.microsecond_missing hout, hq]; rfl
    rw [s.microsecond_missing hout]
    refine (hlimits.sets q).map fun m hm => ⟨by rw [hconfig]; exact hm.tries, fun hd => ?_, fun left hl => ?_⟩
    · rw [hconfig, hlifecycle]
      refine hm.due ?_
      cases ht : m.timer with
      | due age => rfl
      | timing left => rw [Missing.tick, ht] at hd; exact hd
    · cases ht : m.timer with
      | due age => rw [Missing.tick, ht] at hl; contradiction
      | timing left' =>
        rw [Missing.tick, ht] at hl
        have hleft : left' - 1 = left := RepairTimer.timing.inj hl
        have hless := hm.timing left' ht
        rw [hconfig]
        omega
  · refine step_keeps_blocks (Pre := State.AnswersKept) (P := State.AnswersKept) (bs := [.repair, .control])
      (fun {s t} hsame hP => ?_)
      (by decide) id (fun _ hP => hP) (fun hP _ hu => taken_keeps_answers hP hu) (fun {s} hP hout => ?_) h
    · have hcontrol : t.control = s.control := hsame .control (by decide)
      exact answersKept_of_same hP (State.sameAnswers_of_repair (hsame .repair (by decide)))
        (by rw [hcontrol]; exact id)
    · obtain ⟨hlists, hempty⟩ := (answersKept_iff s).mp hP
      rw [State.microsecond, if_neg (by simp [hout])]
      refine (answersKept_iff _).mpr ⟨hlists.shorter (by simp), fun hs => ?_⟩
      obtain ⟨ho, hp⟩ := hempty hs
      exact ⟨ho, by show List.map _ s.repair.proxy = []; rw [hp]; rfl⟩

end Sys2Proof.RepairInvariants
end

section
namespace Sys2Proof.MissingInvariants

open Sys2Proof Sys2Proof.Machine Sys2Proof.SequenceLaws

/-! ### Sequences that trail a next sequence (R12)

A missing set is followed by its distances to the next sequence: they fall along the set, and a record that
moves the next sequence adds the same to each. -/

/-- The sequences stand before `next` by at most `d`, each nearer to it than the one in front of it. -/
structure Trails (d : Nat) (next : Seq) (seqs : List Seq) : Prop where
  order : seqs.Pairwise (fun a b => (next - b).toNat < (next - a).toNat)
  near : ∀ q ∈ seqs, 1 ≤ (next - q).toNat ∧ (next - q).toNat ≤ d

theorem Trails.nil (d : Nat) (next : Seq) : Trails d next [] := ⟨List.Pairwise.nil, nofun⟩

theorem Trails.sublist {d : Nat} {next : Seq} {seqs seqs' : List Seq} (h : Trails d next seqs)
    (hs : seqs'.Sublist seqs) : Trails d next seqs' :=
  ⟨h.order.sublist hs, fun q hq => h.near q (hs.subset hq)⟩

theorem Trails.mono {d d' : Nat} {next : Seq} {seqs : List Seq} (h : Trails d next seqs) (hd : d ≤ d') :
    Trails d' next seqs :=
  ⟨h.order, fun q hq => ⟨(h.near q hq).1, Nat.le_trans (h.near q hq).2 hd⟩⟩

theorem toNat_sub_of_moved {next next' q : Seq} {d : Nat} (hq : (next - q).toNat ≤ d)
    (hroom : d + (next' - next).toNat < 65536) :
    (next' - q).toNat = (next - q).toNat + (next' - next).toNat := by
  bv_omega

theorem Trails.moved {d k : Nat} {next next' : Seq} {seqs : List Seq} (h : Trails d next seqs)
    (hk : (next' - next).toNat ≤ k) (hroom : d + k < 65536) : Trails (d + k) next' seqs := by
  have hdist : ∀ q ∈ seqs, (next' - q).toNat = (next - q).toNat + (next' - next).toNat :=
    fun q hq => toNat_sub_of_moved (h.near q hq).2 (by omega)
  refine ⟨h.order.imp_of_mem fun {a b} ha hb hab => ?_, fun q hq => ?_⟩
  · rw [hdist a ha, hdist b hb]; omega
  · have hnear := h.near q hq
    rw [hdist q hq]; omega

theorem Trails.append {d : Nat} {next : Seq} {old new : List Seq} (hold : Trails d next old)
    (hnew : Trails d next new)
    (hapart : ∀ a ∈ old, ∀ b ∈ new, (next - b).toNat < (next - a).toNat) : Trails d next (old ++ new) := by
  refine ⟨List.pairwise_append.mpr ⟨hold.order, hnew.order, hapart⟩, fun q hq => ?_⟩
  rcases List.mem_append.mp hq with hq | hq
  · exact hold.near q hq
  · exact hnew.near q hq

/-- The sequences from `a` on trail the one `k` after the last of them. -/
theorem trails_seqRange {a next : Seq} {n k : Nat} (hnext : (next - a).toNat = n + k) :
    ((seqRange a n).Pairwise (fun a b => (next - b).toNat < (next - a).toNat)) ∧
      ∀ q ∈ seqRange a n, k + 1 ≤ (next - q).toNat ∧ (next - q).toNat ≤ n + k := by
  induction n generalizing a with
  | zero => exact ⟨List.Pairwise.nil, nofun⟩
  | succ n ih =>
    have hlater : (next - (a + 1)).toNat = n + k := by bv_omega
    obtain ⟨horder, hnear⟩ := ih hlater
    refine ⟨List.pairwise_cons.mpr ⟨fun b hb => ?_, horder⟩, fun q hq => ?_⟩
    · have := hnear b hb
      omega
    · rcases List.mem_cons.mp hq with rfl | hq
      · omega
      · have := hnear q hq
        omega

/-- In sequence order within `d` of the next sequence, a set is one that trails it. -/
theorem trails_of_ordered {d : Nat} (hd : d ≤ 32767) {next : Seq} {seqs : List Seq}
    (horder : seqs.Pairwise (fun a b => seqAfter b a = true))
    (hbefore : ∀ q ∈ seqs, seqAfter next q = true) (hnear : ∀ q ∈ seqs, (next - q).toNat ≤ d) :
    Trails d next seqs := by
  refine ⟨horder.imp_of_mem fun {a b} ha hb hab => ?_, fun q hq => ⟨?_, hnear q hq⟩⟩
  · have hna := hnear a ha
    have hnb := hnear b hb
    have hab' := (seqAfter_iff b a).mp hab
    bv_omega
  · exact ((seqAfter_iff next q).mp (hbefore q hq)).1

theorem Trails.ordered {d : Nat} (hd : d ≤ 32767) {next : Seq} {seqs : List Seq} (h : Trails d next seqs) :
    seqs.Pairwise (fun a b => seqAfter b a = true) ∧ ∀ q ∈ seqs, seqAfter next q = true := by
  refine ⟨h.order.imp_of_mem fun {a b} ha hb hab => ?_, fun q hq => ?_⟩
  · have hna := h.near a ha
    have hnb := h.near b hb
    rw [seqAfter_iff]
    bv_omega
  · have := h.near q hq
    rw [seqAfter_iff]
    omega

/-! ### The sets of a state -/

/-- The missing set of `q` trails its next sequence by at most `d`; without one nothing is missing. -/
structure SetTrails (d : Nat) (s : State) (q : Station) : Prop where
  known : ∀ n, (s.peer q).numbering = some n → Trails d n.next ((s.missing q).map (·.seq))
  unknown : (s.peer q).numbering = none → s.missing q = []

theorem SetTrails.mono {d d' : Nat} {s : State} {q : Station} (h : SetTrails d s q) (hd : d ≤ d') :
    SetTrails d' s q :=
  ⟨fun n hn => (h.known n hn).mono hd, h.unknown⟩

theorem SetTrails.of_nil {d : Nat} {s : State} {q : Station} (h : s.missing q = []) : SetTrails d s q :=
  ⟨fun n _ => by rw [h]; exact Trails.nil d n.next, fun _ => h⟩

/-- Entries may leave, and what else they hold may change. -/
theorem SetTrails.of_sublist {d : Nat} {s t : State} {q : Station} (h : SetTrails d s q)
    (hn : (t.peer q).numbering = (s.peer q).numbering)
    (hm : ((t.missing q).map (·.seq)).Sublist ((s.missing q).map (·.seq))) : SetTrails d t q := by
  refine ⟨fun n ht => (h.known n (hn ▸ ht)).sublist hm, fun ht => ?_⟩
  rw [h.unknown (hn ▸ ht)] at hm
  exact List.map_eq_nil_iff.mp (List.sublist_nil.mp hm)

theorem SetTrails.of_same {d : Nat} {s t : State} {q : Station} (h : SetTrails d s q)
    (hp : t.peer q = s.peer q) (hm : t.missing q = s.missing q) : SetTrails d t q :=
  h.of_sublist (by rw [hp]) (by rw [hm])

theorem SetTrails.of_map {d : Nat} {s t : State} {q : Station} (h : SetTrails d s q)
    (hp : (t.peer q).numbering = (s.peer q).numbering) {f : Missing → Missing} (hf : ∀ m, (f m).seq = m.seq)
    (hm : t.missing q = (s.missing q).map f) : SetTrails d t q := by
  refine h.of_sublist hp ?_
  have hseq : (fun m : Missing => m.seq) ∘ f = fun m => m.seq := funext hf
  rw [hm, List.map_map, hseq]

theorem SetTrails.of_filter {d : Nat} {s t : State} {q : Station} (h : SetTrails d s q)
    (hp : (t.peer q).numbering = (s.peer q).numbering) {f : Missing → Bool}
    (hm : t.missing q = (s.missing q).filter f) : SetTrails d t q :=
  h.of_sublist hp (by rw [hm]; exact List.filter_sublist.map _)

theorem newMissing_seq (s : State) (q : Seq) : (s.newMissing q).seq = q := by
  unfold State.newMissing State.whenDue State.spendTry
  split <;> rfl

/-- R61: the sequences up to `upTo` join the set; an older entry stays only where fewer than 8 of them do. -/
theorem joined_trails {d : Nat} {s : State} {p : Station} {first upTo next : Seq} {k : Nat}
    (h : Trails d first ((s.missing p).map (·.seq))) (hnext : (next - first).toNat = (upTo - first).toNat + k)
    (hk : k ≤ 1) (hd : 1 ≤ d) (hroom : d + 8 < 65536) :
    Trails (d + 8) next ((s.joined p (seqsUpTo first upTo)).map (·.seq)) := by
  have hnew (qs : List Seq) : (qs.map s.newMissing).map (·.seq) = qs := by
    rw [List.map_map]
    have hseq : (fun m : Missing => m.seq) ∘ s.newMissing = id := funext (newMissing_seq s)
    rw [hseq, List.map_id]
  rw [State.joined, List.map_append, hnew, seqsUpTo_length]
  generalize hlen : (upTo - first).toNat = len at hnext
  generalize s.missing p = old at h
  have hdropped : overrun old.length len - old.length = len - 8 := by
    unfold overrun Config.missingCapacity; omega
  have hseqs : (seqsUpTo first upTo).drop (len - 8) =
      seqRange (first + BitVec.ofNat 16 (len - 8)) (len - (len - 8)) := by
    rw [seqsUpTo, hlen, seqRange_drop]
  have hlast : (next - (first + BitVec.ofNat 16 (len - 8))).toNat = (len - (len - 8)) + k := by
    have := (next - first).isLt
    bv_omega
  rw [hdropped, hseqs]
  obtain ⟨horder, hnear⟩ := trails_seqRange hlast
  refine Trails.append ?_ ⟨horder, fun q hq => ?_⟩ fun a ha b hb => ?_
  · rcases Nat.lt_or_ge len 8 with hshort | hlong
    · exact (h.moved (by omega) hroom).sublist ((List.drop_sublist _ _).map _)
    · have hall : old.drop (overrun old.length len) = [] :=
        List.drop_eq_nil_of_le (by unfold overrun Config.missingCapacity; omega)
      rw [hall]; exact Trails.nil _ _
  · have := hnear q hq
    omega
  · rcases Nat.lt_or_ge len 8 with hshort | hlong
    · have hold := h.near a (((List.drop_sublist _ _).map _).subset ha)
      have hb' := hnear b hb
      rw [toNat_sub_of_moved hold.2 (by omega)]
      omega
    · have hall : old.drop (overrun old.length len) = [] :=
        List.drop_eq_nil_of_le (by unfold overrun Config.missingCapacity; omega)
      rw [hall] at ha
      contradiction

/-! ### The operations of a frame passed on -/

theorem SetTrails.advance {d : Nat} {s : State} {q : Station} (h : SetTrails d s q) {p : Station} {n : Numbering}
    {upTo next : Seq} (hn : (s.peer p).numbering = some n) {k : Nat}
    (hnext : (next - n.next).toNat = (upTo - n.next).toNat + k) (hk : k ≤ 1) (hd : 1 ≤ d) (hroom : d + 8 < 65536) :
    SetTrails (d + 8) (s.advance p n upTo next) q := by
  by_cases hq : q = p
  · subst hq
    refine ⟨fun n' hn' => ?_, fun hnone => ?_⟩
    · rw [State.advance_peer, if_pos rfl] at hn'
      rw [State.advance_missing, if_pos rfl, ← Option.some.inj hn']
      exact joined_trails (h.known n hn) hnext hk hd hroom
    · rw [State.advance_peer, if_pos rfl] at hnone
      contradiction
  · exact (h.of_same (by rw [State.advance_peer, if_neg hq]) (by rw [State.advance_missing, if_neg hq])).mono
      (Nat.le_add_right _ _)

theorem SetTrails.offer {d : Nat} {s : State} {q : Station} (h : SetTrails d s q) (r : Record) (x : Bool) :
    SetTrails d (s.offer r x) q :=
  h.of_same (State.peer_congr (State.offer_peers _ _ _) q) (State.missing_congr (State.offer_repair _ _ _) q)

theorem SetTrails.classify {d : Nat} {s : State} {q : Station} (h : SetTrails d s q) {p : Station} {n : Numbering}
    (hn : (s.peer p).numbering = some n) (x : Bool) (r : Record) (hd : 1 ≤ d) (hroom : d + 8 < 65536) :
    SetTrails (d + 8) (s.classify p n x r) q := by
  unfold State.classify
  split
  · rename_i hnew
    have hmoved : (r.seq + 1 - n.next).toNat = (r.seq - n.next).toNat + 1 := by
      unfold Numbering.isNew at hnew
      rw [Bool.or_eq_true, beq_iff_eq, seqAfter_iff] at hnew
      bv_omega
    exact (h.advance hn hmoved (Nat.le_refl 1) hd hroom).offer r x
  · split
    · refine SetTrails.mono (d := d) ?_ (Nat.le_add_right _ _)
      refine SetTrails.offer ?_ r x
      unfold State.fillMissing
      by_cases hq : q = p
      · subst hq; exact h.of_filter rfl (State.missing_setMissing _ _ _ _ |>.trans (if_pos rfl))
      · exact h.of_same rfl (State.missing_setMissing _ _ _ _ |>.trans (if_neg hq))
    · exact (h.of_same (t := s.countDuplicate) rfl rfl).mono (Nat.le_add_right _ _)

theorem SetTrails.takeRecord {d : Nat} {s : State} (h : ∀ q, SetTrails d s q) (p : Station) (x : Bool)
    (r : Record) (hd : 1 ≤ d) (hroom : d + 8 < 65536) (q : Station) :
    SetTrails (d + 8) (State.takeRecord p x s r) q := by
  have hduplicate : SetTrails (d + 8) s.countDuplicate q :=
    ((h q).of_same (t := s.countDuplicate) rfl rfl).mono (Nat.le_add_right _ _)
  unfold State.takeRecord
  split
  · exact hduplicate
  · exact hduplicate
  · exact (h q).classify ‹_› x r hd hroom
  · exact (h q).classify ‹_› x r hd hroom
  · rename_i hnone
    split
    · exact hduplicate
    · refine SetTrails.classify ?_ (by rw [State.setNumbering, State.peer_setPeer_same]) x r hd hroom
      by_cases hq : q = p
      · subst hq
        exact SetTrails.of_nil ((h q).unknown hnone)
      · exact (h q).of_same (State.peer_setPeer_other _ _ _ _ hq) rfl
  · exact hduplicate

theorem SetTrails.takeRecords {d : Nat} {s : State} (h : ∀ q, SetTrails d s q) (p : Station) (x : Bool)
    (rs : List Record) (hd : 1 ≤ d) (hroom : d + 8 * rs.length < 65536) (q : Station) :
    SetTrails (d + 8 * rs.length) (s.takeRecords p x rs) q := by
  unfold State.takeRecords
  induction rs generalizing s d with
  | nil => exact h q
  | cons r rs ih =>
    rw [List.length_cons] at hroom ⊢
    have hone := SetTrails.takeRecord h p x r hd (by omega)
    have hall := ih hone (by omega) (by omega)
    rw [show d + 8 * (rs.length + 1) = d + 8 + 8 * rs.length by omega]
    exact hall

theorem learnNumbering_trails {d : Nat} {s : State} (h : ∀ q, SetTrails d s q) (p : Station) (next : Seq)
    (q : Station) : SetTrails d (s.learnNumbering p next) q := by
  unfold State.learnNumbering
  split
  · exact h q
  · rename_i hnone
    by_cases hq : q = p
    · subst hq; exact SetTrails.of_nil ((h q).unknown hnone)
    · exact (h q).of_same (State.peer_setPeer_other _ _ _ _ hq) rfl

theorem takeTime_trails {d : Nat} {s : State} (h : ∀ q, SetTrails d s q) (p : Station) (sender settled : Stamp)
    (next : Seq) (ts : TimeState) (hd : 1 ≤ d) (hroom : d + 8 < 65536) (q : Station) :
    SetTrails (d + 8) (s.takeTime p sender settled next ts) q := by
  have hsampled (q : Station) : SetTrails d (s.timeSampled p sender next ts) q := by
    have hlearned := learnNumbering_trails h p next q
    rw [s.learnNumbering_eq] at hlearned
    refine hlearned.of_sublist ?_ (List.Sublist.refl _)
    rw [State.timeSampled_peer, State.peer_setPeer]
    split <;> rfl
  rw [s.takeTime_eq]
  unfold State.compareNext
  split
  · exact (hsampled q).mono (Nat.le_add_right _ _)
  · split
    · exact (hsampled q).advance ‹_› rfl (Nat.zero_le _) hd hroom
    · split
      · refine SetTrails.mono (d := d) ?_ (Nat.le_add_right _ _)
        refine (hsampled q).of_sublist ?_ (List.Sublist.refl _)
        rw [State.peer_setPeer]
        split
        · rename_i hq; rw [hq]
        · rfl
      · exact (hsampled q).mono (Nat.le_add_right _ _)

theorem takeContent_trails {d : Nat} {s : State} (h : ∀ q, SetTrails d s q) (p : Station) {f : Frame}
    (hf : f.within) (hd : 1 ≤ d) (hroom : d + 32 < 65536) (q : Station) :
    SetTrails (d + 32) (s.takeContent p f) q := by
  have hrecords (p : Station) (x : Bool) {rs : List Record} (hrs : rs.length ≤ Config.frameRecords) :
      SetTrails (d + 32) (s.takeRecords p x rs) q := by
    unfold Config.frameRecords at hrs
    exact (SetTrails.takeRecords h p x rs hd (by omega) q).mono (by omega)
  unfold State.takeContent
  cases f with
  | hello next restart si => exact (learnNumbering_trails h p next q).mono (Nat.le_add_right _ _)
  | time sender settled next si ts =>
    exact (takeTime_trails h p sender settled next ts hd (by omega) q).mono (by omega)
  | event rs => exact hrecords p false hf
  | repairData subject rs => exact hrecords subject true hf
  | _ => exact (h q).mono (Nat.le_add_right _ _)

theorem takeSender_trails {d : Nat} {s : State} (h : ∀ q, SetTrails d s q) {p : Station}
    (hself : (s.peer p).state ≠ .self) (habsent : (s.peer p).state = .absent → s.missing p = []) (f : Frame)
    (q : Station) : SetTrails d (s.takeSender p f) q := by
  have hpeer := s.takeSender_peer q f hself
  have hmissing := s.takeSender_missing q f hself
  by_cases hq : q = p
  · subst hq
    rw [if_pos rfl] at hpeer
    by_cases hrestart : (s.peer q).state ≠ .absent ∧ f.restartNext ≠ none
    · rw [if_pos ⟨rfl, hrestart⟩] at hmissing
      exact SetTrails.of_nil hmissing
    · rw [if_neg fun hc => hrestart hc.2] at hmissing
      by_cases ha : (s.peer q).state = .absent
      · exact SetTrails.of_nil (hmissing.trans (habsent ha))
      · refine (h q).of_sublist ?_ (by rw [hmissing])
        have hnone : f.restartNext = none := by
          by_contra hr; exact hrestart ⟨ha, hr⟩
        rw [hpeer, State.heardNumbering, if_neg ha, hnone]
  · rw [if_neg hq] at hpeer
    rw [if_neg fun hc => hq hc.1] at hmissing
    exact (h q).of_same hpeer hmissing

theorem takeRepair_trails {d : Nat} {s : State} {q : Station} (h : SetTrails d s q) (p : Station) (f : Frame) :
    SetTrails d (s.takeRepair p f) q := by
  have hmissing := s.takeRepair_missing p q f
  have hpeer : ((s.takeRepair p f).peer q).numbering = (s.peer q).numbering := by
    rw [State.peer_congr (s.takeRepair_peers p f)]
  cases f with
  | repairReq subject proxy seqs =>
    simp only at hmissing
    split at hmissing
    · rename_i hq
      obtain ⟨-, rfl⟩ := hq
      refine h.of_map hpeer (fun m => ?_) hmissing
      unfold State.holdBackEntry
      split <;> rfl
    · exact h.of_sublist hpeer (by rw [hmissing])
  | repairNone subject seqs =>
    simp only at hmissing
    split at hmissing
    · rename_i hq
      obtain ⟨-, rfl⟩ := hq
      exact h.of_filter hpeer hmissing
    · exact h.of_sublist hpeer (by rw [hmissing])
  | _ => exact h.of_sublist hpeer (by rw [hmissing])

theorem passOn_trails {d : Nat} {s : State} (h : ∀ q, SetTrails d s q) {p : Station}
    (hself : (s.peer p).state ≠ .self) (habsent : (s.peer p).state = .absent → s.missing p = []) {f : Frame}
    (hf : f.within) (hd : 1 ≤ d) (hroom : d + 32 < 65536) (q : Station) : SetTrails (d + 32) (s.passOn p f) q := by
  have hall := takeRepair_trails (takeContent_trails (takeSender_trails h hself habsent f) p hf hd hroom q) p f
  refine hall.of_same ?_ (State.missing_congr (s.passOn_repair p f) q)
  rw [State.peer_congr (s.passOn_peers p f), State.peer_congr (State.takeRepair_peers _ p f)]

end Sys2Proof.MissingInvariants
end

section
namespace Sys2Proof.MissingInvariants

open Sys2Proof Sys2Proof.Machine Sys2Proof.SequenceLaws

theorem missingOrdered_of_trails {s : State} (h : ∀ q, SetTrails 32767 s q) : s.MissingOrdered := by
  intro p
  refine ⟨?_, fun n hn m hm => ?_, (h p).unknown⟩
  · cases hn : (s.peer p).numbering with
    | none => rw [(h p).unknown hn]; exact List.Pairwise.nil
    | some n => exact List.pairwise_map.mp (((h p).known n hn).ordered (Nat.le_refl _)).1
  · exact (((h p).known n hn).ordered (Nat.le_refl _)).2 m.seq (List.mem_map_of_mem hm)

theorem trails_of_missingOrdered {s : State} (h : s.MissingOrdered)
    (hnear : ∀ p n, (s.peer p).numbering = some n → ∀ m ∈ s.missing p, (n.next - m.seq).toNat + 32 ≤ 32767)
    (q : Station) : SetTrails 32735 s q := by
  obtain ⟨horder, hbefore, hnone⟩ := h q
  refine ⟨fun n hn => trails_of_ordered (by omega) (List.pairwise_map.mpr horder) ?_ ?_, hnone⟩
  · intro x hx
    obtain ⟨m, hm, rfl⟩ := List.mem_map.mp hx
    exact hbefore n hn m hm
  · intro x hx
    obtain ⟨m, hm, rfl⟩ := List.mem_map.mp hx
    have := hnear q n hn m hm
    omega

theorem spendIfDue_seq (s : State) (m : Missing) : (s.spendIfDue m).seq = m.seq := by
  unfold State.spendIfDue
  split <;> rfl

theorem dueAgain_seq (s : State) (m : Missing) : (s.dueAgain m).seq = m.seq := by
  unfold State.dueAgain State.whenDue State.spendTry
  repeat' split
  all_goals rfl

theorem enterQuiet_trails {d : Nat} {s : State} {q : Station} (h : SetTrails d s q) (cause : QuietCause) :
    SetTrails d (s.enterQuiet cause) q :=
  h.of_map (by rw [State.peer_congr (s.enterQuiet_frame cause .peers (by decide))]) (spendIfDue_seq s)
    (s.enterQuiet_missing cause q)

theorem takeCompletion_trails {d : Nat} {s : State} {q : Station} (h : SetTrails d s q) (src : Source) :
    SetTrails d (s.takeCompletion src) q := by
  have hpeers : (s.takeCompletion src).peers = s.peers := s.takeCompletion_frame src .peers (by decide)
  have hpeer : ((s.takeCompletion src).peer q).numbering = (s.peer q).numbering := by
    rw [State.peer_congr hpeers]
  have hmissing := s.takeCompletion_missing src q
  cases src with
  | repairReq p seqs =>
    simp only at hmissing
    split at hmissing
    · rename_i hq
      subst hq
      refine h.of_map hpeer (fun m => ?_) hmissing
      split <;> rfl
    · exact h.of_sublist hpeer (by rw [hmissing])
  | _ => exact h.of_sublist hpeer (by rw [hmissing])

/-- What every command that is taken leaves, within 32 more of the next sequence. -/
theorem taken_keeps_trails {d : Nat} {c : Instr} {s u : State} (h : ∀ q, SetTrails d s q) (hpeers : s.PeersKept)
    (hd : 1 ≤ d) (hroom : d + 32 < 65536) (hu : Taken s c u) (q : Station) : SetTrails (d + 32) u q := by
  have hmore {v : State} (hv : SetTrails d v q) : SetTrails (d + 32) v q := hv.mono (Nat.le_add_right _ _)
  by_cases hboth : Block.peers ∉ touches c ∧ Block.repair ∉ touches c
  · exact hmore ((h q).of_same (State.peer_congr (hu.frame .peers hboth.1) q)
      (State.missing_congr (hu.frame .repair hboth.2) q))
  cases hu with
  | deviceReset =>
    refine SetTrails.of_nil ?_
    simp [State.missing, State.hold, State.reset, RepairUnit.reset]
  | resetRelease _ =>
    have hrepair := s.release_frame ‹_› ‹_› .repair (by decide)
    refine hmore ((h q).of_sublist ?_ (by rw [State.missing_congr hrepair]))
    rw [s.release_peer]
    split <;> rfl
  | @silenceExpiry p _ =>
    have hrepair : (s.silencePeer p).repair = s.repair := s.silencePeer_frame p .repair (by decide)
    refine hmore ((h q).of_sublist ?_ (by rw [State.missing_congr hrepair]))
    rw [State.silencePeer, State.peer_congr (State.computeHorizon_peers _), State.peer_congr (State.note_peers _ _),
      State.peer_setPeer]
    split
    · rename_i hq; rw [hq]
    · rfl
  | @repairExpiry p _ =>
    have hpeers : (s.expireMissing p).peers = s.peers := s.expireMissing_frame p .peers (by decide)
    have hmissing := s.expireMissing_missing p q
    refine hmore ?_
    split at hmissing
    · rename_i hq
      subst hq
      refine (h q).of_sublist (by rw [State.peer_congr hpeers]) ?_
      have hseq : (fun m : Missing => m.seq) ∘ s.dueAgain = fun m => m.seq := funext (dueAgain_seq s)
      rw [hmissing, List.map_map, hseq]
      exact List.filter_sublist.map _
    · exact (h q).of_same (State.peer_congr hpeers q) hmissing
  | proxyExpiry _ => exact hmore ((h q).of_same rfl rfl)
  | frameBegin _ _ => exact hmore ((h q).of_same rfl rfl)
  | bitError _ =>
    unfold State.abortFrame
    simp only
    split
    · refine hmore (enterQuiet_trails ?_ _)
      exact (h q).of_same rfl rfl
    · exact hmore ((h q).of_same rfl rfl)
  | frameComplete _ _ =>
    have hframe := s.sentUpTo_frame s.comparedBits
    have hend : SetTrails d (s.sentUpTo s.comparedBits).endSending q :=
      (h q).of_same (State.peer_congr (hframe .peers (by decide)) q)
        (State.missing_congr (hframe .repair (by decide)) q)
    unfold State.completeFrame
    split
    · exact hmore (takeCompletion_trails hend _)
    · exact hmore hend
  | @receivedFrame _ raw _ _ _ _ =>
    have hframe := s.afterReception_frame raw
    have hpeer (r : Station) : (s.afterReception raw).peer r = s.peer r :=
      State.peer_congr (hframe .peers (by decide)) r
    have hmissing (r : Station) : (s.afterReception raw).missing r = s.missing r :=
      State.missing_congr (hframe .repair (by decide)) r
    have hend (r : Station) : SetTrails d (s.afterReception raw) r := (h r).of_same (hpeer r) (hmissing r)
    rcases s.takeFrame_cases raw with ht | ht | ht | ⟨-, -, ht⟩ | ⟨p, f, hcheck, hown, -, -, ht⟩ <;> rw [ht]
    · exact hmore (hend q)
    · exact hmore ((hend q).of_same rfl rfl)
    · exact hmore ((hend q).of_same rfl rfl)
    · exact hmore (enterQuiet_trails (hend q) _)
    · have hentry := (PeerInvariants.peerKept_iff s p).mp (hpeers.1 p)
      refine passOn_trails hend ?_ ?_ (checkFrame_within hcheck) hd hroom q
      · rw [hpeer]; exact fun hs => hown (hentry.self.mp hs)
      · rw [hpeer, hmissing]; exact fun ha => hentry.missing (.inl ha)
  | status row _ => rcases row with rfl | rfl <;> simp [touches] at hboth
  | start row _ => rcases row with rfl | rfl <;> simp [touches] at hboth
  | peers row _ => rcases row with rfl | rfl <;> simp [touches] at hboth
  | inputs row _ => rcases row with rfl | rfl <;> simp [touches] at hboth
  | rejoin row _ => rcases row with rfl | rfl <;> simp [touches] at hboth
  | clearCounts row _ => rcases row with rfl | rfl <;> simp [touches] at hboth
  | badCommand row _ => rcases row with rfl | rfl <;> simp [touches] at hboth
  | endResponse row _ => rcases row with ⟨rfl, -⟩ | ⟨rfl, -⟩ <;> simp [touches] at hboth
  | _ => simp [touches, offerBlocks] at hboth

/-- Settles O10: a set in order trails the next sequence, by at most 32 more after one frame. -/
theorem missingSetsStayInOrder : Obligations.MissingSetsStayInOrder := by
  intro s t hordered hpeers hnear h
  refine missingOrdered_of_trails ?_
  refine step_keeps_blocks (Pre := fun s => (∀ q, SetTrails 32735 s q) ∧ s.PeersKept)
    (P := fun s => ∀ q, SetTrails 32767 s q) (bs := [.peers, .repair]) (fun {s t} hsame hP q => ?_) (by decide)
    (fun hP q => (hP.1 q).mono (by omega)) (fun {s} _ hP => ⟨fun q => (hP.1 q).of_same rfl rfl, hP.2⟩)
    (fun hP _ hu => taken_keeps_trails hP.1 hP.2 (by omega) (by omega) hu) (fun {s} hP hout q => ?_)
    ⟨trails_of_missingOrdered hordered hnear, hpeers⟩ h
  · exact (hP q).of_same (State.peer_congr (hsame .peers (by decide)) q)
      (State.missing_congr (hsame .repair (by decide)) q)
  · exact ((hP.1 q).of_map (by rw [s.microsecond_peer hout]; rfl) (f := Missing.tick) (fun _ => rfl)
      (s.microsecond_missing hout q)).mono (by omega)

end Sys2Proof.MissingInvariants
end

section
namespace Sys2Proof.PortInvariants

open Sys2Proof Sys2Proof.Machine

/-! ### IRQ (R196, R197) -/

theorem irqLevel_eq_true_iff (s : State) : s.irqLevel = true ↔
    (s.control.inForce = true ∧ s.control.config.threshold ≤ s.journal.released.length) ∨
      s.host.quietFlag = true ∨ s.host.dropFlag = true := by
  simp [State.irqLevel, or_assoc]

/-- The conditions of IRQ read the record in force, the released region and the flags. -/
theorem irqKept_of_same {s t : State} (h : s.IrqKept) (hforce : t.control.inForce = s.control.inForce)
    (hconfig : t.control.config = s.control.config) (hjournal : t.journal = s.journal)
    (hhost : t.host.irq = s.host.irq ∧ t.host.quietFlag = s.host.quietFlag ∧ t.host.dropFlag = s.host.dropFlag) :
    t.IrqKept := by
  obtain ⟨hirq, hquiet, hdrop⟩ := hhost
  have hlevel : t.irqLevel = s.irqLevel := by
    rw [State.irqLevel, State.irqLevel, hforce, hconfig, hjournal, hquiet, hdrop]
  rw [State.IrqKept, hirq, hlevel]
  exact h

theorem hostMove_flags (s : State) : s.hostMove.host.irq = s.host.irq ∧
    s.hostMove.host.quietFlag = s.host.quietFlag ∧ s.hostMove.host.dropFlag = s.host.dropFlag := by
  have hsample (t : State) (sdi : Bool) : (t.sampleSdi sdi).host.irq = t.host.irq ∧
      (t.sampleSdi sdi).host.quietFlag = t.host.quietFlag ∧
      (t.sampleSdi sdi).host.dropFlag = t.host.dropFlag := by
    unfold State.sampleSdi State.endByte
    simp only
    repeat' split
    all_goals exact ⟨rfl, rfl, rfl⟩
  have hshift (t : State) : t.shiftSdo.host.irq = t.host.irq ∧ t.shiftSdo.host.quietFlag = t.host.quietFlag ∧
      t.shiftSdo.host.dropFlag = t.host.dropFlag := by
    unfold State.shiftSdo
    split <;> exact ⟨rfl, rfl, rfl⟩
  unfold State.hostMove
  split
  · exact ⟨rfl, rfl, rfl⟩
  · exact ⟨rfl, rfl, rfl⟩
  · simp only
    split
    · exact ⟨rfl, rfl, rfl⟩
    · exact hsample _ _
  · simp only
    split
    · exact hshift _
    · exact ⟨rfl, rfl, rfl⟩
  · exact ⟨rfl, rfl, rfl⟩

theorem step_keeps_irq {s t : State} (hs : s.IrqKept) (h : step s = .next t) : t.IrqKept := by
  unfold step at h
  split at h
  · rcases exec_cases h with rfl | ⟨u, -, rfl⟩
    · exact hs
    · rfl
  · rw [← Host.Outcome.next.inj h]
    rcases idle_cases s with ⟨c, -, hidle⟩ | ⟨-, hidle⟩ | ⟨-, -, hidle⟩ <;> rw [hidle]
    · exact hs
    · have hframe := s.hostMove_frame
      have hcontrol : s.hostMove.control = s.control := hframe .control (by decide)
      exact irqKept_of_same (t := { s.hostMove with choices := s.choices + 1 }) hs
        (congrArg Control.inForce hcontrol) (congrArg Control.config hcontrol)
        (hframe .journal (by decide)) (hostMove_flags s)
    · unfold State.microsecond
      split
      · exact hs
      · exact irqKept_of_same (s := s) hs rfl rfl rfl ⟨rfl, rfl, rfl⟩

/-- Settles O12: every command settles IRQ, and nothing else a step does changes a condition. -/
theorem irqAlwaysAtItsLevel : Obligations.IrqAlwaysAtItsLevel := by
  refine fun s t => ⟨irqLevel_eq_true_iff s, fun hirq h => ?_⟩
  have hs : s.IrqKept := by
    rw [State.IrqKept, Bool.eq_iff_iff, hirq]
    exact (irqLevel_eq_true_iff s).symm
  have ht : t.host.irq = t.irqLevel := step_keeps_irq hs h
  rw [ht]
  exact irqLevel_eq_true_iff t

/-! ### The transaction (R36, R180, R181) -/

/-- While records are sent a READ has been taken that asks for more of them. -/
def wantsMore (taken : Option HostCommand) (delivered : Nat) : Prop :=
  match taken with
  | some (.read n) => delivered < n.toNat ∧ n.toNat ≤ Config.readLimit
  | _ => False

/-- The parts of a transaction go together, with SEL, device reset and SCK as given; `holds` says that the
released region holds a record. -/
structure PortKept (h : HostPort) (selLow inReset sck : Bool) (holds : Prop) : Prop where
  opened : h.txn ≠ .idle → selLow = true ∧ inReset = false
  operandsOf : h.operandsOf.isSome = true ↔ h.txn = .operands
  taken : h.txn = .idle → h.taken = none
  report : h.report.isSome = true → h.txn = .response ∧ h.taken = some .status
  sending : h.sending = true → h.txn = .response ∧ holds ∧ wantsMore h.taken h.delivered
  delivered : h.delivered ≤ Config.readLimit
  before : h.txn = .idle ∨ h.txn = .command ∨ h.txn = .operands → h.delivered = 0
  response : h.txn ≠ .response → h.response = []
  bits : h.bits.length < 8
  operands : h.operands.length < 87
  rest : h.txn = .idle → h.bits = [] ∧ h.out = []
  out : h.txn ≠ .idle → h.out.length =
    if sck then (if h.bits = [] then 1 else 9 - h.bits.length) else 8 - h.bits.length
  left : h.txn = .idle ∨ h.txn = .command ∨ h.txn = .operands → h.left = 0

theorem hostKept_iff (s : State) : s.HostKept ↔
    PortKept s.host s.selLow s.inReset s.wires.sck (s.journal.released ≠ []) :=
  ⟨fun ⟨h1, h2, h3, h4, h5, h6, h7, h8, h9, h10, h11, h12, h13⟩ =>
    ⟨h1, h2, h3, h4, h5, h6, h7, h8, h9, h10, h11, h12, h13⟩,
   fun ⟨h1, h2, h3, h4, h5, h6, h7, h8, h9, h10, h11, h12, h13⟩ =>
    ⟨h1, h2, h3, h4, h5, h6, h7, h8, h9, h10, h11, h12, h13⟩⟩

section
variable {h : HostPort} {selLow inReset sck : Bool} {holds holds' : Prop}

theorem PortKept.mono (k : PortKept h selLow inReset sck holds) (hh : holds → holds') :
    PortKept h selLow inReset sck holds' :=
  { k with sending := fun hs => ⟨(k.sending hs).1, hh (k.sending hs).2.1, (k.sending hs).2.2⟩ }

theorem PortKept.flags (k : PortKept h selLow inReset sck holds) (q d i : Bool) :
    PortKept { h with quietFlag := q, dropFlag := d, irq := i } selLow inReset sck holds :=
  ⟨k.opened, k.operandsOf, k.taken, k.report, k.sending, k.delivered, k.before, k.response, k.bits,
    k.operands, k.rest, k.out, k.left⟩

theorem portKept_reset (selLow inReset sck : Bool) (holds : Prop) :
    PortKept HostPort.reset selLow inReset sck holds :=
  { opened := fun hn => absurd rfl hn
    operandsOf := ⟨nofun, nofun⟩
    taken := fun _ => rfl
    report := nofun
    sending := nofun
    delivered := Nat.zero_le _
    before := fun _ => rfl
    response := fun _ => rfl
    bits := Nat.zero_lt_succ 7
    operands := Nat.zero_lt_succ 86
    rest := fun _ => ⟨rfl, rfl⟩
    out := fun hn => absurd rfl hn
    left := fun _ => rfl }

/-- In IDLE the port is at rest, whatever the wires. -/
theorem PortKept.idle (k : PortKept h selLow inReset sck holds) (hidle : h.txn = .idle) (x y z : Bool) (p : Prop) :
    PortKept h x y z p :=
  { k with
    opened := fun hn => absurd hidle hn
    sending := fun hs => by rw [(k.sending hs).1] at hidle; contradiction
    out := fun hn => absurd hidle hn }

/-- A response fixed while the command or its operands are read. -/
theorem PortKept.respond (k : PortKept h selLow inReset sck holds)
    (hread : h.txn = .command ∨ h.txn = .operands) (c : Option HostCommand) (response : List Byte) :
    PortKept { h with txn := .response, operandsOf := none, taken := c, response := response }
      selLow inReset sck holds := by
  have hbusy : h.txn ≠ .idle := by rcases hread with hr | hr <;> rw [hr] <;> nofun
  have hother : h.txn ≠ .response := by rcases hread with hr | hr <;> rw [hr] <;> nofun
  exact
    { opened := fun _ => k.opened hbusy
      operandsOf := ⟨nofun, nofun⟩
      taken := nofun
      report := fun hr => absurd (k.report hr).1 hother
      sending := fun hs => absurd (k.sending hs).1 hother
      delivered := k.delivered
      before := nofun
      response := fun hn => absurd rfl hn
      bits := k.bits
      operands := k.operands
      rest := nofun
      out := fun _ => k.out hbusy
      left := nofun }

/-- The records of a READ after its `delivered` so far: one more is sent, or none. -/
theorem PortKept.records (k : PortKept h selLow inReset sck holds) (htxn : h.txn = .response) (response : List Byte)
    {sending : Bool} {delivered : Nat} (hfew : delivered ≤ Config.readLimit)
    (hreport : h.report = none)
    (hsending : sending = true → holds' ∧ wantsMore h.taken delivered) :
    PortKept { h with response := response, sending := sending, delivered := delivered }
      selLow inReset sck holds' :=
  { k with
    report := fun hr => by rw [hreport] at hr; contradiction
    sending := fun hs => ⟨htxn, hsending hs⟩
    delivered := hfew
    before := fun hb => by rw [htxn] at hb; rcases hb with hb | hb | hb <;> contradiction
    response := fun hn => absurd htxn hn }

end

/-! ### The commands of the host port -/

theorem respond_kept {s : State} (k : s.HostKept) (hread : s.host.txn = .command ∨ s.host.txn = .operands)
    (c : Option HostCommand) (response : List Byte) : (s.respond c response).HostKept :=
  (hostKept_iff _).mpr (((hostKept_iff s).mp k).respond hread c response)

theorem hostKept_of_host {s t : State} (k : s.HostKept) (hhost : s.samePort t) (hsel : t.selLow = s.selLow)
    (hreset : t.inReset = s.inReset) (hwires : t.wires.sck = s.wires.sck)
    (hjournal : s.journal.released ≠ [] → t.journal.released ≠ []) : t.HostKept := by
  rw [hostKept_iff, hsel, hreset, hwires, hhost]
  exact (((hostKept_iff s).mp k).mono hjournal).flags _ _ _

theorem atCommand_txn {s : State} (h : s.atCommand = true) : s.host.txn = .command ∨ s.host.txn = .operands := by
  unfold State.atCommand at h
  simp only [Bool.and_eq_true, beq_iff_eq] at h
  exact .inl h.2

theorem atOperands_txn {s : State} {c : OperandCommand} (h : s.atOperands c = true) :
    s.host.txn = .command ∨ s.host.txn = .operands := by
  unfold State.atOperands at h
  simp only [Bool.and_eq_true, beq_iff_eq] at h
  exact .inr h.1.2

theorem inResponse_txn {s : State} (h : s.inResponse = true) : s.host.txn = .response := by
  unfold State.inResponse at h
  simp only [Bool.and_eq_true, beq_iff_eq] at h
  exact h.2

theorem beginTransaction_kept {s : State} (k : s.HostKept) (high : s.selLow = false) (moves : List HostMove) :
    (s.beginTransaction moves).HostKept := by
  have k := (hostKept_iff s).mp k
  have hidle : s.host.txn = .idle := by
    by_contra hn
    rw [(k.opened hn).1] at high
    contradiction
  unfold State.beginTransaction
  simp only
  split
  · exact (hostKept_iff _).mpr (k.idle hidle _ _ _ _)
  · rename_i hout
    have hoperands : s.host.operandsOf = none := by
      have := k.operandsOf
      rw [hidle] at this
      simpa using this
    rw [hostKept_iff]
    exact
      { opened := fun _ => ⟨rfl, by simpa using hout⟩
        operandsOf := by simp [hoperands]
        taken := nofun
        report := fun hr => by have := (k.report hr).1; rw [hidle] at this; contradiction
        sending := fun hs => by have := (k.sending hs).1; rw [hidle] at this; contradiction
        delivered := k.delivered
        before := fun _ => k.before (.inl hidle)
        response := fun _ => k.response (by rw [hidle]; nofun)
        bits := Nat.zero_lt_succ 7
        operands := Nat.zero_lt_succ 86
        rest := nofun
        out := fun _ => rfl
        left := fun _ => rfl }

theorem clearShownFlags_eq (s : State) : ∃ q d,
    s.clearShownFlags = { s with host := { s.host with quietFlag := q, dropFlag := d } } := by
  unfold State.clearShownFlags
  split
  · exact ⟨_, _, rfl⟩
  · exact ⟨s.host.quietFlag, s.host.dropFlag, rfl⟩

theorem endResponse_kept {s : State} (k : s.HostKept) (hresponse : s.host.txn = .response)
    (hsending : s.host.sending = false) : s.endResponse.HostKept := by
  have k := (hostKept_iff s).mp k
  have hclear (t : State) (ht : s.samePort t) : PortKept
      { t.host with txn := .trailing, response := [], report := none } s.selLow s.inReset s.wires.sck
      (s.journal.released ≠ []) := by
    rw [ht]
    exact
      { opened := fun _ => k.opened (by rw [hresponse]; nofun)
        operandsOf := by
          have := k.operandsOf
          rw [hresponse] at this
          simpa using this
        taken := nofun
        report := nofun
        sending := fun hs => by rw [hsending] at hs; contradiction
        delivered := k.delivered
        before := nofun
        response := fun _ => rfl
        bits := k.bits
        operands := k.operands
        rest := nofun
        out := fun _ => k.out (by rw [hresponse]; nofun)
        left := nofun }
  unfold State.endResponse
  simp only
  split
  · obtain ⟨q, d, hflags⟩ := clearShownFlags_eq s
    rw [hflags]
    exact (hostKept_iff _).mpr (hclear { s with host := { s.host with quietFlag := q, dropFlag := d } } rfl)
  · exact (hostKept_iff _).mpr (hclear s (State.samePort_of_host rfl))

theorem takeRead_kept {s : State} (k : s.HostKept) {n : Byte} (reads : s.atOperands .read = true) :
    (s.takeRead n).HostKept := by
  have hread := atOperands_txn reads
  have hother : s.host.txn ≠ .response := by rcases hread with hr | hr <;> rw [hr] <;> nofun
  unfold State.takeRead
  split
  · rename_i hcount
    split
    · rename_i h _ hj
      have hkept := (hostKept_iff _).mp (respond_kept k hread (some (.read n)) [resultOk])
      have hreport : s.host.report = none := by
        cases hr : s.host.report with
        | none => rfl
        | some r => exact absurd (((hostKept_iff s).mp k).report (by rw [hr]; rfl)).1 hother
      unfold readCountOk at hcount
      simp only [Bool.and_eq_true, decide_eq_true_eq] at hcount
      exact (hostKept_iff _).mpr (hkept.records rfl _ (Nat.zero_le _) hreport fun _ =>
        ⟨by show s.journal.released ≠ []; rw [hj]; nofun, hcount⟩)
    · exact respond_kept k hread _ _
  · exact respond_kept k hread _ _

theorem boundary_kept {s : State} (k : PortKept s.host s.selLow s.inReset s.wires.sck True)
    (hresponse : s.host.txn = .response) {n : Byte} {delivered : Nat}
    (htaken : s.host.taken = some (.read n)) (hmore : delivered ≤ n.toNat) (hn : n.toNat ≤ Config.readLimit) :
    (s.boundary n delivered).HostKept := by
  have hreport : s.host.report = none := by
    cases hr : s.host.report with
    | none => rfl
    | some r =>
      have := (k.report (by rw [hr]; rfl)).2
      rw [htaken] at this
      cases this
  have hfew := Nat.le_trans hmore hn
  unfold State.boundary
  split
  · rename_i h _ hj
    split
    · rename_i hless
      refine (hostKept_iff _).mpr (k.records hresponse _ hfew hreport fun _ => ⟨?_, ?_⟩)
      · show s.journal.released ≠ []; rw [hj]; nofun
      · rw [htaken]; exact ⟨hless, hn⟩
    · exact (hostKept_iff _).mpr (k.records hresponse _ hfew hreport nofun)
  · exact (hostKept_iff _).mpr (k.records hresponse _ hfew hreport nofun)

theorem journals_port {s t : State} (h : Journals s t) : s.samePort t := by
  induction h with
  | refl => exact State.samePort_of_host rfl
  | apart _ _ _ port ih => exact State.samePort_trans ih port
  | @offer t _ r x ih =>
    refine State.samePort_trans ih ?_
    rcases t.offer_cases r x with h | ⟨-, -, ⟨-, h⟩ | ⟨-, h⟩⟩ <;> rw [h]
    · rfl
    · exact State.samePort_of_host rfl
    · exact State.samePort_of_host rfl
  | count _ ih => exact State.samePort_trans ih (State.samePort_of_host rfl)
  | clear _ ih => exact State.samePort_trans ih (State.samePort_of_host rfl)
  | @horizon t _ ih =>
    exact State.samePort_trans ih (State.samePort_of_host (t.computeHorizon_frame .host (by decide)))

/-- Every other command leaves the transaction, and a record that the released region holds stays there. -/
theorem journals_kept {s t : State} (k : s.HostKept) (h : Journals s t) (hsel : t.selLow = s.selLow)
    (hreset : t.inReset = s.inReset) (hwires : t.wires = s.wires) : t.HostKept := by
  refine hostKept_of_host k (journals_port h) hsel hreset (by rw [hwires]) fun hn => ?_
  obtain ⟨-, ⟨more, hreleased⟩, -⟩ := JournalInvariants.adds_extend h.adds
  rw [← hreleased]
  simp [hn]

theorem taken_keeps_port {c : Instr} {s u : State} (k : s.HostKept) (hu : Taken s c u) : u.HostKept := by
  have hport := (hostKept_iff s).mp k
  by_cases hreset : c = .deviceReset
  · subst hreset
    rw [JournalInvariants.taken_deviceReset hu]
    exact (hostKept_iff _).mpr ((portKept_reset _ _ _ _).flags _ _ _)
  by_cases hc : ofPort c = false
  · have hjournals := hu.journals hreset hc
    by_cases hheld : ∃ adr br, c = .resetRelease adr br
    · obtain ⟨adr, br, rfl⟩ := hheld
      cases hu with
      | resetRelease held =>
        have hidle : s.host.txn = .idle := by
          by_contra hn
          rw [(hport.opened hn).2] at held
          contradiction
        have hframe := s.release_frame adr br
        have hhost : (s.release adr br).host = s.host := hframe .host (by decide)
        rw [hostKept_iff, hhost]
        exact hport.idle hidle _ _ _ _
      | receivedFrame row _ _ _ => contradiction
      | endResponse row _ => rcases row with ⟨h, -⟩ | ⟨h, -⟩ <;> contradiction
      | status row _ => rcases row with h | h <;> contradiction
      | start row _ => rcases row with h | h <;> contradiction
      | peers row _ => rcases row with h | h <;> contradiction
      | inputs row _ => rcases row with h | h <;> contradiction
      | rejoin row _ => rcases row with h | h <;> contradiction
      | clearCounts row _ => rcases row with h | h <;> contradiction
      | badCommand row _ => rcases row with h | h <;> contradiction
    · have hblock (b : Block) (hb : b = .selLow ∨ b = .inReset ∨ b = .wires) : b ∉ touches c := by
        rcases hb with rfl | rfl | rfl <;>
          cases c <;> simp_all [ofPort, touches, offerBlocks, receptionBlocks]
      exact journals_kept k hjournals (hu.frame .selLow (hblock _ (.inl rfl)))
        (hu.frame .inReset (hblock _ (.inr (.inl rfl)))) (hu.frame .wires (hblock _ (.inr (.inr rfl))))
  cases hu with
  | selFall high => exact beginTransaction_kept k high _
  | selRise _ =>
    exact (hostKept_iff _).mpr ((portKept_reset _ _ _ _).flags _ _ _)
  | status _ reads =>
    have hkept := (hostKept_iff _).mp
      (respond_kept k (atCommand_txn reads) (some .status) (resultOk :: s.statusReport.bytes))
    exact (hostKept_iff _).mpr { hkept with report := fun _ => ⟨rfl, rfl⟩ }
  | start _ reads =>
    have hanswer := respond_kept k (atCommand_txn reads) (some .start)
    unfold State.takeStart
    split
    · split
      · exact hanswer [resultOk]
      · exact hanswer _
    · exact hanswer _
  | peers _ reads => exact respond_kept k (atCommand_txn reads) _ _
  | inputs _ reads => exact respond_kept k (atCommand_txn reads) _ _
  | rejoin _ reads =>
    have hanswer := respond_kept k (atCommand_txn reads) (some .rejoin)
    unfold State.takeRejoin
    split
    · exact hanswer [resultOk]
    · exact hanswer _
  | clearCounts _ reads => exact respond_kept k (atCommand_txn reads) (some .clearCounts) [resultOk]
  | badCommand _ reads => exact respond_kept k (atCommand_txn reads) _ _
  | readOperands o reads =>
    unfold State.atCommand at reads
    simp only [Bool.and_eq_true, beq_iff_eq] at reads
    have htxn := reads.2
    refine (hostKept_iff _).mpr ?_
    exact
      { opened := fun _ => hport.opened (by rw [htxn]; nofun)
        operandsOf := ⟨fun _ => rfl, fun _ => rfl⟩
        taken := nofun
        report := fun hr => by have := (hport.report hr).1; rw [htxn] at this; contradiction
        sending := fun hs => by have := (hport.sending hs).1; rw [htxn] at this; contradiction
        delivered := hport.delivered
        before := fun _ => hport.before (.inr (.inl htxn))
        response := fun _ => hport.response (by rw [htxn]; nofun)
        bits := hport.bits
        operands := hport.operands
        rest := nofun
        out := fun _ => hport.out (by rw [htxn]; nofun)
        left := fun _ => hport.left (.inr (.inl htxn)) }
  | configure reads _ =>
    have hanswer := respond_kept k (atOperands_txn reads)
    unfold State.takeConfigure
    split
    · split
      · exact hanswer _ _
      · exact hanswer (some (.configure _)) [resultOk]
    · exact hanswer _ _
  | read reads => exact takeRead_kept k reads
  | @mark tag reads =>
    have hanswer := respond_kept k (atOperands_txn reads)
    unfold State.takeMark
    split
    · exact hanswer _ _
    · split
      · have hframe := s.appendOwn_frame s.now s.timebase.timeState (.mark tag s.snapshot)
        have hkept := journals_kept k (s.appendOwn_journals s.now s.timebase.timeState (.mark tag s.snapshot))
          (hframe .selLow (by decide)) (hframe .inReset (by decide)) (hframe .wires (by decide))
        refine respond_kept hkept ?_ _ _
        rw [journals_port (s.appendOwn_journals s.now s.timebase.timeState (.mark tag s.snapshot))]
        exact atOperands_txn reads
      · exact hanswer _ _
  | endResponse row responding =>
    refine endResponse_kept k (inResponse_txn responding) ?_
    rcases row with ⟨-, hstatus⟩ | ⟨-, hnone⟩
    · cases hs : s.host.sending with
      | false => rfl
      | true =>
        have := (hport.sending hs).2.2
        rw [hstatus] at this
        exact this.elim
    · exact hnone
  | @recordConsumed n asked held responding sending =>
    obtain ⟨hresponse, -, hmore⟩ := hport.sending sending
    rw [asked] at hmore
    obtain ⟨hless, hn⟩ := hmore
    have hframe := s.consumeHead_frame
    have hsame : s.samePort s.consumeHead := journals_port (s := s.withoutHead) s.consumeHead_journals
    have hkept : PortKept s.consumeHead.host s.consumeHead.selLow s.consumeHead.inReset
        s.consumeHead.wires.sck True := by
      have hwires : s.consumeHead.wires = s.wires := hframe .wires (by decide)
      have hsel : s.consumeHead.selLow = s.selLow := hframe .selLow (by decide)
      have hout : s.consumeHead.inReset = s.inReset := hframe .inReset (by decide)
      rw [hsame, hsel, hout, hwires]
      exact (hport.mono fun _ => trivial).flags _ _ _
    refine boundary_kept hkept ?_ ?_ hless hn
    · rw [hsame]; exact hresponse
    · rw [hsame]; exact asked
  | receivedFrame row _ _ _ => cases c <;> simp_all [frameBytes, ofPort]
  | _ => simp [ofPort] at hc

/-! ### The host's moves -/

theorem endByte_kept {s : State} (k : s.HostKept) (hbusy : s.host.txn ≠ .idle) (hbits : s.host.bits.length = 7)
    (byte : Byte) {w : HostWires} (hw : w.sck = true) (hlow : s.wires.sck = false) :
    ({ s with wires := w }.endByte byte).HostKept := by
  have k := (hostKept_iff s).mp k
  refine (hostKept_iff _).mpr
    { opened := k.opened
      operandsOf := k.operandsOf
      taken := k.taken
      report := k.report
      sending := k.sending
      delivered := k.delivered
      before := k.before
      response := k.response
      bits := Nat.zero_lt_succ 7
      operands := ?_
      rest := fun hi => absurd hi hbusy
      out := fun _ => ?_
      left := fun hb => ?_ }
  · show List.length (if _ then _ else _) < 87
    split
    · rename_i hnone
      simp only [Bool.and_eq_true, beq_iff_eq, Option.isNone_iff_eq_none] at hnone
      obtain ⟨htxn, hrow⟩ := hnone
      have hshort := k.operands
      have hsome := k.operandsOf.mpr htxn
      unfold HostPort.byteRow HostPort.operandRow configBytes at hrow
      rw [htxn] at hrow
      cases hop : s.host.operandsOf with
      | none => rw [hop] at hsome; contradiction
      | some o => cases o <;> simp_all; omega
    · exact Nat.zero_lt_succ 86
  · have hout := k.out hbusy
    rw [hlow, hbits] at hout
    show s.host.out.length = if w.sck then _ else _
    rw [hw, hout]
    rfl
  · show (if s.host.txn == .response then s.host.left + 1 else s.host.left) = 0
    have hleft := k.left hb
    have hother : s.host.txn ≠ .response := by
      rcases hb with hb | hb | hb <;> (rw [show s.host.txn = _ from hb]; nofun)
    simp [hother, hleft]

theorem sampleSdi_kept {s : State} (k : s.HostKept) (sdi : Bool) {w : HostWires} (hw : w.sck = true)
    (hlow : s.wires.sck = false) : ({ s with wires := w }.sampleSdi sdi).HostKept := by
  have hport := (hostKept_iff s).mp k
  unfold State.sampleSdi
  simp only
  split
  · rename_i hidle
    exact (hostKept_iff _).mpr (hport.idle (beq_iff_eq.mp hidle) _ _ _ _)
  · rename_i hbusy
    have hbusy : s.host.txn ≠ .idle := by simpa using hbusy
    split
    · rename_i hshort
      refine (hostKept_iff _).mpr { hport with bits := hshort, rest := fun hi => absurd hi hbusy, out := fun _ => ?_ }
      have hout := hport.out hbusy
      rw [hlow] at hout
      simp only [hw]
      rw [List.length_append, List.length_singleton] at hshort ⊢
      simp at hout ⊢
      omega
    · rename_i hfull
      have hbits := hport.bits
      rw [List.length_append, List.length_singleton] at hfull
      exact endByte_kept k hbusy (by omega) _ hw hlow

theorem shiftSdo_kept {s : State} (k : s.HostKept) {w : HostWires} (hw : w.sck = false)
    (hhigh : s.wires.sck = true) : ({ s with wires := w }.shiftSdo).HostKept := by
  have hport := (hostKept_iff s).mp k
  unfold State.shiftSdo
  split
  · rename_i hidle
    exact (hostKept_iff _).mpr (hport.idle (beq_iff_eq.mp hidle) _ _ _ _)
  · rename_i hbusy
    have hbusy : s.host.txn ≠ .idle := by simpa using hbusy
    refine (hostKept_iff _).mpr { hport with rest := fun hi => absurd hi hbusy, out := fun _ => ?_ }
    have hout := hport.out hbusy
    have hbits := hport.bits
    rw [hhigh] at hout
    simp only [hw]
    cases hb : s.host.bits with
    | nil => simp [dataBits]
    | cons b bs => simp [hb] at hout hbits ⊢; omega

theorem hostMove_kept {s : State} (k : s.HostKept) : s.hostMove.HostKept := by
  have hport := (hostKept_iff s).mp k
  unfold State.hostMove
  split
  · exact k
  · exact k
  · simp only
    split
    · rename_i hsck
      rw [hsck] at hport
      exact (hostKept_iff _).mpr hport
    · rename_i hsck
      exact sampleSdi_kept k _ rfl (by simpa using hsck)
  · simp only
    split
    · rename_i hsck
      exact shiftSdo_kept k rfl hsck
    · rename_i hsck
      rw [Bool.not_eq_true] at hsck
      rw [hsck] at hport
      exact (hostKept_iff _).mpr hport
  · exact (hostKept_iff _).mpr hport

/-- Settles O16: by the commands of the port, the host's moves, and what leaves the transaction. -/
theorem hostPortStaysConsistent : Obligations.HostPortStaysConsistent := by
  intro s t k h
  refine step_keeps (Pre := State.HostKept) (Post := State.HostKept) id (fun _ hP => hP) (fun _ _ hP => hP)
    (fun {s} hP => ?_) (fun hP hu => taken_keeps_port hP hu) (fun hP => hostMove_kept hP) (fun {s} hP hout => ?_) k h
  · exact (hostKept_iff _).mpr (((hostKept_iff s).mp hP).flags _ _ _)
  · rw [State.microsecond, if_neg (by simp [hout])]
    have hsck : s.wires.pass.sck = s.wires.sck := by
      unfold HostWires.pass
      split <;> rfl
    refine (hostKept_iff _).mpr ?_
    show PortKept s.host s.selLow s.inReset s.wires.pass.sck (s.journal.released ≠ [])
    rw [hsck]
    exact (hostKept_iff s).mp hP

end Sys2Proof.PortInvariants
end

section
namespace Sys2Proof.StepRules

open Sys2Proof Sys2Proof.Machine

/-! ### Idle steps (R93, R94) -/

theorem step_idle {s : State} (h : s.pending = []) : step s = .next s.idle := by
  unfold step
  rw [h]

theorem moveDue_iff (s : State) : s.moveDue = true ↔
    s.inReset = false ∧ ∃ m more, s.wires.coming = m :: more ∧ m ≠ .pause := by
  unfold State.moveDue
  cases hc : s.wires.coming with
  | nil => simp
  | cons m more => cases m <;> simp

theorem idle_of_quiet {s : State} (hdue : s.dueEvents = []) (hmove : s.moveDue = false) :
    s.idle = s.microsecond := by
  rcases idle_cases s with ⟨c, hc, -⟩ | ⟨hm, -⟩ | ⟨-, -, h⟩
  · rw [hdue] at hc; contradiction
  · rw [hmove] at hm; contradiction
  · exact h

theorem idle_of_busy {s : State} (h : s.dueEvents ≠ [] ∨ s.moveDue = true) :
    (∃ c ∈ s.dueEvents, s.idle = { s with pending := [c], choices := s.choices + 1 }) ∨
      (s.moveDue = true ∧ s.idle = { s.hostMove with choices := s.choices + 1 }) := by
  rcases idle_cases s with hc | hm | ⟨hdue, hmove, -⟩
  · exact .inl hc
  · exact .inr hm
  · rcases h with h | h
    · exact absurd hdue h
    · rw [hmove] at h; contradiction

theorem tickTimer_eq_map (t : Option Nat) : tickTimer t = t.map (· - 1) := by
  cases t <;> rfl

/-- What is due has been due 1 longer, and what is timing comes 1 nearer to its end. -/
theorem getElem?_map_tick {α : Type} {f : α → α} {timer : α → RepairTimer} {put : α → RepairTimer → α}
    (hf : ∀ x, f x = put x (timer x).tick) {xs ys : List α} (hys : ys = xs.map f) {k : Nat} {x : α}
    (hx : xs[k]? = some x) :
    (∀ age, timer x = .due age → ys[k]? = some (put x (.due (age + 1)))) ∧
      (∀ left, timer x = .timing left → ys[k]? = some (put x (.timing (left - 1)))) := by
  subst hys
  refine ⟨fun age ht => ?_, fun left ht => ?_⟩ <;> rw [List.getElem?_map, hx, Option.map_some, hf, ht] <;> rfl

theorem microsecond_missing_ticks {s : State} (hout : s.inReset = false) (p : Station) {k : Nat} {m : Missing}
    (hm : (s.missing p)[k]? = some m) :
    (∀ age, m.timer = .due age → (s.microsecond.missing p)[k]? = some { m with timer := .due (age + 1) }) ∧
      (∀ left, m.timer = .timing left →
        (s.microsecond.missing p)[k]? = some { m with timer := .timing (left - 1) }) :=
  getElem?_map_tick (f := Missing.tick) (timer := Missing.timer) (put := fun m t => { m with timer := t })
    (fun _ => rfl) (s.microsecond_missing hout p) hm

theorem microsecond_proxy {s : State} (hout : s.inReset = false) :
    s.microsecond.repair.proxy = s.repair.proxy.map ProxyEntry.tick := by
  rw [State.microsecond, if_neg (by simp [hout])]

theorem microsecond_proxy_ticks {s : State} (hout : s.inReset = false) {k : Nat} {e : ProxyEntry}
    (he : s.repair.proxy[k]? = some e) :
    (∀ age, e.timer = .due age → s.microsecond.repair.proxy[k]? = some { e with timer := .due (age + 1) }) ∧
      (∀ left, e.timer = .timing left →
        s.microsecond.repair.proxy[k]? = some { e with timer := .timing (left - 1) }) :=
  getElem?_map_tick (f := ProxyEntry.tick) (timer := ProxyEntry.timer) (put := fun e t => { e with timer := t })
    (fun _ => rfl) (microsecond_proxy hout) he

theorem microsecond_input {s : State} (hout : s.inReset = false) (i : Fin 16) :
    s.microsecond.input i = (s.input i).tick := by
  rw [State.microsecond, if_neg (by simp [hout])]
  simp [State.input]

theorem microsecond_wires {s : State} (hout : s.inReset = false) : s.microsecond.wires = s.wires.pass := by
  rw [State.microsecond, if_neg (by simp [hout])]

theorem microsecond_frame {s : State} (hout : s.inReset = false) : s.changesOnly s.microsecond
    [.control, .inputs, .line, .wires, .medium, .timebase, .ticks, .peers, .repair] := by
  rw [State.microsecond, if_neg (by simp [hout])]
  intro b hb
  cases b <;> first | exact absurd (by decide) hb | rfl

/-- Settles O2: `idle_cases`, and what a microsecond makes of each block. -/
theorem idleStepPassesTime : Obligations.IdleStepPassesTime := by
  refine ⟨fun s hpending => ⟨fun hdue hmove => ?_, fun hbusy => ?_, moveDue_iff s⟩,
    fun s => ⟨fun hreset => ?_, fun hout => ?_⟩⟩
  · rw [step_idle hpending, idle_of_quiet hdue hmove]
  · refine (idle_of_busy hbusy).imp ?_ ?_
    · rintro ⟨c, hc, h⟩
      exact ⟨c, hc, by rw [step_idle hpending, h]⟩
    · rintro ⟨hm, h⟩
      exact ⟨hm, by rw [step_idle hpending, h]⟩
  · rw [State.microsecond, if_pos hreset]
  · have hwires := microsecond_wires hout
    have hblocks : s.microsecond.timebase = { s.timebase with
          localCounter := s.timebase.localCounter + 1, roundTimer := tickTimer s.timebase.roundTimer } ∧
        s.microsecond.control = { s.control with joinTimer := tickTimer s.control.joinTimer } ∧
        s.microsecond.ticks = s.ticks.tick ∧ s.microsecond.repair.originAnswers = s.repair.originAnswers := by
      rw [State.microsecond, if_neg (by simp [hout])]
      exact ⟨rfl, rfl, rfl, rfl⟩
    obtain ⟨htimebase, hcontrol, hticks, hanswers⟩ := hblocks
    refine ⟨by rw [htimebase, tickTimer_eq_map], ?_, by rw [hcontrol, tickTimer_eq_map], hticks, fun p => ?_,
      ⟨hanswers, by rw [microsecond_proxy hout, List.length_map], fun k e he => microsecond_proxy_ticks hout he⟩,
      fun i => ?_, fun more hpause => ?_, fun hbusy => ?_, microsecond_frame hout⟩
    · rw [State.now, State.now, htimebase]
      show s.timebase.localCounter + 1 + s.timebase.correction = _
      rw [BitVec.add_assoc, BitVec.add_comm 1, BitVec.add_assoc]
    · refine ⟨by rw [s.microsecond_peer hout, PeerEntry.tick, tickTimer_eq_map],
        by rw [s.microsecond_missing hout, List.length_map], fun k m hm => microsecond_missing_ticks hout p hm⟩
    · rw [microsecond_input hout, Input.tick, tickTimer_eq_map, tickTimer_eq_map]
    · rw [hwires, HostWires.pass, hpause]
    · rw [hwires, HostWires.pass]
      split
      · rename_i more hpause
        exact absurd hpause (hbusy more)
      · rfl

/-! ### Network time (R93 to R95, R110) -/

/-- Network time and the time state stand as they were. -/
structure SameTime (b b' : Timebase) : Prop where
  counter : b'.localCounter = b.localCounter
  correction : b'.correction = b.correction
  timeState : b'.timeState = b.timeState

theorem SameTime.of_eq {b b' : Timebase} (h : b' = b) : SameTime b b' := by
  subst h; exact ⟨rfl, rfl, rfl⟩

/-- Every command but a round end, a slew tick and DEVICE_RESET leaves network time and the time state. -/
theorem taken_sameTime {c : Instr} {s u : State} (hu : Taken s c u) (hreset : c ≠ .deviceReset)
    (hround : c ≠ .roundEnd) (hslew : c ≠ .slewTick) : SameTime s.timebase u.timebase := by
  by_cases hc : Block.timebase ∉ touches c
  · exact .of_eq (hu.frame .timebase hc)
  cases hu with
  | deviceReset => exact absurd rfl hreset
  | roundEnd _ => exact absurd rfl hround
  | slewTick _ => exact absurd rfl hslew
  | start _ _ =>
    unfold State.takeStart
    split
    · split <;> exact ⟨rfl, rfl, rfl⟩
    · exact ⟨rfl, rfl, rfl⟩
  | sofIdle _ _ => split <;> exact ⟨rfl, rfl, rfl⟩
  | frameBegin _ _ => exact ⟨rfl, rfl, rfl⟩
  | sofElsewhere _ _ =>
    exact .of_eq ((State.othersDrive_frame _ _ .timebase (by decide)).trans
      (s.findBoundary_frame .timebase (by decide)))
  | @receivedFrame _ raw _ _ _ _ =>
    have hend : (s.afterReception raw).timebase = s.timebase := s.afterReception_frame raw .timebase (by decide)
    rcases s.takeFrame_cases raw with ht | ht | ht | ⟨-, -, ht⟩ | ⟨p, f, -, -, -, -, ht⟩ <;> rw [ht]
    · exact .of_eq hend
    · exact .of_eq hend
    · exact .of_eq hend
    · rw [LineInvariants.enterQuiet_timebase, hend]; exact ⟨rfl, rfl, rfl⟩
    · have hpass := (s.afterReception raw).passOn_timebase p f
      rw [hend] at hpass
      rw [hpass]; exact ⟨rfl, rfl, rfl⟩
  | bitError _ =>
    unfold State.abortFrame
    simp only
    split
    · rw [LineInvariants.enterQuiet_timebase]; exact ⟨rfl, rfl, rfl⟩
    · exact ⟨rfl, rfl, rfl⟩
  | frameComplete _ _ =>
    have hend : (s.sentUpTo s.comparedBits).endSending.timebase = s.timebase :=
      s.sentUpTo_frame s.comparedBits .timebase (by decide)
    unfold State.completeFrame
    split
    · obtain ⟨owed, hb⟩ := TimeInvariants.takeCompletion_timebase
        (s.sentUpTo s.comparedBits).endSending ‹Prepared›.source
      rw [hb, hend]; exact ⟨rfl, rfl, rfl⟩
    · exact .of_eq hend
  | status row _ => rcases row with rfl | rfl <;> exact ⟨rfl, rfl, rfl⟩
  | peers _ _ => exact ⟨rfl, rfl, rfl⟩
  | inputs _ _ => exact ⟨rfl, rfl, rfl⟩
  | rejoin _ _ => unfold State.takeRejoin; split <;> exact ⟨rfl, rfl, rfl⟩
  | clearCounts _ _ => exact ⟨rfl, rfl, rfl⟩
  | badCommand _ _ => exact ⟨rfl, rfl, rfl⟩
  | readOperands _ _ => exact ⟨rfl, rfl, rfl⟩
  | endResponse _ _ => exact .of_eq (s.endResponse_frame .timebase (by decide))
  | _ => exact absurd (by simp [touches, offerBlocks]) hc

theorem slew_correction (s : State) : s.slew.timebase.correction = s.timebase.correction ∨
    s.slew.timebase.correction = s.timebase.correction + 1 ∨
    s.slew.timebase.correction = s.timebase.correction - 1 := by
  unfold State.slew
  split
  · exact .inr (.inl rfl)
  · split
    · exact .inr (.inr rfl)
    · exact .inl rfl

theorem endRound_correction_of_locked {s : State} (h : s.timebase.timeState = .locked) :
    s.endRound.timebase.correction = s.timebase.correction := by
  show s.applyRound.timebase.correction = _
  unfold State.applyRound
  split
  · rw [h]
    unfold State.holdOver
    simp only
    split <;> rfl
  · simp only [h]
    unfold State.lockedRound
    simp only
    split <;> rfl

/-- Settles O19: all but round ends and slew ticks leave the time, and these two are taken apart. -/
theorem onlyRoundEndsAndSlewMoveTime : Obligations.OnlyRoundEndsAndSlewMoveTime := by
  refine ⟨fun _ => rfl, fun c s t hreset h => ?_⟩
  by_cases hround : c = .roundEnd
  · subst hround
    rcases commit_or_notTaken h with rfl | ⟨-, rfl⟩
    · exact ⟨rfl, fun _ _ => rfl, fun _ => .inl rfl, fun _ _ => rfl, fun _ => rfl⟩
    have hcounter : s.endRound.timebase.localCounter = s.timebase.localCounter := by
      show s.applyRound.timebase.localCounter = _
      rw [s.applyRound_timebase]
    exact ⟨hcounter, fun hn => absurd rfl hn, nofun, fun _ => endRound_correction_of_locked,
      fun hn => absurd rfl hn⟩
  by_cases hslew : c = .slewTick
  · subst hslew
    rcases commit_or_notTaken h with rfl | ⟨-, rfl⟩
    · exact ⟨rfl, fun _ _ => rfl, fun _ => .inl rfl, fun _ _ => rfl, fun _ => rfl⟩
    rw [State.settleIrq_timebase]
    generalize hv : ({ s with ticks := { s.ticks with slew := Config.slewPeriod } } : State) = v
    have hbase : v.timebase = s.timebase := by rw [← hv]
    have hmove := slew_correction v
    rw [hbase] at hmove
    have hrest := v.slew_timebase
    rw [hbase] at hrest
    exact ⟨by rw [hrest], fun _ hn => absurd rfl hn, fun _ => hmove, nofun, fun _ => by rw [hrest]⟩
  have htime : SameTime s.timebase t.timebase := by
    rcases exec_cases h with rfl | ⟨u, hu, rfl⟩
    · exact .of_eq rfl
    · rw [State.settleIrq_timebase]
      exact taken_sameTime hu hreset hround hslew
  exact ⟨htime.counter, fun _ _ => htime.correction, fun hc => absurd hc hslew, fun hc => absurd hc hround,
    fun _ => htime.timeState⟩

/-! ### Device reset (R166, R167) -/

theorem stationOf_eq_some_iff (adr : BitVec 5) (p : Station) :
    stationOf adr = some p ↔ p.val + 1 = adr.toNat := by
  unfold stationOf
  split
  · rename_i h
    rw [Option.some.injEq, Fin.ext_iff]
    show adr.toNat - 1 = p.val ↔ _
    omega
  · have := p.isLt
    simp only [reduceCtorEq, false_iff]
    omega

theorem stationOf_isSome_iff (adr : BitVec 5) :
    (stationOf adr).isSome = true ↔ 1 ≤ adr.toNat ∧ adr.toNat ≤ 24 := by
  unfold stationOf
  split
  · rename_i h; simp [h]
  · rename_i h; simp [h]

theorem ownOrigin_of_own {s : State} {p : Station} (h : s.own = some p) : s.ownOrigin = originOf p := by
  unfold State.ownOrigin
  rw [h]

theorem hold_irqKept (s : State) : s.hold.IrqKept := by
  show false = s.hold.irqLevel
  rfl

/-- Settles O6: the hold as it stands, the release by what it makes of each entry. -/
theorem deviceResetAndRelease : Obligations.DeviceResetAndRelease := by
  refine ⟨fun s => ?_, fun adr br s => ⟨fun hout => ?_, fun hheld => ?_⟩, fun s p =>
    ⟨stationOf_eq_some_iff _ p, rfl, ownOrigin_of_own⟩⟩
  · show Host.Outcome.next s.hold.settleIrq = _
    rw [State.settleIrq_of_kept (hold_irqKept s)]
    rfl
  · show (if s.inReset = true then _ else _) = _
    rw [hout]; rfl
  · have hexec : exec (.resetRelease adr br) s = .next (s.release adr br).settleIrq := if_pos hheld
    have hcontrol := s.release_control adr br
    have hpeer (p : Station) := s.release_peer adr br p
    have hframe := s.release_frame adr br
    refine ⟨_, hexec, ?_, ?_, ?_, ?_, fun p hp => ?_, fun p hp => ?_, ?_, ?_⟩
    · show (s.release adr br).inReset = false
      unfold State.release State.placeSelf
      split <;> rfl
    · rw [State.settleIrq_control, hcontrol]
    · rw [State.settleIrq_control, hcontrol]; rfl
    · rw [State.settleIrq_control, hcontrol]
    · exact (hpeer p).trans (if_pos ((stationOf_eq_some_iff adr p).mpr hp))
    · exact (hpeer p).trans (if_neg (mt (stationOf_eq_some_iff adr p).mp hp))
    · show (stationOf (s.release adr br).control.address).isSome = true ↔ _
      rw [hcontrol]
      exact stationOf_isSome_iff adr
    · exact State.changesOnly_trans (State.changesOnly_mono hframe (by decide))
        (State.changesOnly_mono (State.settleIrq_frame _) (by decide))

theorem reset_peer (p : Station) : State.reset.peer p = PeerEntry.reset := by
  simp [State.peer, State.reset]

theorem reset_missing (p : Station) : State.reset.missing p = [] := by
  simp [State.missing, State.reset, RepairUnit.reset]

theorem reset_input (i : Fin 16) : State.reset.input i = Input.reset := by
  simp [State.input, State.reset]

/-- Settles O5: item by item; the invariants hold of empty tables. -/
theorem resetValues : Obligations.ResetValues := by
  have hmissing := reset_missing
  have hpeer := reset_peer
  have hinput := reset_input
  have hconfig (i : Fin 16) : State.reset.inputConfig i = InputConfig.default := by
    simp [State.inputConfig, State.reset, Control.reset, ConfigRecord.default]
  have hfresh (p : Station) : State.reset.fresh p = 0 := by
    simp [State.fresh, State.reset, Timebase.reset]
  unfold Obligations.ResetValues
  refine ⟨rfl, rfl, rfl, rfl, rfl, ⟨rfl, rfl, rfl, rfl, rfl, rfl, hconfig⟩, hinput, rfl, rfl, rfl, rfl, rfl, rfl, rfl, rfl,
    rfl, rfl, rfl, rfl, rfl, rfl, rfl, rfl, rfl, rfl, rfl, rfl, rfl, rfl, rfl, rfl, rfl, rfl, rfl, hfresh, hpeer, hmissing,
    rfl, rfl, rfl, rfl, rfl, rfl, rfl, rfl, rfl, rfl, rfl, rfl, rfl, rfl, rfl, ?_⟩
  have hhold : State.reset.hold = State.reset := rfl
  have htime := TimeInvariants.reset_timeKept State.reset
  have hpeers := PeerInvariants.hold_kept State.reset
  rw [hhold] at htime hpeers
  refine ⟨?config, ?journal, List.Pairwise.nil, ?queue, ⟨nofun, fun _ => ⟨rfl, rfl⟩⟩, ?repair, ?line, ?answers, rfl, htime,
    ?inputs, hpeers, ?host, ?ticks, ?missing⟩
  case config =>
    refine ⟨by decide, by decide, by decide, by decide, by decide, by decide, by decide, by decide, by decide,
      by decide, by decide, by decide, fun i => ?_⟩
    show (State.reset.inputConfig i).inRange
    rw [hconfig i]
    exact ⟨by decide, .inl rfl, by decide, by decide⟩
  case journal => exact ⟨List.Pairwise.nil, nofun, by decide⟩
  case queue => exact ⟨rfl, by decide, by decide, by simp [State.reset, Outbound.reset], nofun⟩
  case repair =>
    refine (RepairInvariants.repairKept_iff _).mpr ⟨?_, fun q _ => hmissing q⟩
    exact .of_empty rfl (by decide : 1 ≤ ConfigRecord.default.retries) hmissing
  case line => unfold State.LineKept; decide
  case answers => exact RepairInvariants.answersKept_of_empty rfl rfl
  case inputs =>
    refine fun i => (InputInvariants.inputKept_iff _ i).mpr ?_
    rw [hinput i, hconfig i]
    exact InputInvariants.reset_inputKept _ _ fun hn => absurd rfl hn
  case host =>
    exact (PortInvariants.hostKept_iff _).mpr (PortInvariants.portKept_reset _ _ _ _)
  case ticks => exact ⟨Nat.le_refl _, Nat.le_refl _, Nat.le_refl _⟩
  case missing =>
    exact MissingInvariants.missingOrdered_of_trails fun q => MissingInvariants.SetTrails.of_nil (hmissing q)

/-! ### The horizon (R27 to R29) -/

/-- The smallest of a list of terms and one more. -/
theorem foldl_earlier (terms : List Stamp) (own : Stamp) :
    (terms.foldl earlier own = own ∨ terms.foldl earlier own ∈ terms) ∧ terms.foldl earlier own ≤ own ∧
      ∀ x ∈ terms, terms.foldl earlier own ≤ x := by
  induction terms generalizing own with
  | nil => exact ⟨.inl rfl, BitVec.le_refl _, nofun⟩
  | cons x xs ih =>
    obtain ⟨hmem, hle, hall⟩ := ih (earlier own x)
    have hfirst : earlier own x ≤ own ∧ earlier own x ≤ x ∧ (earlier own x = own ∨ earlier own x = x) := by
      unfold earlier
      split
      · rename_i h
        exact ⟨BitVec.le_of_lt h, BitVec.le_refl _, .inr rfl⟩
      · rename_i h
        exact ⟨BitVec.le_refl _, BitVec.not_lt.mp h, .inl rfl⟩
    obtain ⟨hown, hx, heither⟩ := hfirst
    rw [List.foldl_cons]
    refine ⟨?_, BitVec.le_trans hle hown, fun y hy => ?_⟩
    · rcases hmem with hmem | hmem
      · rw [hmem]
        exact heither.imp id fun h => by rw [h]; exact List.mem_cons_self
      · exact .inr (List.mem_cons_of_mem _ hmem)
    · rcases List.mem_cons.mp hy with rfl | hy
      · exact BitVec.le_trans hle hx
      · exact hall y hy

theorem mem_peerTerms (s : State) (m : Stamp) :
    m ∈ s.peerTerms ↔ ∃ p, (s.peer p).state = .active ∧ (s.peer p).ct = m := by
  unfold State.peerTerms State.peer
  simp only [List.mem_map, List.mem_filter, beq_iff_eq]
  constructor
  · rintro ⟨e, ⟨he, hs⟩, rfl⟩
    obtain ⟨k, hk, rfl⟩ := Vector.mem_iff_getElem.mp (Vector.mem_toList_iff.mp he)
    exact ⟨⟨k, hk⟩, hs, rfl⟩
  · rintro ⟨p, hs, rfl⟩
    exact ⟨s.peers[p.val], ⟨Vector.mem_toList_iff.mpr (Vector.getElem_mem _), hs⟩, rfl⟩

theorem ownTerm_of_now (s : State) :
    (s.now.toNat < 200 → s.ownTerm = 0) ∧ (200 ≤ s.now.toNat → s.ownTerm.toNat + 200 = s.now.toNat) := by
  unfold State.ownTerm lagged Config.ownLag
  refine ⟨fun h => if_pos h, fun h => ?_⟩
  rw [if_neg (by omega)]
  bv_omega

/-- Settles O25: the fold of the terms is the smallest of them. -/
theorem horizonIsTheSmallestTerm : Obligations.HorizonIsTheSmallestTerm := by
  refine ⟨fun s now hnow => by rw [hnow]; exact ownTerm_of_now s, fun s => ⟨s.computedHorizon, ?_⟩⟩
  obtain ⟨hmem, hown, hall⟩ := foldl_earlier s.peerTerms s.ownTerm
  refine ⟨hmem.imp id (mem_peerTerms s _).mp, hown, fun p hp => hall _ ((mem_peerTerms s _).mpr ⟨p, hp, rfl⟩),
    fun hle => if_neg (BitVec.not_lt.mpr hle), fun hlt => ?_⟩
  have hrelease : s.computeHorizon = s.releaseTo s.computedHorizon := if_pos hlt
  rw [hrelease, State.releaseTo]

end Sys2Proof.StepRules
end

section
namespace Sys2Proof.Machine

open Sys2Proof

/-- At the host port an offer can only set the DROP flag (R23). -/
theorem State.offer_host (s : State) (r : Record) (x : Bool) :
    (s.offer r x).host = { s.host with dropFlag := (s.offer r x).host.dropFlag } := by
  rcases s.offer_cases r x with h | ⟨-, -, ⟨-, h⟩ | ⟨-, h⟩⟩ <;> rw [h] <;> rfl

end Sys2Proof.Machine

namespace Sys2Proof.HostRules

open Sys2Proof Sys2Proof.Machine

/-! ### Where a host command is taken (R181) -/

theorem atCommand_iff (s : State) : s.atCommand = true ↔ s.inReset = false ∧ s.host.txn = .command := by
  simp [State.atCommand]

theorem atOperands_iff (s : State) (c : OperandCommand) :
    s.atOperands c = true ↔ s.inReset = false ∧ s.host.txn = .operands ∧ s.host.operandsOf = some c := by
  simp [State.atOperands, and_assoc]

theorem inResponse_iff (s : State) : s.inResponse = true ↔ s.inReset = false ∧ s.host.txn = .response := by
  simp [State.inResponse]

/-- A command that leaves IRQ's conditions leaves IRQ. -/
theorem commit_of_kept {s : State} (h : s.IrqKept) : commit s = .next s := by
  rw [commit, State.settleIrq_of_kept h]

theorem respond_irqKept {s : State} (h : s.IrqKept) (c : Option HostCommand) (response : List Byte) :
    (s.respond c response).IrqKept := h

theorem commit_respond {s : State} (h : s.IrqKept) (c : Option HostCommand) (response : List Byte) :
    commit (s.respond c response) = .next (s.respond c response) :=
  commit_of_kept (respond_irqKept h c response)

/-! ### Transactions (R180 to R183) -/

theorem exec_selFall {s : State} (h : s.selLow = false) (moves : List HostMove) :
    exec (.selFall moves) s = commit (s.beginTransaction moves) :=
  if_neg (by simp [h])

theorem exec_commandByte {s : State} (h : s.atCommand = true) (byte : Byte) :
    exec (.commandByte byte) s = commit (s.takeCommandByte byte) :=
  if_pos h

theorem exec_commandByte_elsewhere {s : State} (h : s.host.txn ≠ .command) (byte : Byte) :
    exec (.commandByte byte) s = .next s ∧ exec (.badCommand byte) s = .next s := by
  have hno : s.atCommand = false := by
    rw [← Bool.not_eq_true, atCommand_iff]
    exact fun hc => h hc.2
  exact ⟨if_neg (by simp [hno]), if_neg (by simp [hno])⟩

theorem namesNoCommand_of {b : Byte} (hb : b = 0x00 ∨ 0x0A ≤ b.toNat) : commandOf b = none := by
  rw [Option.eq_none_iff_forall_ne_some]
  intro c hc
  have hcode := commandOf_eq_some hc
  cases c <;> (simp only at hcode; subst hcode; simp at hb)

theorem exec_badCommand {s : State} (hs : s.IrqKept) (h : s.atCommand = true) {b : Byte}
    (hb : b = 0x00 ∨ 0x0A ≤ b.toNat) :
    exec (.commandByte b) s = exec (.badCommand b) s ∧
      exec (.badCommand b) s = .next { s with host := { s.host with
        txn := .response, operandsOf := none, taken := none, response := [0x86] } } := by
  have hnone := namesNoCommand_of hb
  have hbad : exec (.badCommand b) s = commit s.takeBadCommand :=
    if_pos (by simp [h, namesNoCommand, hnone])
  have hbyte : s.takeCommandByte b = s.takeBadCommand := by
    unfold State.takeCommandByte
    rw [hnone]
  exact ⟨by rw [hbad, exec_commandByte h, hbyte], by rw [hbad]; exact commit_respond hs _ _⟩

/-- Settles O27: each edge of SEL, and each command byte by the command that it names. -/
theorem transactionsOpenTakeAndEnd : Obligations.TransactionsOpenTakeAndEnd := by
  refine ⟨fun s moves hs => ⟨fun hhigh hout => ?_, fun hhigh hin => ?_, fun hlow => if_pos hlow, fun hlow => ?_,
    fun hhigh => if_neg (by simp [hhigh])⟩, fun s hs => ⟨fun hout htxn => ?_, fun htxn b =>
    exec_commandByte_elsewhere htxn b⟩, fun s k => ⟨fun h => ?_, fun h => ?_, fun h => ?_⟩⟩
  · rw [exec_selFall hhigh, State.beginTransaction, if_neg (by simp [hout])]
    exact commit_of_kept hs
  · rw [exec_selFall hhigh, State.beginTransaction, if_pos hin]
    exact commit_of_kept hs
  · have hrise : exec .selRise s = commit s.endTransaction := if_pos hlow
    rw [hrise]
    exact commit_of_kept hs
  · have hat : s.atCommand = true := (atCommand_iff s).mpr ⟨hout, htxn⟩
    have hrow {c : Instr} {u : State} (hexec : exec c s = if s.atCommand then commit u else notTaken s) {b : Byte}
        (hb : s.takeCommandByte b = u) : exec (.commandByte b) s = exec c s := by
      rw [hexec, if_pos hat, exec_commandByte hat, hb]
    refine ⟨?_, ?_, ?_, hrow rfl rfl, hrow rfl rfl, hrow rfl rfl, hrow rfl rfl, hrow rfl rfl, hrow rfl rfl,
      fun b hb => exec_badCommand hs hat hb⟩ <;> rw [exec_commandByte hat] <;> exact commit_of_kept hs
  · rw [State.sdo, h]
  · rw [State.sdo, h]
  · rcases h with h | h | h <;> rw [State.sdo, h]

/-! ### STATUS (R185, R186) -/

theorem flags_byte (a b c : Bool) : 0x00#5 ++ BitVec.ofBool c ++ BitVec.ofBool b ++ BitVec.ofBool a =
    BitVec.ofNat 8 ((if a then 1 else 0) + (if b then 2 else 0) + (if c then 4 else 0)) := by
  revert a b c; decide

theorem exec_endOfResponse {s : State} (hresponse : s.inResponse = true) (hsending : s.host.sending = false) :
    exec .responseEnd s = commit s.endResponse :=
  if_pos (by simp [hresponse, hsending])

theorem exec_statusResponseEnd {s : State} (hresponse : s.inResponse = true) (htaken : s.host.taken = some .status) :
    exec .statusResponseEnd s = commit s.endResponse :=
  if_pos (by simp [hresponse, htaken])

theorem timeStateByte_eq (t : TimeState) :
    timeStateByte t = match t with | .free => 0x00 | .acquire => 0x01 | .locked => 0x02 := by
  cases t <;> rfl

/-- Settles O29: the report field by field, and the end of a response with and without a STATUS. -/
theorem statusReportsAndClearsShownFlags : Obligations.StatusReportsAndClearsShownFlags := by
  refine ⟨fun s hs hout htxn => ?_,
    fun s hout htxn hsending => ⟨fun r htaken hreport c hc => ?_, fun htaken hs => ⟨?_, ?_⟩⟩⟩
  · have hstatus : exec .status s = commit s.takeStatus := if_pos ((atCommand_iff s).mpr ⟨hout, htxn⟩)
    have hkept : s.takeStatus.IrqKept := hs
    rw [hstatus, commit_of_kept hkept]
    unfold State.takeStatus State.respond State.statusReport StatusReport.bytes Counters.bytes
    simp only [flags_byte, timeStateByte_eq]
    rfl
  · have hresponse := (inResponse_iff s).mpr ⟨hout, htxn⟩
    have hend : s.endResponse = { s with host := { s.host with
        txn := .trailing, response := [], report := none
        quietFlag := s.host.quietFlag && !r.quietFlag, dropFlag := s.host.dropFlag && !r.dropFlag } } := by
      simp [State.endResponse, State.clearShownFlags, htaken, hreport]
    refine ⟨s.endResponse.settleIrq, ?_, ?_, ?_⟩
    · rcases hc with rfl | rfl
      · exact exec_statusResponseEnd hresponse htaken
      · exact exec_endOfResponse hresponse hsending
    · rw [hend]; rfl
    · exact State.changesOnly_trans s.endResponse_frame (State.settleIrq_frame _)
  · exact if_neg (by simp [htaken])
  · rw [exec_endOfResponse ((inResponse_iff s).mpr ⟨hout, htxn⟩) hsending, State.endResponse,
      if_neg (by simpa using htaken)]
    exact commit_of_kept hs

/-! ### START, REJOIN and CLEAR_COUNTS (R170, R177, R195) -/

theorem own_isSome_iff (s : State) :
    s.own.isSome = true ↔ 1 ≤ s.control.address.toNat ∧ s.control.address.toNat ≤ 24 :=
  StepRules.stationOf_isSome_iff _

theorem startUp_input (s : State) (i : Fin 16) :
    s.startUp.input i = Input.atStart (s.inputConfig i).mode (s.pin i) := by
  simp [State.input, State.startUp]

theorem atStart_eq (mode : EdgeMode) (pin : Bool) : Input.atStart mode pin =
    if mode = .off then ⟨.disabled, false, none, 0, none, none, none, none, false⟩
    else ⟨.armed, pin, none, 0, none, none, none, none, false⟩ := by
  unfold Input.atStart
  by_cases h : mode = .off <;> simp [h, Input.reset]

/-- Settles O31: each command in the states that accept it and in the others. -/
theorem startRejoinAndClearCounts : Obligations.StartRejoinAndClearCounts := by
  refine ⟨fun s hout htxn => ?_, fun s hs hout htxn => ?_⟩
  · have hat := (atCommand_iff s).mpr ⟨hout, htxn⟩
    have hstart : exec .start s = commit s.takeStart := if_pos hat
    refine ⟨fun hl hlow hhigh => ?_, fun hs hl hbad => ?_, fun hs hl => ?_⟩
    · have hown := (own_isSome_iff s).mpr ⟨hlow, hhigh⟩
      have htake : s.takeStart = s.startUp.respond (some .start) [resultOk] := by
        simp [State.takeStart, hl, hown]
      rw [hstart, htake]
      refine ⟨_, rfl, rfl, rfl, fun i => ?_, rfl, ?_⟩
      · rw [← atStart_eq, ← startUp_input]; rfl
      · intro b hb
        cases b <;> first | exact absurd (by decide) hb | rfl
    · have hown : s.own.isSome = false := by
        rw [← Bool.not_eq_true, own_isSome_iff]
        omega
      have htake : s.takeStart = s.respond (some .start) [resultBadAddress] := by
        simp [State.takeStart, hl, hown]
      rw [hstart, htake]
      exact commit_respond hs _ _
    · have htake : s.takeStart = s.respond (some .start) [resultRefused] := by
        simp [State.takeStart, hl]
      rw [hstart, htake]
      exact commit_respond hs _ _
  · have hat := (atCommand_iff s).mpr ⟨hout, htxn⟩
    have hrejoin : exec .rejoin s = commit s.takeRejoin := if_pos hat
    have hclear : exec .clearCounts s = commit s.takeClearCounts := if_pos hat
    refine ⟨fun hl => ?_, fun hl => ?_, ?_⟩
    · have htake : s.takeRejoin = s.rejoinLine.respond (some .rejoin) [resultOk] := by
        simp [State.takeRejoin, hl]
      rw [hrejoin, htake]
      exact commit_of_kept hs
    · have htake : s.takeRejoin = s.respond (some .rejoin) [resultRefused] := by
        simp [State.takeRejoin, hl]
      rw [hrejoin, htake]
      exact commit_respond hs _ _
    · rw [hclear]
      exact commit_of_kept hs

/-! ### READ (R189) -/

theorem readCountOk_iff (n : Byte) : readCountOk n = true ↔ 1 ≤ n.toNat ∧ n.toNat ≤ 16 := by
  unfold readCountOk Config.readLimit
  rw [Bool.and_eq_true, decide_eq_true_iff, decide_eq_true_iff]

/-- Settles O32: by the count, and by what the released region holds. -/
theorem readShowsTheHead : Obligations.ReadShowsTheHead := by
  intro n s hs hout htxn hoperands
  have hread : exec (.read n) s = commit (s.takeRead n) :=
    if_pos ((atOperands_iff s .read).mpr ⟨hout, htxn, hoperands⟩)
  refine ⟨fun hbad => ?_, fun hlow hhigh hempty => ?_, fun hlow hhigh h rest hhead => ?_⟩
  · have hno : ¬ readCountOk n = true := by
      rw [readCountOk_iff]
      omega
    rw [hread, State.takeRead, if_neg hno]
    exact commit_respond hs _ _
  · rw [hread, State.takeRead, if_pos ((readCountOk_iff n).mpr ⟨hlow, hhigh⟩), hempty]
    exact commit_respond hs _ _
  · rw [hread, State.takeRead, if_pos ((readCountOk_iff n).mpr ⟨hlow, hhigh⟩), hhead]
    exact commit_of_kept hs

/-! ### MARK (R135, R193) -/

theorem queueHasRoom_iff (s : State) : s.queueHasRoom = true ↔ s.outbound.records.length < 32 := by
  unfold State.queueHasRoom Config.queueCapacity
  rw [decide_eq_true_iff]

/-- R4: only the named bit changes. -/
theorem getLsbD_withBit (w : Line16) (i j : Fin 16) (b : Bool) :
    (withBit w i.val b).getLsbD j.val = if j = i then b else w.getLsbD j.val := by
  have hi := i.isLt
  have hj := j.isLt
  have hone : (1#16 <<< i.val).getLsbD j.val = decide (j = i) := by
    rw [BitVec.getLsbD_shiftLeft, BitVec.getLsbD_one]
    by_cases h : j = i
    · subst h; simp
    · have hne : j.val ≠ i.val := fun he => h (Fin.ext he)
      simp only [h, decide_false]
      rcases Nat.lt_or_ge j.val i.val with hlt | hge
      · simp [hlt]
      · have : j.val - i.val ≠ 0 := by omega
        simp [this]
  unfold withBit
  split
  · rename_i hb
    rw [BitVec.getLsbD_or, hone]
    by_cases h : j = i <;> simp [h, hb]
  · rename_i hb
    rw [BitVec.getLsbD_and, BitVec.getLsbD_not, hone]
    by_cases h : j = i <;> simp [h, hb]

/-- The bits written one after another: the last one of each place stands. -/
theorem getLsbD_foldl_withBit (f : Fin 16 → Bool) (is : List (Fin 16)) (w : Line16) (j : Fin 16) :
    (is.foldl (fun w i => withBit w i.val (f i)) w).getLsbD j.val = if j ∈ is then f j else w.getLsbD j.val := by
  induction is generalizing w with
  | nil => simp
  | cons i is ih =>
    rw [List.foldl_cons, ih, getLsbD_withBit]
    by_cases hmem : j ∈ is
    · simp [hmem]
    · by_cases hi : j = i
      · subst hi; simp
      · simp [hmem, hi]

theorem getLsbD_snapshot (s : State) (i : Fin 16) :
    s.snapshot.getLsbD i.val = (decide ((s.input i).state ≠ .disabled) && (s.input i).level) := by
  rw [State.snapshot, getLsbD_foldl_withBit (fun i => (s.input i).shown), if_pos (List.mem_finRange i), Input.shown]
  cases (s.input i).state <;> rfl

/-- Settles O35: by the life cycle and by the room in the queue. -/
theorem markAppendsARecord : Obligations.MarkAppendsARecord := by
  refine ⟨fun tag s hout htxn hoperands => ?_, getLsbD_snapshot⟩
  have hmark : exec (.mark tag) s = commit (s.takeMark tag) :=
    if_pos ((atOperands_iff s .mark).mpr ⟨hout, htxn, hoperands⟩)
  refine ⟨fun hs hl => ?_, fun hs hl hfull => ?_, fun hl hroom => ?_⟩
  · have htake : s.takeMark tag = s.respond (some (.mark tag)) [resultRefused] := by
      simp [State.takeMark, hl]
    rw [hmark, htake]
    exact commit_respond hs _ _
  · have hno : ¬ s.queueHasRoom = true := by
      rw [queueHasRoom_iff]
      omega
    have htake : s.takeMark tag = s.respond (some (.mark tag)) [resultQueueFull] := by
      simp [State.takeMark, hl, hno]
    rw [hmark, htake]
    exact commit_respond hs _ _
  · have htake : s.takeMark tag = (s.appendOwn s.now s.timebase.timeState (.mark tag s.snapshot)).respond
        (some (.mark tag)) (resultOk :: bytes16 s.outbound.nextSeq) := by
      simp [State.takeMark, hl, (queueHasRoom_iff s).mpr hroom]
    rw [hmark, htake]
    generalize hr : s.ownRecord s.now s.timebase.timeState (.mark tag s.snapshot) = r
    have happend : s.appendOwn s.now s.timebase.timeState (.mark tag s.snapshot) = (s.enqueue r).offer r false := by
      rw [State.appendOwn, hr]
    have hagrees : (s.offer r false).agrees ((s.enqueue r).offer r false) :=
      State.agrees.offer (s := s) (t := s.enqueue r) ⟨rfl, rfl, rfl, rfl, rfl⟩ r false
    have hoffer := (s.enqueue r).offer_frame r false
    have hframe := s.appendOwn_frame s.now s.timebase.timeState (.mark tag s.snapshot)
    rw [happend] at hframe ⊢
    refine ⟨_, r, rfl, by rw [← hr]; rfl, ?_, hagrees.journal, hagrees.counters, ?_, ?_⟩
    · exact hoffer .outbound (by decide)
    · have hhost : ((s.enqueue r).offer r false).host =
          { s.host with dropFlag := (s.offer r false).host.dropFlag } := by
        rw [hagrees.host]; exact s.offer_host r false
      show { ((s.enqueue r).offer r false).host with
        txn := .response, operandsOf := none, taken := some (.mark tag),
        response := resultOk :: bytes16 s.outbound.nextSeq,
        irq := (((s.enqueue r).offer r false).respond (some (.mark tag))
          (resultOk :: bytes16 s.outbound.nextSeq)).irqLevel } = _
      rw [hhost]
      rfl
    · exact State.changesOnly_trans hframe (State.changesOnly_mono
        (State.changesOnly_trans (State.respond_frame _ _ _) (State.settleIrq_frame _)) (by decide))

end Sys2Proof.HostRules
end

section
namespace Sys2Proof.HostRules

open Sys2Proof Sys2Proof.Machine

theorem settleIrq_host (s : State) : s.settleIrq.host = { s.host with irq := s.irqLevel } := rfl

/-! ### RECORD_CONSUMED (R37, R39, R189) -/

theorem note_of_room {s : State} {d : Detail} (hroom : s.journal.occupancy < Config.journalCapacity)
    (hnote : d.isNetwork = false) :
    (s.now < s.journal.horizon → s.note d = s.countNote.insertLate (s.makeNote d) false) ∧
      (s.journal.horizon ≤ s.now → s.note d = s.countNote.insertSettling (s.makeNote d) false) := by
  have hoffer : s.note d = if (s.makeNote d).stamp < s.journal.horizon
      then s.countNote.insertLate (s.makeNote d) false else s.countNote.insertSettling (s.makeNote d) false :=
    OfferLaws.offer_of_room (s := s.countNote) false hroom fun hnet => by
      rw [show (s.makeNote d).isNetwork = false from hnote] at hnet
      contradiction
  exact ⟨fun hlate => hoffer.trans (if_pos hlate), fun hsettles => hoffer.trans (if_neg (BitVec.not_lt.mpr hsettles))⟩

/-- Where a record boundary leads: to the next record, or to the end of the records. -/
theorem boundary_cases (s : State) (n : Byte) (delivered : Nat) :
    (∀ next more, s.journal.released = next :: more → delivered < n.toNat →
      s.boundary n delivered = s.sendRecord next (s.host.response ++ [0x01]) delivered) ∧
    (s.journal.released = [] ∨ n.toNat ≤ delivered →
      s.boundary n delivered = { s with host := { s.host with
        response := s.host.response ++ [0x00], sending := false, delivered := delivered } }) := by
  unfold State.boundary
  refine ⟨fun next more hnext hless => ?_, fun hend => ?_⟩
  · rw [hnext]; exact if_pos hless
  · cases hreleased : s.journal.released with
    | nil => rfl
    | cons h rest =>
      rcases hend with hend | hend
      · rw [hreleased] at hend; contradiction
      · exact if_neg (by omega)

/-- What a boundary leaves of the rest of the state, and what it writes at the host port. -/
theorem boundary_writes (s : State) (n : Byte) (delivered : Nat) :
    s.boundary n delivered = { s with host := { s.host with
      response := (s.boundary n delivered).host.response, sending := (s.boundary n delivered).host.sending,
      delivered := delivered } } := by
  unfold State.boundary State.sendRecord
  split
  · split <;> rfl
  · rfl

theorem exec_recordConsumed {n : Byte} {s : State} {h : Held} {rest : List Held} (hresponse : s.inResponse = true)
    (htaken : s.host.taken = some (.read n)) (hsending : s.host.sending = true)
    (hreleased : s.journal.released = h :: rest) :
    exec .recordConsumed s = commit (s.consumeHead.boundary n (s.host.delivered + 1)) := by
  show execRecordConsumed s = _
  unfold execRecordConsumed
  rw [htaken, hreleased]
  exact if_pos (by rw [hresponse, hsending]; rfl)

/-- A consumption takes the head out; pending drops become one OVERFLOW note. -/
theorem consumeHead_writes {s : State} {h : Held} {rest : List Held} (hreleased : s.journal.released = h :: rest)
    (hroom : s.journal.occupancy ≤ Config.journalCapacity) :
    s.consumeHead.host = s.host ∧
    (s.journal.pendingDrops = 0 → s.consumeHead.journal = { s.journal with released := rest } ∧
      s.consumeHead.counters = s.counters) ∧
    (s.journal.pendingDrops ≠ 0 → s.consumeHead.journal.noteCounter = s.journal.noteCounter + 1 ∧
      s.consumeHead.journal.pendingDrops = 0 ∧ s.consumeHead.journal.firstDrop = none ∧
      s.consumeHead.journal.lastDrop = none ∧ s.consumeHead.journal.horizon = s.journal.horizon ∧
      (s.journal.horizon ≤ s.now → s.consumeHead.journal.released = rest ∧
        s.consumeHead.journal.settling.Perm
          (⟨s.makeNote s.journal.overflowDetail, false, false⟩ :: s.journal.settling) ∧
        s.consumeHead.counters = s.counters) ∧
      (s.now < s.journal.horizon →
        s.consumeHead.journal.released = rest ++ [⟨s.makeNote s.journal.overflowDetail, true, false⟩] ∧
        s.consumeHead.journal.settling = s.journal.settling)) := by
  have htail : s.journal.released.tail = rest := by rw [hreleased]; rfl
  by_cases hdrops : s.journal.pendingDrops = 0
  · have hconsume : s.consumeHead = s.withoutHead := if_pos hdrops
    rw [hconsume]
    refine ⟨rfl, fun _ => ⟨?_, rfl⟩, fun hn => absurd hdrops hn⟩
    rw [← htail]; rfl
  · have hconsume : s.consumeHead = s.withoutHead.clearDrops.note s.journal.overflowDetail := if_neg hdrops
    have hfree : s.withoutHead.clearDrops.journal.occupancy < Config.journalCapacity := by
      have hlen : s.withoutHead.clearDrops.journal.occupancy + 1 = s.journal.occupancy := by
        show s.journal.settling.length + s.journal.released.tail.length + 1 =
          s.journal.settling.length + s.journal.released.length
        rw [hreleased]; rfl
      omega
    obtain ⟨hlate, hsettles⟩ := note_of_room (d := s.journal.overflowDetail) hfree rfl
    have hreleased' : s.withoutHead.journal.released = rest := htail
    rw [hconsume]
    by_cases hnow : s.now < s.journal.horizon
    · rw [hlate hnow]
      refine ⟨rfl, fun hz => absurd hz hdrops, fun _ => ⟨rfl, rfl, rfl, rfl, rfl,
        fun hle => absurd hnow (BitVec.not_lt.mpr hle), fun _ => ⟨?_, rfl⟩⟩⟩
      rw [← hreleased']; rfl
    · have hnow' := BitVec.not_lt.mp hnow
      rw [hsettles hnow']
      exact ⟨rfl, fun hz => absurd hz hdrops, fun _ => ⟨rfl, rfl, rfl, rfl, rfl,
        fun _ => ⟨hreleased', insertByKey_perm _ _, rfl⟩, fun hl => absurd hl hnow⟩⟩

/-- Settles O33: the consumption, then the boundary. -/
theorem consumptionTakesTheHead : Obligations.ConsumptionTakesTheHead := by
  intro n s h rest hout htxn htaken hsending hreleased hroom
  obtain ⟨hhost, hnone, hsome⟩ := consumeHead_writes hreleased hroom
  have hwrites := boundary_writes s.consumeHead n (s.host.delivered + 1)
  obtain ⟨hnext, hlast⟩ := boundary_cases s.consumeHead n (s.host.delivered + 1)
  have hframe := State.changesOnly_trans s.consumeHead_frame
    (State.changesOnly_mono (State.boundary_frame s.consumeHead n (s.host.delivered + 1)) (by decide))
  have hexec := exec_recordConsumed ((inResponse_iff s).mpr ⟨hout, htxn⟩) htaken hsending hreleased
  have hjournal : (s.consumeHead.boundary n (s.host.delivered + 1)).journal = s.consumeHead.journal := by
    rw [hwrites]
  have hcounters : (s.consumeHead.boundary n (s.host.delivered + 1)).counters = s.consumeHead.counters := by
    rw [hwrites]
  refine ⟨_, hexec, ?_, ?_, ?_, ?_, ?_, ?_⟩
  · rw [State.settleIrq_journal, State.settleIrq_counters, hjournal, hcounters]
    exact hnone
  · rw [State.settleIrq_journal, State.settleIrq_counters, hjournal, hcounters]
    intro hdrops
    obtain ⟨h1, h2, h3, h4, h5, h6, h7⟩ := hsome hdrops
    exact ⟨h1, h2, h3, h4, h5, s.makeNote s.journal.overflowDetail, rfl, rfl, rfl, rfl, rfl, h6, h7⟩
  · rw [State.settleIrq_journal, hjournal]
    intro next more hmore hless
    show (s.consumeHead.boundary n _).host.response = _ ∧ (s.consumeHead.boundary n _).host.sending = true
    rw [hnext next more hmore hless, State.sendRecord, hhost]
    exact ⟨rfl, rfl⟩
  · rw [State.settleIrq_journal, hjournal]
    intro hend
    show (s.consumeHead.boundary n _).host.response = _ ∧ (s.consumeHead.boundary n _).host.sending = false
    rw [hlast hend, hhost]
    exact ⟨rfl, rfl⟩
  · have huhost := congrArg State.host hwrites
    rw [hhost] at huhost
    rw [settleIrq_host]
    generalize s.consumeHead.boundary n (s.host.delivered + 1) = u at huhost ⊢
    rw [huhost]
    rfl
  · exact State.changesOnly_trans hframe (State.changesOnly_mono (State.settleIrq_frame _) (by decide))

/-! ### PEERS and INPUTS (R191, R192) -/

/-- Of rows of one length each is found at its place. -/
theorem drop_take_flatMap {α β : Type} {f : α → List β} {k : Nat} (hk : ∀ a, (f a).length = k) :
    ∀ (xs : List α) (i : Nat) (hi : i < xs.length), ((xs.flatMap f).drop (k * i)).take k = f xs[i] := by
  intro xs
  induction xs with
  | nil => exact fun i hi => absurd hi (Nat.not_lt_zero i)
  | cons x xs ih =>
    intro i hi
    cases i with
    | zero => simp [List.flatMap_cons, ← hk x]
    | succ i =>
      have hlen : k * (i + 1) = (f x).length + k * i := by rw [hk x]; ring
      rw [List.flatMap_cons, hlen, ← List.drop_drop, List.drop_left]
      exact ih i (Nat.lt_of_succ_lt_succ hi)

theorem bytes16_length (w : BitVec 16) : (bytes16 w).length = 2 := rfl

theorem peerRow_length (s : State) (p : Station) : (s.peerRow p).length = 26 := by
  unfold State.peerRow
  split <;> rfl

theorem inputRow_length (x : Input) : x.row.length = 4 := by
  unfold Input.row
  split <;> rfl

theorem presenceByte_eq (a b c d e : Bool) : presenceByte a b c d e = BitVec.ofNat 8
    ((if a then 1 else 0) + (if b then 2 else 0) + (if c then 4 else 0) + (if d then 8 else 0) +
      (if e then 16 else 0)) := by
  revert a b c d e; decide

theorem timeStateByte_eq_ite (t : TimeState) :
    timeStateByte t = if t = .free then 0x00 else if t = .acquire then 0x01 else 0x02 := by
  cases t <;> rfl

theorem peersReport_length (s : State) : s.peersReport.length = 624 := by
  have hrow : (fun p => (s.peerRow p).length) = fun _ => 26 := funext (peerRow_length s)
  rw [State.peersReport, List.length_flatMap, hrow]
  rfl

theorem inputsReport_length (s : State) : s.inputsReport.length = 64 := by
  have hrow : (fun i => ((s.input i).row).length) = fun _ => 4 := funext fun i => inputRow_length _
  rw [State.inputsReport, List.length_flatMap, hrow]
  rfl

theorem peersReport_row (s : State) (p : Station) : (s.peersReport.drop (26 * p.val)).take 26 = s.peerRow p := by
  have h := drop_take_flatMap (peerRow_length s) (List.finRange 24) p.val (by simp)
  rw [List.getElem_finRange] at h
  exact h

theorem inputsReport_row (s : State) (i : Fin 16) :
    (s.inputsReport.drop (4 * i.val)).take 4 = (s.input i).row := by
  have h := drop_take_flatMap (f := fun i => (s.input i).row) (fun i => inputRow_length (s.input i))
    (List.finRange 16) i.val (by simp)
  rw [List.getElem_finRange] at h
  exact h

theorem peerRow_of_absent {s : State} {p : Station} (h : (s.peer p).state = .absent) :
    s.peerRow p = List.replicate 26 0x00 := by
  rw [State.peerRow, h]

theorem peerRow_of_self {s : State} {p : Station} (h : (s.peer p).state = .self) :
    s.peerRow p = s.selfRow := by
  rw [State.peerRow, h]

theorem peerRow_of_heard {s : State} {p : Station} (h : (s.peer p).state = .active ∨ (s.peer p).state = .silent) :
    s.peerRow p = (s.peer p).row (s.missing p).length := by
  rcases h with h | h <;> rw [State.peerRow, h]

/-- Settles O34: the rows one after another, each of its length. -/
theorem reportsShowEveryRow : Obligations.ReportsShowEveryRow := by
  intro s hs hout htxn
  have hat := (atCommand_iff s).mpr ⟨hout, htxn⟩
  have hpeers : exec .peers s = commit s.takePeers := if_pos hat
  have hinputs : exec .inputs s = commit s.takeInputs := if_pos hat
  refine ⟨⟨s.peersReport, ?_, peersReport_length s, fun p => ⟨peersReport_row s p, peerRow_of_absent, fun h => ?_,
    fun h => ?_⟩⟩, ⟨s.inputsReport, ?_, inputsReport_length s, fun i => ?_⟩⟩
  · rw [hpeers]; exact commit_respond hs _ _
  · rw [peerRow_of_self h, State.selfRow, timeStateByte_eq_ite]
    rfl
  · have hcode : (s.peer p).state.code = if (s.peer p).state = .active then 0x01 else 0x02 := by
      rcases h with h | h <;> rw [h] <;> rfl
    have htime : timeStateByte = fun x => if x = .free then 0x00 else if x = .acquire then 0x01 else 0x02 :=
      funext timeStateByte_eq_ite
    rw [peerRow_of_heard h, PeerEntry.row, presenceByte_eq, hcode, htime]
    rfl
  · rw [hinputs]; exact commit_respond hs _ _
  · rw [inputsReport_row, Input.row]
    cases hstate : (s.input i).state <;> rfl

end Sys2Proof.HostRules
end

section
namespace Sys2Proof.HostRules

open Sys2Proof Sys2Proof.Machine

/-! ### CONFIGURE (R168, R169, R207) -/

theorem configFields_getD {record : List Byte} (hlen : record.length = 87) {k : Nat} (hk : k < 86) :
    (configFields record).getD k 0 =
      if k = 0 then 256 * (record.getD 0 0).toNat + (record.getD 1 0).toNat else (record.getD (k + 1) 0).toNat := by
  match record, hlen with
  | a :: b :: rest, hlen =>
    have hrest : rest.length = 85 := by simpa using hlen
    cases k with
    | zero =>
      have hword : (word16 a b).toNat = 256 * a.toNat + b.toNat := by
        unfold word16
        rw [BitVec.toNat_append, Nat.shiftLeft_eq, Nat.mul_comm, ← Nat.two_pow_add_eq_or_of_lt b.isLt]
      simpa [configFields] using hword
    | succ k =>
      have hk' : k < rest.length := by omega
      simp [configFields, hk']

theorem firstBad_eq_some {index : Nat} {vs : List Nat} {k : Nat} (hk : k < vs.length)
    (hbad : fieldOk (index + k) (vs.getD k 0) = false)
    (hgood : ∀ j, j < k → fieldOk (index + j) (vs.getD j 0) = true) : firstBad index vs = some (index + k) := by
  induction vs generalizing index k with
  | nil => exact absurd hk (Nat.not_lt_zero k)
  | cons v vs ih =>
    rw [firstBad]
    cases k with
    | zero =>
      have hv : fieldOk index v = false := hbad
      simp [hv]
    | succ k =>
      have hv : fieldOk index v = true := hgood 0 (Nat.zero_lt_succ k)
      rw [if_pos hv, ih (index := index + 1) (k := k) (Nat.lt_of_succ_lt_succ hk)]
      · congr 1; omega
      · rw [Nat.add_right_comm]; exact hbad
      · intro j hj
        rw [Nat.add_right_comm]; exact hgood (j + 1) (Nat.succ_lt_succ hj)

/-- R168: the values of each field. -/
theorem fieldOk_iff {v : Nat → Nat} {ok : Nat → Prop} (h0 : ok 0 ↔ 10 ≤ v 0 ∧ v 0 ≤ 1000 ∧ v 0 % 10 = 0)
    (h1 : ok 1 ↔ 2 ≤ v 1 ∧ v 1 ≤ 8) (h2 : ok 2 ↔ 5 ≤ v 2 ∧ v 2 ≤ 255) (h3 : ok 3 ↔ 1 ≤ v 3 ∧ v 3 ≤ 7)
    (h4 : ok 4 ↔ v 4 ≤ 255) (h5 : ok 5 ↔ 1 ≤ v 5 ∧ v 5 ≤ 64)
    (hinputs : ∀ i, i < 16 → (ok (6 + 5 * i) ↔ v (6 + 5 * i) ≤ 3) ∧ (ok (7 + 5 * i) ↔ v (7 + 5 * i) ≤ 1) ∧
      (ok (8 + 5 * i) ↔ v (8 + 5 * i) ≤ 255) ∧
      (ok (9 + 5 * i) ↔ v (9 + 5 * i) = 0 ∨ (2 ≤ v (9 + 5 * i) ∧ v (9 + 5 * i) ≤ 15)) ∧
      (ok (10 + 5 * i) ↔ 1 ≤ v (10 + 5 * i) ∧ v (10 + 5 * i) ≤ 255)) {k : Nat} (hk : k < 86) :
    ok k ↔ fieldOk k (v k) = true := by
  rcases Nat.lt_or_ge k 6 with hsmall | hlarge
  · interval_cases k
    · rw [h0]; simp [fieldOk, and_assoc]
    · rw [h1]; simp [fieldOk]
    · rw [h2]; simp [fieldOk]
    · rw [h3]; simp [fieldOk]
    · rw [h4]; simp [fieldOk]
    · rw [h5]; simp [fieldOk]
  · obtain ⟨i, j, hj, hi, rfl⟩ : ∃ i j, j < 5 ∧ i < 16 ∧ k = 6 + 5 * i + j :=
      ⟨(k - 6) / 5, (k - 6) % 5, Nat.mod_lt _ (by omega), by omega, by omega⟩
    obtain ⟨g0, g1, g2, g3, g4⟩ := hinputs i hi
    rw [fieldOk_input i j _ hj]
    interval_cases j
    · rw [Nat.add_zero, g0]; simp [inputFieldOk]
    · rw [show 6 + 5 * i + 1 = 7 + 5 * i by omega, g1]; simp [inputFieldOk]
    · rw [show 6 + 5 * i + 2 = 8 + 5 * i by omega, g2]; simp [inputFieldOk]
    · rw [show 6 + 5 * i + 3 = 9 + 5 * i by omega, g3]; simp [inputFieldOk]
    · rw [show 6 + 5 * i + 4 = 10 + 5 * i by omega, g4]; simp [inputFieldOk]

theorem edgeModeOf_iff (b : Byte) (h : b.toNat ≤ 3) : (edgeModeOf b.toNat = .off ↔ b = 0x00) ∧
    (edgeModeOf b.toNat = .rising ↔ b = 0x01) ∧ (edgeModeOf b.toNat = .falling ↔ b = 0x02) ∧
    (edgeModeOf b.toNat = .both ↔ b = 0x03) := by
  revert b; decide

theorem qualificationOf_iff (b : Byte) : qualificationOf b.toNat = .direct ↔ b = 0x00 := by
  unfold qualificationOf
  split
  · rename_i h; simp; bv_omega
  · rename_i h; simp; bv_omega

/-- Settles O30: the record is good where every field is, and its first bad field is found else. -/
theorem configureTakesOrRefusesTheRecord : Obligations.ConfigureTakesOrRefusesTheRecord := by
  intro record v ok s hout htxn hoperands hlen hv0 hv h0 h1 h2 h3 h4 h5 hinputs
  have hfield {k : Nat} (hk : k < 86) : (configFields record).getD k 0 = v k := by
    rw [configFields_getD hlen hk]
    split
    · rename_i hz; rw [hz, hv0]
    · rename_i hz; rw [hv k (by omega) hk]
  have hok {k : Nat} (hk : k < 86) : ok k ↔ fieldOk k ((configFields record).getD k 0) = true := by
    rw [hfield hk]; exact fieldOk_iff h0 h1 h2 h3 h4 h5 hinputs hk
  have hfields : (configFields record).length = 86 := configFields_length hlen
  have hexec : exec (.configure record) s = commit (s.takeConfigure record) :=
    if_pos (by rw [(atOperands_iff s .configure).mpr ⟨hout, htxn, hoperands⟩, hlen]; rfl)
  rw [hexec]
  refine ⟨fun hl hall => ?_, fun hs hl k hk hbad hgood => ?_, fun hs hl => ?_⟩
  · have hnone : firstBad 0 (configFields record) = none := by
      rw [firstBad_eq_none_iff]
      intro k hk
      rw [Nat.zero_add]
      exact (hok (by omega)).mp (hall k (by omega))
    have htake : s.takeConfigure record =
        { s.respond (some (.configure record)) [resultOk] with
          control := { s.control with config := configOf (configFields record) } } := by
      simp [State.takeConfigure, hl, hnone]
    rw [htake]
    have hbyte {k : Nat} (hk : 1 ≤ k) (hk' : k < 86) :
        (configFields record).getD k 0 = (record.getD (k + 1) 0).toNat := by
      rw [configFields_getD hlen hk', if_neg (by omega)]
    refine ⟨_, rfl, rfl, configOf_inRange hfields hnone, ?_, hbyte (k := 1) (by omega) (by omega),
      hbyte (k := 2) (by omega) (by omega), hbyte (k := 3) (by omega) (by omega), hbyte (k := 4) (by omega) (by omega),
      hbyte (k := 5) (by omega) (by omega), fun i => ?_, rfl, ?_⟩
    · exact (configFields_getD hlen (k := 0) (by omega)).trans (if_pos rfl)
    · have hinput : (configOf (configFields record)).inputs[i.val] =
          inputConfigAt (configFields record) (6 + 5 * i.val) := by simp [configOf]
      have hi := i.isLt
      have hmode : (record.getD (7 + 5 * i.val) 0).toNat ≤ 3 := by
        have hcode := (hinputs i.val hi).1.mp (hall (6 + 5 * i.val) (by omega))
        rw [hv (6 + 5 * i.val) (by omega) (by omega)] at hcode
        rwa [show 7 + 5 * i.val = 6 + 5 * i.val + 1 by omega]
      have hplace {j : Nat} (hj : j < 5) : (configFields record).getD (6 + 5 * i.val + j) 0 =
          (record.getD (7 + j + 5 * i.val) 0).toNat := by
        rw [hbyte (by omega) (by omega)]
        congr 2; omega
      show (((configOf (configFields record)).inputs[i.val]).holdoff = _) ∧
        (((configOf (configFields record)).inputs[i.val]).chatterLimit = _) ∧
        (((configOf (configFields record)).inputs[i.val]).chatterWindow = _) ∧
        (((configOf (configFields record)).inputs[i.val]).mode = _ ↔ _) ∧
        (((configOf (configFields record)).inputs[i.val]).mode = _ ↔ _) ∧
        (((configOf (configFields record)).inputs[i.val]).mode = _ ↔ _) ∧
        (((configOf (configFields record)).inputs[i.val]).mode = _ ↔ _) ∧
        (((configOf (configFields record)).inputs[i.val]).qualification = _ ↔ _)
      rw [hinput]
      have hcode : (configFields record).getD (6 + 5 * i.val) 0 = (record.getD (7 + 5 * i.val) 0).toNat :=
        hplace (j := 0) (by omega)
      obtain ⟨hoff, hrising, hfalling, hboth⟩ := edgeModeOf_iff _ hmode
      refine ⟨hplace (j := 2) (by omega), hplace (j := 3) (by omega), hplace (j := 4) (by omega), ?_⟩
      unfold inputConfigAt
      simp only [hcode, hplace (j := 1) (by omega)]
      exact ⟨hoff, hrising, hfalling, hboth, qualificationOf_iff _⟩
    · intro b hb
      cases b <;> first | exact absurd (by decide) hb | rfl
  · have hsome : firstBad 0 (configFields record) = some k := by
      have h := firstBad_eq_some (index := 0) (vs := configFields record) (k := k) (by omega)
        (by rw [Nat.zero_add, ← Bool.not_eq_true, ← hok hk]; exact hbad)
        (fun j hj => by rw [Nat.zero_add]; exact (hok (by omega)).mp (hgood j hj))
      rwa [Nat.zero_add] at h
    have htake : s.takeConfigure record =
        s.respond (some (.configure record)) [resultBadValue, BitVec.ofNat 8 k] := by
      simp [State.takeConfigure, hl, hsome]
    rw [htake]
    exact commit_respond hs _ _
  · have htake : s.takeConfigure record = s.respond (some (.configure record)) [resultRefused] := by
      simp [State.takeConfigure, hl]
    rw [htake]
    exact commit_respond hs _ _

end Sys2Proof.HostRules
end

section
namespace Sys2Proof.Machine

open Sys2Proof

/-! ### The bits of a byte (R142, R180) -/

theorem dataBits_length (b : Byte) : (dataBits b).length = 8 := rfl

theorem dataBits_byteOfBits {bits : List Bool} (h : bits.length = 8) : dataBits (byteOfBits bits) = bits := by
  match bits, h with
  | [a, b, c, d, e, f, g, x], _ => revert a b c d e f g x; decide

theorem dataBits_injective {a b : Byte} (h : dataBits a = dataBits b) : a = b := by
  simp only [dataBits, List.cons.injEq, and_true] at h
  obtain ⟨h7, h6, h5, h4, h3, h2, h1, h0⟩ := h
  refine BitVec.eq_of_getLsbD_eq fun i hi => ?_
  interval_cases i <;> assumption

end Sys2Proof.Machine

namespace Sys2Proof.HostRules

open Sys2Proof Sys2Proof.Machine

/-! ### The rows of the byte periods (R181, R183) -/

theorem commandRow_tells (byte : Byte) :
    (byte = 0x01 → commandRow byte = .status) ∧ (byte = 0x03 → commandRow byte = .start) ∧
    (byte = 0x05 → commandRow byte = .peers) ∧ (byte = 0x06 → commandRow byte = .inputs) ∧
    (byte = 0x08 → commandRow byte = .rejoin) ∧ (byte = 0x09 → commandRow byte = .clearCounts) ∧
    (byte = 0x02 ∨ byte = 0x04 ∨ byte = 0x07 → commandRow byte = .commandByte byte) ∧
    (byte = 0x00 ∨ 0x0A ≤ byte.toNat → commandRow byte = .badCommand byte) := by
  refine ⟨?_, ?_, ?_, ?_, ?_, ?_, ?_, fun hb => ?_⟩
  iterate 6 rintro rfl; rfl
  · rintro (rfl | rfl | rfl) <;> rfl
  · rw [commandRow, namesNoCommand_of hb]

theorem byteRow_tells (h : HostPort) (byte : Byte) : h.byteTells byte (h.byteRow byte) := by
  refine ⟨fun htxn => ?_, fun htxn => ?_, fun htxn => ?_, fun htxn => ?_⟩ <;> unfold HostPort.byteRow <;>
    rw [htxn]
  · obtain ⟨h1, h2, h3, h4, h5, h6, h7, h8⟩ := commandRow_tells byte
    exact ⟨fun hb => by rw [h1 hb], fun hb => by rw [h2 hb], fun hb => by rw [h3 hb], fun hb => by rw [h4 hb],
      fun hb => by rw [h5 hb], fun hb => by rw [h6 hb], fun hb => by rw [h7 hb], fun hb => by rw [h8 hb]⟩
  · unfold HostPort.operandRow configBytes
    refine ⟨fun ho => by rw [ho], fun ho => by rw [ho], fun ho => ?_⟩
    rw [ho]
    simp only [Nat.reduceEqDiff]
  · unfold HostPort.responseRow
    by_cases hlast : h.left + 1 = h.response.length
    · simp only [hlast, if_true, ne_eq, not_true, if_false, beq_iff_eq]
      split <;> [rfl; split <;> rfl]
    · simp only [hlast, if_false, ne_eq, not_false_eq_true, if_true]

/-! ### The moves of the host (R180) -/

theorem hostMove_rise {s : State} {sdi : Bool} {more : List HostMove} (hc : s.wires.coming = .rise sdi :: more) :
    s.hostMove = if s.wires.sck then { s with wires := ⟨true, sdi, more⟩ }
      else { s with wires := ⟨true, sdi, more⟩ }.sampleSdi sdi := by
  unfold State.hostMove
  rw [hc]

theorem hostMove_fall {s : State} {more : List HostMove} (hc : s.wires.coming = .fall :: more) :
    s.hostMove = if s.wires.sck then { s with wires := { s.wires with sck := false, coming := more } }.shiftSdo
      else { s with wires := { s.wires with sck := false, coming := more } } := by
  unfold State.hostMove
  rw [hc]

theorem sampleSdi_short {s : State} (hbusy : s.host.txn ≠ .idle) (hshort : s.host.bits.length < 7) (sdi : Bool) :
    s.sampleSdi sdi = { s with host := { s.host with bits := s.host.bits ++ [sdi] } } := by
  unfold State.sampleSdi
  simp only
  rw [if_neg (by simpa using hbusy), if_pos (by rw [List.length_append, List.length_singleton]; omega)]

theorem sampleSdi_full {s : State} (hbusy : s.host.txn ≠ .idle) (hfull : s.host.bits.length = 7) (sdi : Bool) :
    s.sampleSdi sdi = s.endByte (byteOfBits (s.host.bits ++ [sdi])) := by
  unfold State.sampleSdi
  simp only
  rw [if_neg (by simpa using hbusy), if_neg (by rw [List.length_append, List.length_singleton]; omega)]

theorem sdoPin_eq (s : State) : s.sdoPin = if s.host.txn = .idle then none else s.host.out.head? := by
  unfold State.sdoPin
  simp only [beq_iff_eq]

theorem shiftSdo_eq {s : State} (hbusy : s.host.txn ≠ .idle) : s.shiftSdo = { s with host := { s.host with
    out := if s.host.bits ≠ [] then s.host.out.tail
      else if s.host.txn = .response then dataBits (s.host.response.getD s.host.left 0x00)
      else dataBits 0x00 } } := by
  unfold State.shiftSdo
  rw [if_neg (by simpa using hbusy)]
  have hsdo : (s.sdo s.host.left).getD 0x00 =
      if s.host.txn = .response then s.host.response.getD s.host.left 0x00 else 0x00 := by
    unfold State.sdo
    cases htxn : s.host.txn with
    | idle => exact absurd htxn hbusy
    | response => simp
    | _ => rfl
  rw [hsdo]
  cases hbits : s.host.bits with
  | nil => simp only [List.isEmpty_nil, if_true, ne_eq, not_true, if_false]; split <;> rfl
  | cons b bs => simp

theorem hostMove_rise_short {s : State} {sdi : Bool} {more : List HostMove} (hc : s.wires.coming = .rise sdi :: more)
    (hsck : s.wires.sck = false) (hbusy : s.host.txn ≠ .idle) (hshort : s.host.bits.length < 7) :
    s.hostMove = { s with
      wires := ⟨true, sdi, more⟩
      host := { s.host with bits := s.host.bits ++ [sdi] } } := by
  rw [hostMove_rise hc, if_neg (by simp [hsck])]
  exact sampleSdi_short (s := { s with wires := ⟨true, sdi, more⟩ }) hbusy hshort sdi

theorem hostMove_rise_full {s : State} {sdi : Bool} {more : List HostMove} (hc : s.wires.coming = .rise sdi :: more)
    (hsck : s.wires.sck = false) (hbusy : s.host.txn ≠ .idle) (hfull : s.host.bits.length = 7) :
    s.hostMove = { s with wires := ⟨true, sdi, more⟩ }.endByte (byteOfBits (s.host.bits ++ [sdi])) := by
  rw [hostMove_rise hc, if_neg (by simp [hsck])]
  exact sampleSdi_full (s := { s with wires := ⟨true, sdi, more⟩ }) hbusy hfull sdi

theorem hostMove_fall_high {s : State} {more : List HostMove} (hc : s.wires.coming = .fall :: more)
    (hsck : s.wires.sck = true) (hbusy : s.host.txn ≠ .idle) : s.hostMove = { s with
      wires := { s.wires with sck := false, coming := more }
      host := { s.host with
        out := if s.host.bits ≠ [] then s.host.out.tail
          else if s.host.txn = .response then dataBits (s.host.response.getD s.host.left 0x00)
          else dataBits 0x00 } } := by
  rw [hostMove_fall hc, if_pos hsck]
  exact shiftSdo_eq (s := { s with wires := { s.wires with sck := false, coming := more } }) hbusy

/-! ### The eight cycles of a byte -/

/-- The moves that clock one byte in. -/
def clocked (bits : List Bool) : List HostMove := bits.flatMap (fun b => [.rise b, .fall])

/-- The station once `k` bits of a byte have been clocked. -/
def afterCycles (s : State) (bits : List Bool) (more : List HostMove) (k : Nat) (t : State) : Prop :=
  ∃ sdi, t = { s with
    wires := ⟨false, sdi, clocked (bits.drop k) ++ more⟩
    host := { s.host with bits := bits.take k, out := s.host.out.drop k } }

theorem afterCycles_succ {s t : State} {bits : List Bool} {more : List HostMove} {k : Nat} (hbusy : s.host.txn ≠ .idle)
    (hbits : bits.length = 8) (hk : k < 7) (h : afterCycles s bits more k t) :
    afterCycles s bits more (k + 1) (State.hostMove (State.hostMove t)) := by
  obtain ⟨sdi, ht⟩ := h
  have hdrop : bits.drop k = bits[k] :: bits.drop (k + 1) := List.drop_eq_getElem_cons (by omega)
  have hrise : t.wires.coming = .rise bits[k] :: .fall :: (clocked (bits.drop (k + 1)) ++ more) := by
    rw [ht, hdrop]; rfl
  have hshort : t.host.bits.length < 7 := by
    rw [ht]
    show (bits.take k).length < 7
    rw [List.length_take]; omega
  obtain ⟨u, hu⟩ : ∃ u, u = t.hostMove := ⟨_, rfl⟩
  have hfirst := hu
  rw [hostMove_rise_short hrise (by rw [ht]) (by rw [ht]; exact hbusy) hshort] at hfirst
  have hsome : u.host.bits ≠ [] := by rw [hfirst]; simp
  rw [← hu, hostMove_fall_high (more := clocked (bits.drop (k + 1)) ++ more) (by rw [hfirst]) (by rw [hfirst])
    (by rw [hfirst, ht]; exact hbusy), if_pos hsome]
  refine ⟨bits[k], ?_⟩
  have hbits' : bits.take k ++ [bits[k]] = bits.take (k + 1) := List.take_append_getElem (by omega)
  rw [hfirst, ht, ← hbits', ← List.tail_drop (l := s.host.out)]

theorem hostMove_cycles {s : State} {bits : List Bool} {more : List HostMove} (hbusy : s.host.txn ≠ .idle)
    (hsck : s.wires.sck = false) (hempty : s.host.bits = []) (hbits : bits.length = 8)
    (hc : s.wires.coming = clocked bits ++ more) (k : Nat) (hk : k ≤ 7) :
    afterCycles s bits more k (State.hostMove^[2 * k] s) := by
  induction k with
  | zero =>
    refine ⟨s.wires.sdi, ?_⟩
    show s = _
    rw [List.drop_zero, List.take_zero, List.drop_zero, ← hc, ← hsck, ← hempty]
  | succ k ih =>
    rw [Nat.mul_succ, Function.iterate_succ_apply', Function.iterate_succ_apply']
    exact afterCycles_succ hbusy hbits (by omega) (ih (by omega))

/-- Settles O28: one move after another, and the cycles of a byte by their number. -/
theorem hostWiresCarryBytePeriods : Obligations.HostWiresCarryBytePeriods := by
  refine ⟨sdoPin_eq, fun s sdi more hc => ⟨fun hidle => ?_, fun hsck hbusy => ⟨fun hshort => ?_, fun hfull => ?_⟩⟩,
    fun s more hc => ⟨fun hidle => ?_, fun hsck hbusy => ?_⟩, fun s more hc => ?_,
    fun s byte more hbusy hsck hempty hc => ⟨fun k hk => ?_, s.host.byteRow byte, byteRow_tells _ _, ?_⟩⟩
  · rw [hostMove_rise hc]
    split
    · rfl
    · rename_i hsck
      have htxn := hidle.resolve_left hsck
      unfold State.sampleSdi
      exact if_pos (beq_iff_eq.mpr htxn)
  · exact hostMove_rise_short hc hsck hbusy hshort
  · rw [hostMove_rise_full hc hsck hbusy hfull]
    refine ⟨byteOfBits (s.host.bits ++ [sdi]), s.host.byteRow (byteOfBits (s.host.bits ++ [sdi])),
      dataBits_byteOfBits (by rw [List.length_append, List.length_singleton, hfull]), byteRow_tells _ _, ?_⟩
    unfold State.endByte
    simp only [Bool.and_eq_true, beq_iff_eq, Option.isNone_iff_eq_none]
  · rw [hostMove_fall hc]
    split
    · rename_i hsck
      have htxn := hidle.resolve_left (by simp [hsck])
      unfold State.shiftSdo
      exact if_pos (beq_iff_eq.mpr htxn)
    · rfl
  · exact hostMove_fall_high hc hsck hbusy
  · unfold State.hostMove
    rw [hc]
  · obtain ⟨w, ht⟩ := hostMove_cycles hbusy hsck hempty (dataBits_length byte) hc k (by omega)
    rw [ht, sdoPin_eq, if_neg hbusy]
    simp
  · obtain ⟨w, ht⟩ := hostMove_cycles hbusy hsck hempty (dataBits_length byte) hc 7 (Nat.le_refl 7)
    have hbyte : byteOfBits ((dataBits byte).take 7 ++ [byte.getLsbD 0]) = byte := by
      apply dataBits_injective
      rw [dataBits_byteOfBits rfl]
      rfl
    generalize hu : State.hostMove^[2 * 7] s = u at ht
    have hseven : u.host.bits.length = 7 := by rw [ht]; rfl
    rw [show (15 : Nat) = 2 * 7 + 1 from rfl, Function.iterate_succ_apply', hu,
      hostMove_rise_full (sdi := byte.getLsbD 0) (more := .fall :: more) (by rw [ht]; rfl) (by rw [ht])
        (by rw [ht]; exact hbusy) hseven]
    rw [ht]
    simp only [hbyte]
    exact ⟨rfl, rfl, rfl⟩

end Sys2Proof.HostRules
end

section
namespace Sys2Proof.Machine

open Sys2Proof

/-! ### A transition, said once: its input and its record (R121 to R126, R131) -/

/-- R121, R125: the record that a transition to `level` makes, if it makes one. -/
def InputConfig.transitionRecord (c : InputConfig) (i : Fin 16) (x : Input) (level : Bool) (snap : Line16) :
    Option Detail :=
  let above := c.overLimit (c.countInWindow x.window)
  match x.state with
  | .disabled => none
  | .suspended => none
  | .armed =>
    if above then some (.chatter i (x.edgeCount + 1) snap)
    else if c.mode.reports level then some (.edge i level false (x.edgeCount + 1) snap) else none
  | .holdoff => if above then some (.chatter i (x.edgeCount + 1) snap) else none

/-- A capture record, if there is one to make. -/
def State.captureAny (s : State) (stamp : Stamp) (q : TimeState) (d : Option Detail) : State :=
  d.elim s (s.capture stamp q)

theorem State.setInput_setInput (s : State) (i : Fin 16) (x y : Input) :
    (s.setInput i x).setInput i y = s.setInput i y := by
  simp [State.setInput]

theorem State.transition_eq (s : State) (i : Fin 16) (level : Bool) (stamp : Stamp) (q : TimeState)
    (snap : Line16) : s.transition i level stamp q snap =
      (s.setInput i ((s.inputConfig i).afterTransition (s.input i) level)).captureAny stamp q
        ((s.inputConfig i).transitionRecord i (s.input i) level snap) := by
  unfold State.transition InputConfig.afterTransition InputConfig.transitionRecord
  cases hs : (s.input i).state with
  | disabled => simp only [hs]; rw [State.setInput_self]; rfl
  | suspended => simp only [hs, Input.counted]; rfl
  | armed =>
    simp only [hs, Input.counted]
    split
    · rfl
    · split <;> rfl
  | holdoff =>
    simp only [hs, Input.counted]
    split <;> rfl

/-! ### The chatter window (R122, R123) -/

theorem EdgeMode.reports_iff (m : EdgeMode) (b : Bool) : m.reports b = true ↔
    m = .both ∨ (m = .rising ∧ b = true) ∨ (m = .falling ∧ b = false) := by
  cases m <;> simp [EdgeMode.reports]

section
variable {c : InputConfig}

theorem countInWindow_zero (h : c.chatterLimit = 0) (w : Option ChatterWindow) : c.countInWindow w = w :=
  if_pos h

theorem countInWindow_none (h : c.chatterLimit ≠ 0) :
    c.countInWindow none = some ⟨1, c.chatterWindow * 10000⟩ :=
  if_neg h

theorem countInWindow_some (h : c.chatterLimit ≠ 0) (w : ChatterWindow) :
    c.countInWindow (some w) = some ⟨w.count + 1, w.left⟩ :=
  if_neg h

theorem overLimit_iff (w : Option ChatterWindow) : c.overLimit w = true ↔
    c.chatterLimit ≠ 0 ∧ ∃ v, w = some v ∧ c.chatterLimit < v.count := by
  unfold InputConfig.overLimit
  cases w <;> simp

/-- The transition is counted within the limit. -/
theorem not_overLimit {w : Option ChatterWindow} (h : c.chatterLimit = 0 ∨ (w = none ∧ 1 ≤ c.chatterLimit) ∨
    ∃ v, w = some v ∧ v.count + 1 ≤ c.chatterLimit) : c.overLimit (c.countInWindow w) = false := by
  rw [← Bool.not_eq_true, overLimit_iff]
  rintro ⟨hlimit, v, hv, hover⟩
  rcases h with h | ⟨rfl, h⟩ | ⟨w, rfl, h⟩
  · exact hlimit h
  · rw [countInWindow_none hlimit] at hv
    cases hv
    exact absurd hover (Nat.not_lt.mpr h)
  · rw [countInWindow_some hlimit] at hv
    cases hv
    exact absurd hover (Nat.not_lt.mpr h)

theorem overLimit_of_above {v : ChatterWindow} (hlimit : c.chatterLimit ≠ 0) (h : c.chatterLimit < v.count + 1) :
    c.overLimit (c.countInWindow (some v)) = true := by
  rw [overLimit_iff, countInWindow_some hlimit]
  exact ⟨hlimit, _, rfl, h⟩

end

/-! ### Capture records (R131, R132) -/

theorem State.capture_room {s : State} (h : s.outbound.records.length < 32) (stamp : Stamp) (q : TimeState)
    (d : Detail) : s.capture stamp q d = s.appendOwn stamp q d :=
  if_pos (decide_eq_true h)

theorem State.capture_full {s : State} (h : 32 ≤ s.outbound.records.length) (stamp : Stamp) (q : TimeState)
    (d : Detail) : s.capture stamp q d = { s with outbound := { s.outbound with lost := satInc s.outbound.lost } } :=
  if_neg (by rw [HostRules.queueHasRoom_iff]; omega)

theorem State.enqueue_offer_agrees (s : State) (r r' : Record) (x : Bool) :
    (s.offer r x).agrees ((s.enqueue r').offer r x) :=
  State.agrees.offer (s := s) (t := s.enqueue r') ⟨rfl, rfl, rfl, rfl, rfl⟩ r x

/-- What a capture depends on: the address, the queue, and what the journal depends on. -/
structure State.capturesAlike (s t : State) : Prop extends s.agrees t where
  outbound : t.outbound = s.outbound
  control : t.control = s.control

theorem State.capturesAlike.capture {s t : State} (h : s.capturesAlike t) (stamp : Stamp) (q : TimeState)
    (d : Detail) : (s.capture stamp q d).capturesAlike (t.capture stamp q d) := by
  have hcontrol : (t.capture stamp q d).control = (s.capture stamp q d).control := by
    rw [t.capture_frame stamp q d .control (by decide), s.capture_frame stamp q d .control (by decide)]
    exact h.control
  rcases Nat.lt_or_ge s.outbound.records.length 32 with hroom | hfull
  · have hrecord : t.ownRecord stamp q d = s.ownRecord stamp q d := by
      simp [State.ownRecord, State.ownOrigin, State.own, h.outbound, h.control]
    rw [State.capture_room hroom, State.capture_room (by rw [h.outbound]; exact hroom)] at *
    refine ⟨?_, ?_, hcontrol⟩
    · rw [State.appendOwn, State.appendOwn, hrecord]
      exact State.agrees.offer (s := s.enqueue _) (t := t.enqueue _)
        ⟨h.journal, h.counters, h.host, h.now, h.timeState⟩ _ false
    · rw [State.appendOwn, State.appendOwn, State.offer_frame _ _ _ .outbound (by decide),
        State.offer_frame _ _ _ .outbound (by decide), hrecord]
      simp [State.enqueue, h.outbound]
  · rw [State.capture_full hfull, State.capture_full (by rw [h.outbound]; exact hfull)] at *
    exact ⟨⟨h.journal, h.counters, h.host, h.now, h.timeState⟩, by rw [h.outbound], hcontrol⟩

theorem State.capturesAlike.setInput {s t : State} (h : s.capturesAlike t) (i j : Fin 16) (x y : Input) :
    (s.setInput i x).capturesAlike (t.setInput j y) :=
  ⟨⟨h.journal, h.counters, h.host, h.now, h.timeState⟩, h.outbound, h.control⟩

theorem State.capturesAlike.inputConfig {s t : State} (h : s.capturesAlike t) (i : Fin 16) :
    t.inputConfig i = s.inputConfig i := by
  rw [State.inputConfig, State.inputConfig, h.control]

theorem State.capturesAlike.transition {s t : State} (h : s.capturesAlike t) {i : Fin 16}
    (hi : t.input i = s.input i) (level : Bool) (stamp : Stamp) (q : TimeState) (snap : Line16) :
    (s.transition i level stamp q snap).capturesAlike (t.transition i level stamp q snap) := by
  rw [State.transition_eq, State.transition_eq, h.inputConfig, hi]
  have hset := h.setInput i i ((s.inputConfig i).afterTransition (s.input i) level)
    ((s.inputConfig i).afterTransition (s.input i) level)
  cases (s.inputConfig i).transitionRecord i (s.input i) level snap with
  | none => exact hset
  | some d => exact hset.capture stamp q d

/-- What the capture of record `r` makes of the queue and the journal. -/
def State.hasCaptured (s t : State) (r : Record) : Prop :=
  (s.outbound.records.length < 32 → t.outbound = { s.outbound with
      records := s.outbound.records ++ [r], nextSeq := s.outbound.nextSeq + 1 } ∧
    (s.offer r false).journaledIn t) ∧
  (32 ≤ s.outbound.records.length → t.outbound = { s.outbound with lost := satInc s.outbound.lost } ∧
    s.journaledIn t)

theorem State.setInput_hasCaptured (s : State) (i : Fin 16) (x : Input) (stamp : Stamp) (q : TimeState)
    (d : Detail) : s.hasCaptured ((s.setInput i x).capture stamp q d).settleIrq
      { origin := s.ownOrigin, seq := s.outbound.nextSeq, stamp := stamp, quality := q, detail := d } := by
  have hset : s.agrees (s.setInput i x) := ⟨rfl, rfl, rfl, rfl, rfl⟩
  refine ⟨fun hroom => ?_, fun hfull => ?_⟩
  · rw [State.capture_room (s := s.setInput i x) hroom, State.appendOwn]
    exact ⟨State.offer_frame _ _ _ .outbound (by decide),
      ((hset.offer _ false).trans (State.enqueue_offer_agrees _ _ _ false)).journaledIn⟩
  · rw [State.capture_full (s := s.setInput i x) hfull]
    exact ⟨rfl, State.agrees.journaledIn (s := s) ⟨rfl, rfl, rfl, rfl, rfl⟩⟩

theorem State.setInput_capture_input (s : State) (i : Fin 16) (x : Input) (stamp : Stamp) (q : TimeState)
    (d : Detail) : ((s.setInput i x).capture stamp q d).settleIrq.input i = x ∧
      ∀ j, j ≠ i → ((s.setInput i x).capture stamp q d).settleIrq.input j = s.input j := by
  have hinputs : ((s.setInput i x).capture stamp q d).settleIrq.inputs = (s.setInput i x).inputs :=
    State.capture_inputs _ _ _ _
  refine ⟨?_, fun j hj => ?_⟩
  · rw [State.input_congr hinputs, State.input_setInput_same]
  · rw [State.input_congr hinputs, State.input_setInput_other s i j x hj]

theorem State.setInput_capture_changes (s : State) (i : Fin 16) (x : Input) (stamp : Stamp) (q : TimeState)
    (d : Detail) : s.changesOnly ((s.setInput i x).capture stamp q d).settleIrq
      [.inputs, .outbound, .journal, .counters, .host] :=
  State.changesOnly_trans (State.changesOnly_mono (s.setInput_capture_frame i x stamp q d) (by decide))
    (State.changesOnly_mono (State.settleIrq_frame _) (by decide))

end Sys2Proof.Machine

namespace Sys2Proof.InputRules

open Sys2Proof Sys2Proof.Machine

/-- Settles O39: by the state of the input, with the window counted as `x` has it. -/
theorem transitionsFollowTheInputState : Obligations.TransitionsFollowTheInputState := by
  refine ⟨fun i level stamp q snap s => ?_, fun s r horigin hseq => ⟨fun hroom => ?_, fun hfull =>
    State.capture_full hfull _ _ _⟩⟩
  · refine ⟨{ (s.input i).counted level with window := (s.inputConfig i).countInWindow (s.input i).window },
      (s.inputConfig i).overLimit ((s.inputConfig i).countInWindow (s.input i).window) = true,
      (s.inputConfig i).mode.reports level = true, rfl, fun h => countInWindow_zero h _, fun h hw => ?_,
      fun w h hw => ?_, overLimit_iff _, EdgeMode.reports_iff _ _, fun hs => ?_, fun hs => ?_,
      fun hs above => ?_, fun hs above reports => ?_, fun hs above => ?_⟩
    · rw [hw]; exact countInWindow_none h
    · rw [hw]; exact countInWindow_some h w
    · rw [State.transition_eq, InputConfig.afterTransition, InputConfig.transitionRecord, hs]
      exact s.setInput_self i
    · rw [State.transition_eq, InputConfig.afterTransition, InputConfig.transitionRecord, hs]
      rfl
    · rw [State.transition_eq, InputConfig.afterTransition, InputConfig.transitionRecord]
      rcases hs with hs | hs <;> rw [hs] <;> simp only [above, if_true] <;> rfl
    · rw [State.transition_eq, InputConfig.afterTransition, InputConfig.transitionRecord, hs]
      simp only [above, reports, if_true]
      rfl
    · rw [State.transition_eq, InputConfig.afterTransition, InputConfig.transitionRecord]
      rcases hs with hs | ⟨hs, reports⟩ <;> rw [hs] <;> simp only [*] <;> rfl
  · have hown : s.ownRecord r.stamp r.quality r.detail = r := by
      rw [State.ownRecord, ← horigin, ← hseq]
    rw [State.capture_room hroom, State.appendOwn, hown]
    rfl

/-! ### Pins of DIRECT inputs (R117) -/

theorem exec_pinChange_read {s : State} {i : Fin 16} {b : Bool} (h : s.pin i = b) :
    exec (.pinChange i b) s = commit (s.readDirect i) :=
  if_pos (beq_iff_eq.mpr h)

theorem directReadDue_iff (s : State) (i : Fin 16) : s.directReadDue i = true ↔
    s.inReset = false ∧ (s.input i).state ≠ .disabled ∧ (s.inputConfig i).qualification = .direct ∧
      (s.input i).countTaken = false ∧ (s.input i).level ≠ s.pin i := by
  simp [State.directReadDue, and_assoc]

/-- A DIRECT input that its pin has left: the transition is stamped now, and the count is taken. -/
theorem readDirect_eq {s : State} {i : Fin 16} (due : s.directReadDue i = true) : s.readDirect i =
    (s.setInput i ((s.inputConfig i).afterTransition { s.input i with countTaken := true } (s.pin i))).captureAny
      s.now s.timebase.timeState
      ((s.inputConfig i).transitionRecord i (s.input i) (s.pin i) (withBit s.snapshot i.val (s.pin i))) := by
  rw [State.readDirect, if_pos due, State.transition_eq, State.input_setInput_same, State.setInput_setInput]
  rfl

/-- Settles O36: an edge within the chatter limit, by the law of a transition. -/
theorem directEdgeIsRecorded : Obligations.DirectEdgeIsRecorded := by
  refine ⟨fun s i => rfl, fun w i j b => HostRules.getLsbD_withBit w i j b,
    fun i b s hout hpin htaken hstate hdirect hlevel hreports hwithin => ?_⟩
  have hread := readDirect_eq ((directReadDue_iff s i).mpr
    ⟨hout, by simp [hstate], hdirect, htaken, by rw [hpin]; exact hlevel⟩)
  have hunder := not_overLimit hwithin
  have hedge : (s.inputConfig i).mode.reports b = true := (EdgeMode.reports_iff _ _).mpr hreports
  have hrecord (snap : Line16) : (s.inputConfig i).transitionRecord i (s.input i) b snap =
      some (.edge i b false ((s.input i).edgeCount + 1) snap) := by
    rw [InputConfig.transitionRecord, hstate]
    simp [hunder, hedge]
  rw [hpin, hrecord] at hread
  generalize hx : (s.inputConfig i).afterTransition { s.input i with countTaken := true } b = x at hread
  have hafter : x = (s.inputConfig i).reported { s.input i with
      level := b, edgeCount := (s.input i).edgeCount + 1, countTaken := true,
      window := (s.inputConfig i).countInWindow (s.input i).window } := by
    rw [← hx, InputConfig.afterTransition]
    simp only [hstate, hunder, hedge, Bool.false_eq_true, if_false, if_true]
    rfl
  have hwindow : x.window = (s.inputConfig i).countInWindow (s.input i).window := by
    rw [hafter, InputConfig.reported]
    split <;> rfl
  obtain ⟨hsame, hothers⟩ := s.setInput_capture_input i x s.now s.timebase.timeState
    (.edge i b false ((s.input i).edgeCount + 1) (withBit s.snapshot i.val b))
  obtain ⟨hroom, hfull⟩ := s.setInput_hasCaptured i x s.now s.timebase.timeState
    (.edge i b false ((s.input i).edgeCount + 1) (withBit s.snapshot i.val b))
  refine ⟨_, _, by rw [exec_pinChange_read hpin, hread]; rfl, rfl, fun hzero => ?_, fun hlimit hnone => ?_,
    fun w hlimit hw => ?_, fun hzero => ?_, fun hhold => ?_, hothers, hroom, hfull,
    s.setInput_capture_changes i x _ _ _⟩
  · rw [hsame, hwindow, countInWindow_zero hzero]
  · rw [hsame, hwindow, hnone, countInWindow_none hlimit]
  · rw [hsame, hwindow, hw, countInWindow_some hlimit]
  · rw [hsame, hwindow, hafter, InputConfig.reported, if_pos hzero]
  · rw [hsame, hwindow, hafter, InputConfig.reported, if_neg hhold]
    rfl

end Sys2Proof.InputRules
end

section
namespace Sys2Proof.InputRules

open Sys2Proof Sys2Proof.Machine

/-- The count that reads the pin of a DIRECT input, by the record of the transition. -/
theorem exec_pinChange_recorded {s : State} {i : Fin 16} {b : Bool} (hpin : s.pin i = b)
    (due : s.directReadDue i = true) {d : Detail} (hrecord : (s.inputConfig i).transitionRecord i (s.input i) b
      (withBit s.snapshot i.val b) = some d) :
    exec (.pinChange i b) s = .next ((s.setInput i ((s.inputConfig i).afterTransition
      { s.input i with countTaken := true } b)).capture s.now s.timebase.timeState d).settleIrq := by
  rw [exec_pinChange_read hpin, readDirect_eq due, hpin, hrecord]
  rfl

theorem setInput_irqKept {s : State} (h : s.IrqKept) (i : Fin 16) (x : Input) : (s.setInput i x).IrqKept := h

theorem exec_pinChange_silent {s : State} (hs : s.IrqKept) {i : Fin 16} {b : Bool} (hpin : s.pin i = b)
    (due : s.directReadDue i = true) (hrecord : (s.inputConfig i).transitionRecord i (s.input i) b
      (withBit s.snapshot i.val b) = none) :
    exec (.pinChange i b) s = .next (s.setInput i ((s.inputConfig i).afterTransition
      { s.input i with countTaken := true } b)) := by
  rw [exec_pinChange_read hpin, readDirect_eq due, hpin, hrecord]
  exact HostRules.commit_of_kept (setInput_irqKept hs i _)

/-- A transition that makes no record changes its input alone. -/
theorem exec_pinChange_becomes {s : State} (hs : s.IrqKept) {i : Fin 16} {b : Bool} (hpin : s.pin i = b)
    (due : s.directReadDue i = true) (hrecord : (s.inputConfig i).transitionRecord i (s.input i) b
      (withBit s.snapshot i.val b) = none) {x : Input}
    (hx : (s.inputConfig i).afterTransition { s.input i with countTaken := true } b = x) :
    ∃ t, exec (.pinChange i b) s = .next t ∧ t.input i = x ∧ (∀ j, j ≠ i → t.input j = s.input j) ∧
      s.changesOnly t [.inputs] :=
  ⟨s.setInput i x, by rw [exec_pinChange_silent hs hpin due hrecord, hx], State.input_setInput_same s i x,
    fun j hj => State.input_setInput_other s i j x hj, s.setInput_frame i x⟩

section
variable {c : InputConfig} {i : Fin 16} {x : Input} {b : Bool}

/-- In HOLDOFF, or ARMED at a level that is not reported, within the limit: counted, without a record. -/
theorem afterTransition_counts (hstate : x.state = .holdoff ∨ (x.state = .armed ∧ c.mode.reports b = false))
    (hunder : c.overLimit (c.countInWindow x.window) = false) (snap : Line16) :
    c.transitionRecord i x b snap = none ∧ c.afterTransition { x with countTaken := true } b = { x with
      level := b, edgeCount := x.edgeCount + 1, window := c.countInWindow x.window, countTaken := true } := by
  unfold InputConfig.transitionRecord InputConfig.afterTransition
  rcases hstate with hstate | ⟨hstate, hsilent⟩ <;> rw [hstate] <;> simp [*, Input.counted]

/-- Above the limit: CHATTER, and SUSPENDED. -/
theorem afterTransition_suspends (hstate : x.state = .armed ∨ x.state = .holdoff)
    (hover : c.overLimit (c.countInWindow x.window) = true) (snap : Line16) :
    c.transitionRecord i x b snap = some (.chatter i (x.edgeCount + 1) snap) ∧
      c.afterTransition { x with countTaken := true } b = { x with
        state := .suspended, level := b, edgeCount := x.edgeCount + 1, holdoffRef := none, holdoffTimer := none,
        window := none, quietTimer := some (c.chatterWindow * 10000), countTaken := true } := by
  unfold InputConfig.transitionRecord InputConfig.afterTransition
  rcases hstate with hstate | hstate <;> rw [hstate] <;>
    simp [*, Input.counted, InputConfig.suspended, InputConfig.windowTime]

end

/-- Settles O37: the chatter limit passed, and the pins that make no record. -/
theorem otherPinChanges : Obligations.OtherPinChanges := by
  refine ⟨fun i b s w hout hpin htaken hstate hdirect hlevel hlimit hwindow hover => ?_,
    fun i b s hs => ⟨fun hmoves => ?_, fun hpin hidle => ?_, fun hout hpin htaken hdirect hlevel => ?_⟩⟩
  · have due := (directReadDue_iff s i).mpr
      ⟨hout, by rcases hstate with h | h <;> simp [h], hdirect, htaken, by rw [hpin]; exact hlevel⟩
    have habove : (s.inputConfig i).overLimit ((s.inputConfig i).countInWindow (s.input i).window) = true := by
      rw [hwindow]; exact overLimit_of_above hlimit hover
    obtain ⟨hrecord, hafter⟩ := afterTransition_suspends (i := i) (b := b) hstate habove (withBit s.snapshot i.val b)
    have hexec := exec_pinChange_recorded hpin due hrecord
    rw [hafter] at hexec
    obtain ⟨hsame, hothers⟩ := s.setInput_capture_input i _ s.now s.timebase.timeState _
    obtain ⟨hroom, hfull⟩ := s.setInput_hasCaptured i _ s.now s.timebase.timeState _
    exact ⟨_, _, hexec, rfl, hsame, hothers, hroom, hfull, s.setInput_capture_changes i _ _ _ _⟩
  · have hmove : exec (.pinChange i b) s = commit { s with pins := withBit s.pins i.val b } :=
      if_neg (by simpa using hmoves)
    rw [hmove]
    exact HostRules.commit_of_kept hs
  · have hnot : ¬ s.directReadDue i = true := by
      rw [directReadDue_iff]
      rintro ⟨h1, h2, h3, h4, h5⟩
      rcases hidle with h | h | h | h | h
      · simp [h] at h1
      · exact h2 h
      · simp [h] at h3
      · exact h5 (by rw [hpin]; exact h)
      · simp [h] at h4
    rw [exec_pinChange_read hpin, State.readDirect, if_neg hnot]
    exact HostRules.commit_of_kept hs
  · have hdue (hstate : (s.input i).state ≠ .disabled) := (directReadDue_iff s i).mpr
      ⟨hout, hstate, hdirect, htaken, by rw [hpin]; exact hlevel⟩
    refine ⟨fun hstate => ?_, fun hstate => ?_⟩
    · refine exec_pinChange_becomes hs hpin (hdue (by simp [hstate])) ?_ ?_
      · rw [InputConfig.transitionRecord, hstate]
      · rw [InputConfig.afterTransition]
        simp only [hstate, Input.counted]
        rfl
    · have hsilent : (s.input i).state = .holdoff ∨
          ((s.input i).state = .armed ∧ (s.inputConfig i).mode.reports b = false) :=
        hstate.imp_right fun h => ⟨h.1, by rcases h.2 with ⟨hm, hb⟩ | ⟨hm, hb⟩ <;> simp [hm, hb, EdgeMode.reports]⟩
      have due := hdue (by rcases hstate with h | ⟨h, -⟩ <;> simp [h])
      have hcounts (hwithin : (s.inputConfig i).chatterLimit = 0 ∨
          ((s.input i).window = none ∧ 1 ≤ (s.inputConfig i).chatterLimit) ∨
          ∃ v, (s.input i).window = some v ∧ v.count + 1 ≤ (s.inputConfig i).chatterLimit) :=
        afterTransition_counts (i := i) hsilent (not_overLimit hwithin) (withBit s.snapshot i.val b)
      refine ⟨fun hzero => ?_, fun hlimit hnone => ?_, fun w hw hwithin => ?_⟩
      · obtain ⟨hrecord, hafter⟩ := hcounts (.inl hzero)
        rw [countInWindow_zero hzero] at hafter
        exact exec_pinChange_becomes hs hpin due hrecord hafter
      · obtain ⟨hrecord, hafter⟩ := hcounts (.inr (.inl ⟨hnone, by omega⟩))
        exact exec_pinChange_becomes hs hpin due hrecord
          (hafter.trans (by rw [hnone, countInWindow_none hlimit]))
      · obtain ⟨hrecord, hafter⟩ := hcounts (.inr (.inr ⟨w, hw, hwithin⟩))
        exact exec_pinChange_becomes hs hpin due hrecord
          (hafter.trans (by rw [hw, countInWindow_some (by omega)]))

/-! ### Expiries (R122, R124, R126) -/

/-- Settles O40: each expiry of an input that its state and its timer allow. -/
theorem inputExpiries : Obligations.InputExpiries := by
  intro i s hout hs
  have halone (x : Input) : (s.setInput i x).input i = x ∧ (∀ j, j ≠ i → (s.setInput i x).input j = s.input j) ∧
      s.changesOnly (s.setInput i x) [.inputs] :=
    ⟨State.input_setInput_same s i x, fun j hj => State.input_setInput_other s i j x hj, s.setInput_frame i x⟩
  have hends (hstate : (s.input i).state = .holdoff) (htimer : (s.input i).holdoffTimer = some 0) :
      exec (.holdoffExpiry i) s = commit (s.endHoldoff i) := if_pos (by simp [State.holdoffDue, hout, hstate, htimer, ranOut])
  refine ⟨fun hstate htimer hsame => ?_, fun hstate htimer hother hreports => ?_, fun w hw hleft => ?_,
    fun hstate htimer => ?_⟩
  · have hnot : ¬ ((s.input i).holdoffRef != some (s.input i).level &&
        (s.inputConfig i).mode.reports (s.input i).level) = true := by
      rcases hsame with h | ⟨hm, hl⟩ | ⟨hm, hl⟩
      · simp [h]
      · simp [hm, hl, EdgeMode.reports]
      · simp [hm, hl, EdgeMode.reports]
    refine ⟨_, ?_, halone { s.input i with state := .armed, holdoffRef := none, holdoffTimer := none }⟩
    rw [hends hstate htimer, State.endHoldoff, if_neg hnot]
    exact HostRules.commit_of_kept (setInput_irqKept hs i _)
  · have hpos : ((s.input i).holdoffRef != some (s.input i).level &&
        (s.inputConfig i).mode.reports (s.input i).level) = true := by
      rw [Bool.and_eq_true, EdgeMode.reports_iff, bne_iff_ne]
      exact ⟨hother, hreports⟩
    obtain ⟨hsame, hothers⟩ := s.setInput_capture_input i _ s.now s.timebase.timeState _
    obtain ⟨hroom, hfull⟩ := s.setInput_hasCaptured i _ s.now s.timebase.timeState _
    refine ⟨_, _, ?_, rfl, hsame, hroom, hfull, hothers, s.setInput_capture_changes i _ _ _ _⟩
    rw [hends hstate htimer, State.endHoldoff, if_pos hpos]
    rfl
  · have hexec : exec (.chatterWindowExpiry i) s = commit (s.closeWindow i) :=
      if_pos (by simp [State.windowDue, hout, hw, hleft])
    refine ⟨_, ?_, halone { s.input i with window := none }⟩
    rw [hexec]
    exact HostRules.commit_of_kept (setInput_irqKept hs i _)
  · have hexec : exec (.quietTimerExpiry i) s = commit (s.resumeInput i) :=
      if_pos (by simp [State.quietDue, hout, hstate, htimer, ranOut])
    obtain ⟨hsame, hothers⟩ := s.setInput_capture_input i _ s.now s.timebase.timeState _
    obtain ⟨hroom, hfull⟩ := s.setInput_hasCaptured i _ s.now s.timebase.timeState _
    exact ⟨_, _, hexec, rfl, hsame, hroom, hfull, hothers, s.setInput_capture_changes i _ _ _ _⟩

end Sys2Proof.InputRules
end

section
namespace Sys2Proof.Machine

open Sys2Proof

theorem State.capturesAlike_refl (s : State) : s.capturesAlike s := ⟨s.agrees_refl, rfl, rfl⟩

theorem State.capturesAlike.trans {s t u : State} (h : s.capturesAlike t) (h' : t.capturesAlike u) :
    s.capturesAlike u :=
  ⟨h.toagrees.trans h'.toagrees, h'.outbound.trans h.outbound, h'.control.trans h.control⟩

/-! ### One sample of one input (R118) -/

/-- The sample confirms the open candidate of input `i`. -/
def State.confirms (s : State) (i : Fin 16) : Prop :=
  ∃ c, (s.input i).candidate = some c ∧ s.pin i = c.level

section
variable {s : State} {i : Fin 16}

theorem State.sampleInput_same (h : (s.input i).candidate = none) (hpin : s.pin i = (s.input i).level) :
    s.sampleInput i = s := by
  rw [State.sampleInput, h]
  exact if_pos (beq_iff_eq.mpr hpin)

theorem State.sampleInput_opens (h : (s.input i).candidate = none) (hpin : s.pin i ≠ (s.input i).level) :
    s.sampleInput i = s.setInput i { s.input i with
      candidate := some ⟨s.pin i, s.now, s.timebase.timeState, s.snapshot⟩ } := by
  rw [State.sampleInput, h]
  exact if_neg (by simpa using hpin)

theorem State.sampleInput_discards {c : Candidate} (h : (s.input i).candidate = some c) (hpin : s.pin i ≠ c.level) :
    s.sampleInput i = s.setInput i { s.input i with candidate := none } := by
  rw [State.sampleInput, h]
  exact if_neg (by simpa using hpin)

theorem State.sampleInput_confirms {c : Candidate} (h : (s.input i).candidate = some c) (hpin : s.pin i = c.level) :
    s.sampleInput i = (s.setInput i { s.input i with candidate := none }).transition i c.level c.time c.quality
      (withBit c.snapshot i.val c.level) := by
  rw [State.sampleInput, h]
  exact if_pos (beq_iff_eq.mpr hpin)

end

theorem State.sampleInput_other (s : State) {i j : Fin 16} (h : j ≠ i) : (s.sampleInput i).input j = s.input j := by
  have hset (x : Input) : (s.setInput i x).input j = s.input j := State.input_setInput_other s i j x h
  cases hc : (s.input i).candidate with
  | none =>
    by_cases hpin : s.pin i = (s.input i).level
    · rw [State.sampleInput_same hc hpin]
    · rw [State.sampleInput_opens hc hpin, hset]
  | some c =>
    by_cases hpin : s.pin i = c.level
    · rw [State.sampleInput_confirms hc hpin, State.input_congr (State.transition_inputs _ _ _ _ _ _),
        State.input_setInput_other _ _ _ _ h, hset]
    · rw [State.sampleInput_discards hc hpin, hset]

theorem State.sampleInput_quiet {s : State} {i : Fin 16} (h : ¬ s.confirms i) : s.capturesAlike (s.sampleInput i) := by
  cases hc : (s.input i).candidate with
  | none =>
    by_cases hpin : s.pin i = (s.input i).level
    · rw [State.sampleInput_same hc hpin]
      exact s.capturesAlike_refl
    · rw [State.sampleInput_opens hc hpin]
      exact ⟨⟨rfl, rfl, rfl, rfl, rfl⟩, rfl, rfl⟩
  | some c =>
    rw [State.sampleInput_discards hc fun hpin => h ⟨c, hc, hpin⟩]
    exact ⟨⟨rfl, rfl, rfl, rfl, rfl⟩, rfl, rfl⟩

/-! ### The samples of a tick, one input after another -/

/-- The inputs sampled in this order. -/
def State.sampleEach (s : State) (is : List (Fin 16)) : State := is.foldl State.sampleInput s

theorem State.sampleEach_append (s : State) (is js : List (Fin 16)) :
    s.sampleEach (is ++ js) = (s.sampleEach is).sampleEach js :=
  List.foldl_append

theorem State.sampleEach_cons (s : State) (i : Fin 16) (is : List (Fin 16)) :
    s.sampleEach (i :: is) = (s.sampleInput i).sampleEach is := rfl

theorem State.sampleEach_frame (s : State) (is : List (Fin 16)) : s.changesOnly (s.sampleEach is) captureBlocks :=
  State.changesOnly_foldl State.sampleInput_frame is s

theorem State.sampleEach_other (s : State) {is : List (Fin 16)} {j : Fin 16} (h : j ∉ is) :
    (s.sampleEach is).input j = s.input j := by
  induction is generalizing s with
  | nil => rfl
  | cons i is ih =>
    rw [List.mem_cons, not_or] at h
    rw [State.sampleEach_cons, ih _ h.2, State.sampleInput_other s h.1]

theorem State.pin_of_frame {s t : State} (h : s.changesOnly t captureBlocks) (i : Fin 16) : t.pin i = s.pin i := by
  rw [State.pin, State.pin, h .pins (by decide)]

theorem State.sampleEach_quiet {s : State} {is : List (Fin 16)} (hnodup : is.Nodup) (h : ∀ i ∈ is, ¬ s.confirms i) :
    s.capturesAlike (s.sampleEach is) := by
  induction is generalizing s with
  | nil => exact s.capturesAlike_refl
  | cons i is ih =>
    obtain ⟨hi, hnodup⟩ := List.nodup_cons.mp hnodup
    refine (State.sampleInput_quiet (h i (by simp))).trans (ih hnodup fun j hj => ?_)
    have hne : j ≠ i := fun hji => hi (hji ▸ hj)
    rintro ⟨c, hc, hpin⟩
    rw [State.sampleInput_other s hne] at hc
    rw [State.pin_of_frame (s.sampleInput_frame i)] at hpin
    exact h j (List.mem_cons_of_mem i hj) ⟨c, hc, hpin⟩

/-- Each input is sampled once, in a state `v` in which some of the others have been sampled. -/
theorem State.sampleEach_mem (s : State) {is : List (Fin 16)} (hnodup : is.Nodup) {i : Fin 16} (hi : i ∈ is) :
    ∃ v : State, s.changesOnly v captureBlocks ∧ v.input i = s.input i ∧
      (s.sampleEach is).input i = (v.sampleInput i).input i ∧
      (∀ j, v.input j = s.input j ∨ v.input j = (s.sampleEach is).input j) ∧
      ((∀ j, j ≠ i → ¬ s.confirms j) → s.capturesAlike v ∧ (v.sampleInput i).capturesAlike (s.sampleEach is)) := by
  obtain ⟨before, after, rfl⟩ := List.append_of_mem hi
  obtain ⟨hbefore, hafter, hapart⟩ := List.nodup_append.mp hnodup
  obtain ⟨hnot, hafter⟩ := List.nodup_cons.mp hafter
  have hi' : i ∉ before := fun h => hapart i h i (by simp) rfl
  have hframe := s.sampleEach_frame before
  refine ⟨s.sampleEach before, hframe, s.sampleEach_other hi', ?_, fun j => ?_, fun hquiet => ⟨?_, ?_⟩⟩
  · rw [State.sampleEach_append, State.sampleEach_cons, State.sampleEach_other _ hnot]
  · by_cases hj : j ∈ before
    · have hj' : j ∉ i :: after := fun h => hapart j hj j h rfl
      exact .inr (by rw [State.sampleEach_append, State.sampleEach_other _ hj'])
    · exact .inl (s.sampleEach_other hj)
  · exact State.sampleEach_quiet hbefore fun j hj => hquiet j fun h => hi' (h ▸ hj)
  · rw [State.sampleEach_append, State.sampleEach_cons]
    refine State.sampleEach_quiet hafter fun j hj => ?_
    have hne : j ≠ i := fun h => hnot (h ▸ hj)
    have hj' : j ∉ before := fun h => hapart j h j (by simp [hj]) rfl
    rintro ⟨c, hc, hpin⟩
    rw [State.sampleInput_other _ hne, s.sampleEach_other hj'] at hc
    rw [State.pin_of_frame (State.sampleInput_frame _ i), State.pin_of_frame hframe] at hpin
    exact hquiet j hne ⟨c, hc, hpin⟩

theorem State.mem_sampledInputs (s : State) (i : Fin 16) : i ∈ s.sampledInputs ↔
    (s.input i).state ≠ .disabled ∧ (s.inputConfig i).qualification = .qualified := by
  simp [State.sampledInputs]

end Sys2Proof.Machine

namespace Sys2Proof.InputRules

open Sys2Proof Sys2Proof.Machine

/-- Settles O38: each input by its one sample; the other samples come before or after it. -/
theorem sampleTickQualifiesLevels : Obligations.SampleTickQualifiesLevels := by
  intro s hout htick
  obtain ⟨is, his⟩ : ∃ is, is = arrange 16 s.choices s.sampledInputs := ⟨_, rfl⟩
  obtain ⟨a, ha⟩ : ∃ a : State, a = { s with
    ticks := { s.ticks with sample := 100 }, choices := s.choices + s.sampledInputs.length } := ⟨_, rfl⟩
  have hexec : exec .sampleTick s = .next (a.sampleEach is).settleIrq := by
    have hdue : exec .sampleTick s = commit
        ({ s with ticks := { s.ticks with sample := Config.samplePeriod } } : State).sampleAll :=
      if_pos (by simp [State.sampleTickDue, hout, htick])
    rw [hdue, ha, his]
    rfl
  have hperm := arrange_perm 16 s.choices s.sampledInputs
  rw [← his] at hperm
  have hnodup : is.Nodup := hperm.nodup_iff.mpr ((List.nodup_finRange 16).filter _)
  have hmem (i : Fin 16) := (hperm.mem_iff (a := i)).trans (s.mem_sampledInputs i)
  have halike : s.capturesAlike a := by rw [ha]; exact ⟨⟨rfl, rfl, rfl, rfl, rfl⟩, rfl, rfl⟩
  have hinput (i : Fin 16) : a.input i = s.input i := by rw [ha]; rfl
  have hpin (i : Fin 16) : a.pin i = s.pin i := by rw [ha]; rfl
  have hconfirms (i : Fin 16) : a.confirms i ↔ s.confirms i := by
    rw [State.confirms, State.confirms, hinput, hpin]
  refine ⟨_, hexec, ?_, fun i hi => ?_, fun i hstate hqualified => ?_, fun hnone => ?_, ?_⟩
  · show (a.sampleEach is).ticks = _
    rw [a.sampleEach_frame is .ticks (by decide), ha]
  · show (a.sampleEach is).input i = _
    rw [a.sampleEach_other, hinput]
    rw [hmem]
    rintro ⟨h1, h2⟩
    rcases hi with h | h
    · exact h1 h
    · simp [h] at h2
  · obtain ⟨v, hv, hvi, ht, hsnap, hquiet⟩ := a.sampleEach_mem hnodup ((hmem i).mpr ⟨hstate, hqualified⟩)
    rw [hinput] at hvi
    have hvpin : v.pin i = s.pin i := (State.pin_of_frame hv i).trans (hpin i)
    have hvtime : v.timebase = s.timebase := (hv .timebase (by decide)).trans (by rw [ha])
    have hvcontrol : v.control = s.control := (hv .control (by decide)).trans (by rw [ha])
    refine ⟨fun hnone hsame => ?_, fun hnone hdiffers => ⟨v.snapshot, ?_, ?_, fun j => ?_⟩, fun c hc hdiffers => ?_,
      fun c u hc hsame hu => ⟨?_, fun hothers => ?_⟩⟩
    · exact ht.trans (by
        rw [State.sampleInput_same (by rw [hvi]; exact hnone) (by rw [hvpin, hvi]; exact hsame), hvi])
    · refine ht.trans ?_
      rw [State.sampleInput_opens (by rw [hvi]; exact hnone) (by rw [hvpin, hvi]; exact hdiffers),
        State.input_setInput_same, hvi, hvpin, State.now, hvtime]
      rfl
    · rw [HostRules.getLsbD_snapshot, hvi, decide_eq_true hstate, Bool.true_and]
    · rw [HostRules.getLsbD_snapshot, HostRules.getLsbD_snapshot, HostRules.getLsbD_snapshot]
      rcases hsnap j with h | h
      · exact .inl (by rw [h, hinput])
      · exact .inr (by rw [h]; rfl)
    · exact ht.trans (by
        rw [State.sampleInput_discards (by rw [hvi]; exact hc) (by rw [hvpin]; exact hdiffers),
          State.input_setInput_same, hvi])
    · refine ht.trans ?_
      rw [State.sampleInput_confirms (by rw [hvi]; exact hc) (by rw [hvpin]; exact hsame), hu,
        State.input_congr (State.transition_inputs _ _ _ _ _ _), State.input_congr (State.transition_inputs _ _ _ _ _ _),
        State.input_setInput_same, State.input_setInput_same, State.input_setInput_same, State.input_setInput_same, hvi]
      rw [State.inputConfig, State.inputConfig, State.setInput_control, State.setInput_control, hvcontrol]
    · obtain ⟨hbefore, hafter⟩ := hquiet fun j hj hc => by
        obtain ⟨d, hd, hp⟩ := (hconfirms j).mp hc
        exact hothers j d hj hd hp
      have hsv := (halike.trans hbefore).setInput i i { s.input i with candidate := none }
        { v.input i with candidate := none }
      have hsample := hsv.transition (i := i) (by rw [State.input_setInput_same, State.input_setInput_same, hvi])
        c.level c.time c.quality (withBit c.snapshot i.val c.level)
      rw [← hu, ← State.sampleInput_confirms (by rw [hvi]; exact hc) (by rw [hvpin]; exact hsame)] at hsample
      have hall := hsample.trans hafter
      exact ⟨hall.outbound, hall.toagrees.journaledIn⟩
  · have hall := halike.trans (State.sampleEach_quiet hnodup fun i _ hc => by
      obtain ⟨d, hd, hp⟩ := (hconfirms i).mp hc
      exact hnone i d hd hp)
    exact ⟨hall.outbound, hall.toagrees.journaledIn⟩
  · have hstart : s.changesOnly a [.ticks, .choices] := by
      rw [ha]
      intro b hb
      cases b <;> first | rfl | exact absurd (by decide) hb
    exact State.changesOnly_trans (State.changesOnly_mono hstart (by decide)) (State.changesOnly_trans
      (State.changesOnly_mono (a.sampleEach_frame is) (by decide))
      (State.changesOnly_mono (State.settleIrq_frame _) (by decide)))

end Sys2Proof.InputRules
end

section
namespace Sys2Proof.TimeRules

open Sys2Proof Sys2Proof.Machine

/-! ### Ticks and the join timer (R31, R110, R172) -/

theorem exec_slewTick {s : State} (hout : s.inReset = false) (h : s.ticks.slew = 0) :
    exec .slewTick s = commit ({ s with ticks := { s.ticks with slew := 100 } } : State).slew :=
  if_pos (by simp [State.slewTickDue, hout, h])

/-- Settles O41: each event where it is due, the slew by the sign of the remainder. -/
theorem ticksAndJoinTimer : Obligations.TicksAndJoinTimer := by
  intro s hout
  refine ⟨fun h => ?_, fun hs h => ⟨fun hpos => ?_, fun hneg => ?_, fun hzero => ?_⟩, fun hs hl hj => ?_⟩
  · have hexec : exec .releaseTick s =
        commit ({ s with ticks := { s.ticks with release := 1000 } } : State).computeHorizon :=
      if_pos (by simp [State.releaseTickDue, hout, h])
    obtain ⟨a, ha⟩ : ∃ a : State, a = { s with ticks := { s.ticks with release := 1000 } } := ⟨_, rfl⟩
    rw [← ha] at hexec
    have hframe : s.changesOnly a [.ticks] := by
      rw [ha]
      intro b hb
      cases b <;> first | rfl | exact absurd (by decide) hb
    have hagrees : s.agrees a := State.agrees_of_frame hframe (by decide)
    refine ⟨_, hexec, ?_, (hagrees.computeHorizon (hframe .peers (by decide))).journaledIn, ?_⟩
    · show a.computeHorizon.ticks = _
      rw [a.computeHorizon_frame .ticks (by decide), ha]
    · exact State.changesOnly_trans (State.changesOnly_mono hframe (by decide)) (State.changesOnly_trans
        (State.changesOnly_mono a.computeHorizon_frame (by decide))
        (State.changesOnly_mono (State.settleIrq_frame _) (by decide)))
  · rw [exec_slewTick hout h, State.slew, if_pos hpos]
    exact HostRules.commit_of_kept hs
  · rw [exec_slewTick hout h, State.slew, if_neg (by show ¬ 0 < s.timebase.slewRemainder; omega), if_pos hneg]
    exact HostRules.commit_of_kept hs
  · rw [exec_slewTick hout h, State.slew, if_neg (by show ¬ 0 < s.timebase.slewRemainder; omega),
      if_neg (by show ¬ s.timebase.slewRemainder < 0; omega)]
    exact HostRules.commit_of_kept hs
  · have hexec : exec .joinTimerExpiry s = commit s.beginRunning :=
      if_pos (by simp [State.joinExpiryDue, hout, hl, hj, ranOut])
    have hkept : s.beginRunning.IrqKept := hs
    rw [hexec, HostRules.commit_of_kept hkept]
    rfl

/-! ### Candidates (R102) -/

/-- Settles O42: by the definition of a candidate. -/
theorem candidatesAreFreshActivePeers : Obligations.CandidatesAreFreshActivePeers := by
  intro s
  unfold State.peerValues
  congr 1
  funext p
  simp [State.candidate, and_assoc, imp_iff_not_or]

/-! ### Round ends (R98, R103 to R108) -/

theorem endRound_timebase (s : State) : s.endRound.timebase = { s.applyRound.timebase with
    freshness := Vector.ofFn (fun p : Fin 24 => s.timebase.freshness[p.val] - 1)
    round := s.timebase.round + 1
    roundTimer := some (s.control.config.si * 1000)
    timeOwed := s.running || s.timebase.timeOwed } := by
  have hcontrol : s.applyRound.control = s.control := s.endRound_frame .control (by decide)
  unfold State.endRound State.nextRound State.roundLength State.running
  rw [hcontrol, s.applyRound_timebase]

theorem exec_roundEnd {s : State} (hout : s.inReset = false) (h : s.timebase.roundTimer = some 0) :
    exec .roundEnd s = .next s.endRound.settleIrq :=
  if_pos (by simp [State.roundEndDue, hout, h, ranOut])

theorem endRound_advances (s : State) : s.roundAdvances s.endRound.settleIrq := by
  have hb : s.endRound.settleIrq.timebase = _ := endRound_timebase s
  have happly := s.applyRound_timebase
  refine ⟨fun p => ?_, ?_, ?_, ?_, ?_, ?_, State.changesOnly_trans
    (State.changesOnly_mono s.endRound_frame (by decide)) (State.changesOnly_mono (State.settleIrq_frame _) (by decide))⟩
  · rw [State.fresh, hb]; simp [State.fresh]
  · rw [hb]
  · rw [hb]
  · rw [hb]
    simp [State.running, or_comm]
  · rw [hb, happly]
  · rw [hb, happly]

/-- The round's note offered: the step `a` that made `u` of `s` by its Timebase, and the round's end. -/
theorem noteStep_tells {s u t : State} {a : Int} (hu : u = { s with timebase := u.timebase })
    (ht : t = (u.noteStep a).nextRound.settleIrq) :
    (a = 0 → s.journaledIn t) ∧ (a ≠ 0 → (({ s with timebase := t.timebase } : State).countNote.offer
      { origin := 0, seq := s.journal.noteCounter, stamp := t.now, quality := u.timebase.timeState,
        detail := .timestep (BitVec.ofInt 48 a) } false).journaledIn t) := by
  have hnext (v : State) : v.agrees v.nextRound := ⟨rfl, rfl, rfl, rfl, rfl⟩
  refine ⟨fun hzero => ?_, fun hne => ?_⟩
  · have hsame : u.noteStep a = u := if_pos hzero
    rw [ht, hsame]
    exact ⟨by rw [hu]; rfl, by rw [hu]; rfl, by rw [hu]; rfl⟩
  · have hnote : u.noteStep a = u.note (.timestep (BitVec.ofInt 48 a)) := if_neg hne
    have hbase : (u.noteStep a).timebase = u.timebase := u.noteStep_timebase a
    have htime : t.now = u.now := by
      rw [ht]
      show (u.noteStep a).now = u.now
      rw [State.now, hbase]
      rfl
    have hstate : t.timebase.timeState = u.timebase.timeState := by
      rw [ht]
      show (u.noteStep a).timebase.timeState = _
      rw [hbase]
    have hagrees : ({ s with timebase := t.timebase } : State).agrees u :=
      ⟨by rw [hu], by rw [hu], by rw [hu], htime.symm, hstate.symm⟩
    have hmake : u.makeNote (.timestep (BitVec.ofInt 48 a)) =
        { origin := 0, seq := s.journal.noteCounter, stamp := t.now, quality := u.timebase.timeState,
          detail := .timestep (BitVec.ofInt 48 a) } := by
      rw [State.makeNote, htime, hu]
    have hoffer := hagrees.countNote.offer (u.makeNote (.timestep (BitVec.ofInt 48 a))) false
    have hall := hoffer.trans (hnext _)
    rw [hmake] at hall
    have hend : t = (u.countNote.offer (u.makeNote (.timestep (BitVec.ofInt 48 a))) false).nextRound.settleIrq := by
      rw [ht, hnote]; rfl
    rw [hmake] at hend
    conv => arg 2; rw [hend]
    exact hall.journaledIn

/-- Settles O43: with and without a peer candidate. -/
theorem roundEndInFree : Obligations.RoundEndInFree := by
  intro s hout hround hfree
  refine ⟨_, exec_roundEnd hout hround, endRound_advances s, fun hnone => ?_, fun hsome => ?_⟩
  · have happly : s.applyRound = s := by
      rw [State.applyRound, hnone, hfree]
      rfl
    rw [State.endRound, happly]
    exact ⟨⟨rfl, rfl, rfl⟩, rfl⟩
  · obtain ⟨u, hu⟩ : ∃ u, u = (s.stepBy s.roundAdjustment).changeTimeState .acquire := ⟨_, rfl⟩
    have happly : s.applyRound = u.noteStep s.roundAdjustment := by
      rw [State.applyRound, if_neg (by simpa using hsome), hu]
      simp only [hfree]
    have hbase : s.applyRound.timebase = u.timebase := by rw [happly, State.noteStep_timebase]
    have hend : s.endRound.settleIrq = (u.noteStep s.roundAdjustment).nextRound.settleIrq := by
      rw [State.endRound, happly]
    obtain ⟨hzero, hstep⟩ := noteStep_tells (s := s) (by rw [hu]; rfl) hend
    have hall : s.endRound.settleIrq.timebase = _ := endRound_timebase s
    rw [hbase] at hall
    have hacquire : u.timebase.timeState = .acquire := by rw [hu]; rfl
    rw [hacquire] at hstep
    refine ⟨?_, ?_, ?_, ?_, ?_, ?_, hzero, hstep⟩ <;> rw [hall]
    · rw [hu]; rfl
    · rw [hu]; rfl
    · rw [hu]; rfl
    · rw [hu]; rfl
    · rw [hu]; rfl
    · rw [hu]
      simp [State.changeTimeState, State.stepBy, hfree]

end Sys2Proof.TimeRules
end

section
namespace Sys2Proof.TimeRules

open Sys2Proof Sys2Proof.Machine

/-! ### Rounds without a peer candidate in ACQUIRE and LOCKED (R105, R106) -/

theorem applyRound_alone {s : State} (h : s.peerValues = []) (hl : s.timebase.timeState ≠ .free) :
    s.applyRound = s.holdOver := by
  rw [State.applyRound, if_pos (by simp [h])]
  cases ht : s.timebase.timeState with
  | free => exact absurd ht hl
  | acquire => rfl
  | locked => rfl

theorem holdOver_below {s : State} (h : s.timebase.holdover < 7) : s.holdOver = { s with timebase := { s.timebase with
    lockRun := 0, releaseRun := 0, holdover := s.timebase.holdover + 1 } } :=
  if_neg (by show ¬ 8 ≤ s.timebase.holdover + 1; omega)

theorem holdOver_last {s : State} (h : s.timebase.holdover = 7) : s.holdOver = { s with timebase := { s.timebase with
    timeState := .free, lockRun := 0, releaseRun := 0, holdover := 0
    slewRemainder := if s.timebase.timeState = .locked then 0 else s.timebase.slewRemainder } } := by
  refine (if_pos (by show 8 ≤ s.timebase.holdover + 1; omega)).trans ?_
  simp only [State.changeTimeState, beq_iff_eq]

/-- Without a note a round end leaves journal, counters and host port. -/
theorem silent_journaledIn {s : State} (h : s.applyRound = { s with timebase := s.applyRound.timebase }) :
    s.journaledIn s.endRound.settleIrq := by
  rw [State.endRound, h]
  exact ⟨rfl, rfl, rfl⟩

theorem holdOver_timebase_alone (s : State) : s.holdOver = { s with timebase := s.holdOver.timebase } := by
  unfold State.holdOver
  simp only
  split <;> rfl

/-! ### Rounds with a peer candidate -/

theorem acquireRound_stays {s : State} {a : Int} (h : nextLockRun s.timebase.lockRun a < 2) :
    s.acquireRound a = { s with timebase := { s.timebase with
      correction := s.timebase.correction + BitVec.ofInt 48 a, holdover := 0, releaseRun := 0
      lockRun := nextLockRun s.timebase.lockRun a } } :=
  if_neg (by show ¬ 2 ≤ nextLockRun s.timebase.lockRun a; omega)

theorem acquireRound_locks {s : State} {a : Int} (h : 2 ≤ nextLockRun s.timebase.lockRun a)
    (hl : s.timebase.timeState = .acquire) : s.acquireRound a = { s with timebase := { s.timebase with
      correction := s.timebase.correction + BitVec.ofInt 48 a, holdover := 0, releaseRun := 0, lockRun := 0
      timeState := .locked } } := by
  refine (if_pos h).trans ?_
  simp [State.changeTimeState, State.stepBy, hl]

theorem lockedRound_stays {s : State} {a : Int} (h : nextReleaseRun s.timebase.releaseRun a < 3) :
    s.lockedRound a = { s with timebase := { s.timebase with
      holdover := 0, lockRun := 0, releaseRun := nextReleaseRun s.timebase.releaseRun a
      slewRemainder := clampTo (s.control.config.si * 10 : Nat) a } } :=
  if_neg (by show ¬ 3 ≤ nextReleaseRun s.timebase.releaseRun a; omega)

theorem lockedRound_releases {s : State} {a : Int} (h : 3 ≤ nextReleaseRun s.timebase.releaseRun a)
    (hl : s.timebase.timeState = .locked) : s.lockedRound a = { s with timebase := { s.timebase with
      holdover := 0, lockRun := 0, releaseRun := 0, timeState := .acquire, slewRemainder := 0 } } := by
  refine (if_pos h).trans ?_
  simp [State.changeTimeState, hl]

theorem nextLockRun_near {a : Int} (h : a.natAbs ≤ 50) (run : Nat) : nextLockRun run a = run + 1 := if_pos h

theorem nextLockRun_far {a : Int} (h : 50 < a.natAbs) (run : Nat) : nextLockRun run a = 0 :=
  if_neg (by show ¬ a.natAbs ≤ 50; omega)

theorem nextReleaseRun_far {a : Int} (h : 1000 < a.natAbs) (run : Nat) : nextReleaseRun run a = run + 1 := if_pos h

theorem nextReleaseRun_near {a : Int} (h : a.natAbs ≤ 1000) (run : Nat) : nextReleaseRun run a = 0 :=
  if_neg (by show ¬ 1000 < a.natAbs; omega)

/-- What an ACQUIRE round with a peer candidate makes of the Timebase. -/
theorem acquireRound_cases {s : State} (a : Int) (hl : s.timebase.timeState = .acquire) (hrun : s.timebase.lockRun < 2) :
    ∃ state run, s.acquireRound a = { s with timebase := { s.timebase with
        correction := s.timebase.correction + BitVec.ofInt 48 a, holdover := 0, releaseRun := 0, lockRun := run
        timeState := state } } ∧
      (50 < a.natAbs → state = .acquire ∧ run = 0) ∧
      (a.natAbs ≤ 50 → (s.timebase.lockRun = 0 → state = .acquire ∧ run = 1) ∧
        (s.timebase.lockRun = 1 → state = .locked ∧ run = 0)) := by
  rcases Nat.lt_or_ge (nextLockRun s.timebase.lockRun a) 2 with hlow | hhigh
  · refine ⟨s.timebase.timeState, _, acquireRound_stays hlow, fun hfar => ⟨hl, nextLockRun_far hfar _⟩, fun hnear => ?_⟩
    rw [nextLockRun_near hnear] at hlow ⊢
    exact ⟨fun h => ⟨hl, by rw [h]⟩, fun h => by omega⟩
  · refine ⟨_, _, acquireRound_locks hhigh hl, fun hfar => ?_, fun hnear => ?_⟩
    · rw [nextLockRun_far hfar] at hhigh
      omega
    · rw [nextLockRun_near hnear] at hhigh
      exact ⟨fun h => by omega, fun _ => ⟨rfl, rfl⟩⟩

/-- What a LOCKED round with a peer candidate makes of the Timebase. -/
theorem lockedRound_cases {s : State} (a : Int) (hl : s.timebase.timeState = .locked)
    (hrun : s.timebase.releaseRun < 3) : ∃ state run remainder, s.lockedRound a = { s with timebase := { s.timebase with
        holdover := 0, lockRun := 0, releaseRun := run, timeState := state, slewRemainder := remainder } } ∧
      (a.natAbs ≤ 1000 → state = .locked ∧ run = 0) ∧
      (1000 < a.natAbs → s.timebase.releaseRun < 2 → state = .locked ∧ run = s.timebase.releaseRun + 1) ∧
      (1000 < a.natAbs → s.timebase.releaseRun = 2 → state = .acquire ∧ run = 0 ∧ remainder = 0) ∧
      (state = .locked → remainder = clampTo (s.control.config.si * 10 : Nat) a) := by
  rcases Nat.lt_or_ge (nextReleaseRun s.timebase.releaseRun a) 3 with hlow | hhigh
  · refine ⟨s.timebase.timeState, _, _, lockedRound_stays hlow, fun hnear => ⟨hl, nextReleaseRun_near hnear _⟩,
      fun hfar _ => ⟨hl, nextReleaseRun_far hfar _⟩, fun hfar htwo => ?_, fun _ => rfl⟩
    rw [nextReleaseRun_far hfar, htwo] at hlow
    omega
  · have hfar (hnear : a.natAbs ≤ 1000) : False := by
      rw [nextReleaseRun_near hnear] at hhigh
      omega
    refine ⟨_, _, _, lockedRound_releases hhigh hl, fun hnear => (hfar hnear).elim, fun hf hlow => ?_,
      fun _ _ => ⟨rfl, rfl, rfl⟩, nofun⟩
    rw [nextReleaseRun_far hf] at hhigh
    omega

/-- Settles O44: with and without a peer candidate, by the holdover count and the lock run. -/
theorem roundEndInAcquire : Obligations.RoundEndInAcquire := by
  intro s hout hround hacquire hkept
  have hk := (TimeInvariants.timeKept_iff s).mp hkept
  have hall : s.endRound.settleIrq.timebase = _ := endRound_timebase s
  by_cases hvalues : s.peerValues = []
  · have happly := applyRound_alone hvalues (by simp [hacquire])
    rw [happly] at hall
    have hjournal := silent_journaledIn (s := s) (by rw [happly]; exact holdOver_timebase_alone s)
    have hcases : s.holdOver.timebase.releaseRun = 0 ∧
        s.holdOver.timebase.slewRemainder = s.timebase.slewRemainder ∧
        s.holdOver.timebase.correction = s.timebase.correction ∧ s.holdOver.timebase.lockRun = 0 ∧
        (s.timebase.holdover < 7 → s.holdOver.timebase.timeState = .acquire ∧
          s.holdOver.timebase.holdover = s.timebase.holdover + 1) ∧
        (s.timebase.holdover = 7 → s.holdOver.timebase.timeState = .free ∧ s.holdOver.timebase.holdover = 0) := by
      rcases Nat.lt_or_ge s.timebase.holdover 7 with hlow | hhigh
      · rw [holdOver_below hlow]
        exact ⟨rfl, rfl, rfl, rfl, fun _ => ⟨hacquire, rfl⟩, fun h => by omega⟩
      · have hlast : s.timebase.holdover = 7 := by
          have : s.timebase.holdover < 8 := hk.holdover
          omega
        rw [holdOver_last hlast]
        exact ⟨rfl, if_neg (by simp [hacquire]), rfl, rfl, fun h => by omega, fun _ => ⟨rfl, rfl⟩⟩
    obtain ⟨h1, h2, h3, h4, h5, h6⟩ := hcases
    refine ⟨_, exec_roundEnd hout hround, endRound_advances s, ?_, ?_,
      fun _ => ⟨?_, ?_, hjournal, ?_, ?_⟩, fun h => absurd hvalues h⟩ <;> rw [hall] <;> assumption
  · obtain ⟨state, run, hround', hfar, hnear⟩ := acquireRound_cases s.roundAdjustment hacquire hk.lockRun
    have happly : s.applyRound = (s.acquireRound s.roundAdjustment).noteStep s.roundAdjustment := by
      rw [State.applyRound, if_neg (by simpa using hvalues)]
      simp only [hacquire]
    have hbase : s.applyRound.timebase = (s.acquireRound s.roundAdjustment).timebase := by
      rw [happly, State.noteStep_timebase]
    have hend : s.endRound.settleIrq =
        ((s.acquireRound s.roundAdjustment).noteStep s.roundAdjustment).nextRound.settleIrq := by
      rw [State.endRound, happly]
    obtain ⟨hzero, hstep⟩ := noteStep_tells (s := s) (by rw [hround']) hend
    rw [hbase, hround'] at hall
    have hstate : (s.acquireRound s.roundAdjustment).timebase.timeState = s.endRound.settleIrq.timebase.timeState := by
      rw [hall, hround']
    rw [hstate] at hstep
    refine ⟨_, exec_roundEnd hout hround, endRound_advances s, by rw [hall], by rw [hall],
      fun h => absurd h hvalues, fun _ => ⟨by rw [hall]; rfl, by rw [hall], fun h => ?_, fun h => ?_, hzero, hstep⟩⟩
    · rw [hall]; exact hfar h
    · rw [hall]; exact hnear h

/-- Settles O45: with and without a peer candidate, by the holdover count and the release run. -/
theorem roundEndInLocked : Obligations.RoundEndInLocked := by
  intro s hout hround hlocked hkept
  have hk := (TimeInvariants.timeKept_iff s).mp hkept
  have hall : s.endRound.settleIrq.timebase = _ := endRound_timebase s
  by_cases hvalues : s.peerValues = []
  · have happly := applyRound_alone hvalues (by simp [hlocked])
    rw [happly] at hall
    have hjournal := silent_journaledIn (s := s) (by rw [happly]; exact holdOver_timebase_alone s)
    have hcases : s.holdOver.timebase.correction = s.timebase.correction ∧ s.holdOver.timebase.lockRun = 0 ∧
        s.holdOver.timebase.releaseRun = 0 ∧
        (s.timebase.holdover < 7 → s.holdOver.timebase.timeState = .locked ∧
          s.holdOver.timebase.holdover = s.timebase.holdover + 1 ∧
          s.holdOver.timebase.slewRemainder = s.timebase.slewRemainder) ∧
        (s.timebase.holdover = 7 → s.holdOver.timebase.timeState = .free ∧ s.holdOver.timebase.holdover = 0 ∧
          s.holdOver.timebase.slewRemainder = 0) := by
      rcases Nat.lt_or_ge s.timebase.holdover 7 with hlow | hhigh
      · rw [holdOver_below hlow]
        exact ⟨rfl, rfl, rfl, fun _ => ⟨hlocked, rfl, rfl⟩, fun h => by omega⟩
      · have hlast : s.timebase.holdover = 7 := by
          have : s.timebase.holdover < 8 := hk.holdover
          omega
        rw [holdOver_last hlast]
        exact ⟨rfl, rfl, rfl, fun h => by omega, fun _ => ⟨rfl, rfl, if_pos hlocked⟩⟩
    obtain ⟨h1, h2, h3, h4, h5⟩ := hcases
    refine ⟨_, exec_roundEnd hout hround, endRound_advances s, ?_, ?_, hjournal,
      fun _ => ⟨?_, ?_, ?_⟩, fun h => absurd hvalues h⟩ <;> rw [hall] <;> assumption
  · obtain ⟨state, run, remainder, hround', hnear, hfar, hreleases, hslew⟩ :=
      lockedRound_cases s.roundAdjustment hlocked hk.releaseRun
    have happly : s.applyRound = s.lockedRound s.roundAdjustment := by
      rw [State.applyRound, if_neg (by simpa using hvalues)]
      simp only [hlocked]
    have hjournal := silent_journaledIn (s := s) (by rw [happly, hround'])
    rw [happly, hround'] at hall
    refine ⟨_, exec_roundEnd hout hround, endRound_advances s, by rw [hall], by rw [hall], hjournal,
      fun h => absurd h hvalues, fun _ => ⟨by rw [hall], ?_, ?_, ?_, fun h => ?_⟩⟩
    · rw [hall]; exact hnear
    · rw [hall]; exact hfar
    · rw [hall]; exact hreleases
    · rw [hall] at h ⊢
      refine (hslew h).trans ?_
      rw [clampTo, Nat.cast_mul]
      rfl

end Sys2Proof.TimeRules
end

section
namespace Sys2Proof.RepairRules

open Sys2Proof Sys2Proof.Machine

/-! ### Declarations of loss (R8, R80) -/

theorem add_one_add_ofNat (a : Seq) (n : Nat) : a + 1 + BitVec.ofNat 16 n = a + BitVec.ofNat 16 (n + 1) := by
  bv_omega

theorem seqRuns_append (seqs : List Seq) : (seqRuns seqs).flatMap (fun run => seqRange run.1 run.2) = seqs := by
  induction seqs with
  | nil => rfl
  | cons a rest ih =>
    rw [seqRuns]
    split
    · rename_i b n more hrest
      rw [hrest, List.flatMap_cons] at ih
      split
      · rename_i hnext
        rw [List.flatMap_cons, seqRange, List.cons_append, ← hnext, ih]
      · rw [List.flatMap_cons, List.flatMap_cons, ih]
        rfl
    · rename_i hnone
      rw [hnone] at ih
      rw [← ih]
      rfl

theorem seqRuns_pos (seqs : List Seq) : ∀ run ∈ seqRuns seqs, 1 ≤ run.2 := by
  induction seqs with
  | nil => exact fun _ h => nomatch h
  | cons a rest ih =>
    rw [seqRuns]
    split
    · rename_i b n more hrest
      rw [hrest, List.forall_mem_cons] at ih
      split
      · exact List.forall_mem_cons.mpr ⟨Nat.succ_pos n, ih.2⟩
      · exact List.forall_mem_cons.mpr ⟨Nat.le_refl 1, List.forall_mem_cons.mpr ih⟩
    · exact List.forall_mem_cons.mpr ⟨Nat.le_refl 1, fun _ h => nomatch h⟩

/-- No run goes on where the next one begins. -/
theorem seqRuns_maximal (seqs : List Seq) :
    (seqRuns seqs).IsChain (fun a b => b.1 ≠ a.1 + BitVec.ofNat 16 a.2) := by
  induction seqs with
  | nil => exact .nil
  | cons a rest ih =>
    rw [seqRuns]
    split
    · rename_i b n more hrest
      rw [hrest] at ih
      split
      · rename_i hnext
        cases more with
        | nil => exact .singleton _
        | cons c more =>
          obtain ⟨hc, hmore⟩ := List.isChain_cons_cons.mp ih
          refine List.isChain_cons_cons.mpr ⟨fun h => hc ?_, hmore⟩
          rw [h, hnext, add_one_add_ofNat]
      · rename_i hgap
        exact List.isChain_cons_cons.mpr ⟨hgap, ih⟩
    · exact .singleton _

theorem isChain_middle {α : Type} {R : α → α → Prop} {front behind : List α} {a b : α}
    (h : (front ++ a :: b :: behind).IsChain R) : R a b :=
  (List.isChain_cons_cons.mp (List.isChain_append.mp h).2.1).1

theorem note_now (s : State) (d : Detail) : (s.note d).now = s.now := by
  rw [State.now, State.now, State.note_timebase]

/-- The notes of a declaration, all stamped with the same time. -/
theorem declareRuns_eq (s : State) (p : Station) (cause : GapCause) (seqs : List Seq) :
    s.declareRuns p cause seqs = (seqRuns seqs).foldl (fun t run => t.countNote.offer
      { origin := 0, seq := t.journal.noteCounter, stamp := s.now, quality := s.timebase.timeState,
        detail := .gap p run.1 (BitVec.ofNat 16 (min run.2 65535)) cause } false) s := by
  have hfold (runs : List (Seq × Nat)) : ∀ t : State, t.now = s.now → t.timebase = s.timebase →
      runs.foldl (fun t run => t.note (.gap p run.1 (satCount run.2) cause)) t =
        runs.foldl (fun t run => t.countNote.offer
          { origin := 0, seq := t.journal.noteCounter, stamp := s.now, quality := s.timebase.timeState,
            detail := .gap p run.1 (BitVec.ofNat 16 (min run.2 65535)) cause } false) t := by
    induction runs with
    | nil => exact fun _ _ _ => rfl
    | cons run runs ih =>
      intro t hnow htime
      rw [List.foldl_cons, List.foldl_cons,
        ih _ ((note_now t _).trans hnow) ((State.note_timebase t _).trans htime), State.note, State.makeNote, hnow, htime]
      rfl
  exact hfold _ s rfl rfl

theorem declareRuns_noteCounter (s : State) (p : Station) (cause : GapCause) (seqs : List Seq) :
    (s.declareRuns p cause seqs).journal.noteCounter =
      s.journal.noteCounter + BitVec.ofNat 16 (seqRuns seqs).length := by
  unfold State.declareRuns
  induction seqRuns seqs generalizing s with
  | nil => simp
  | cons run runs ih =>
    rw [List.foldl_cons, ih, State.note, (State.offer_journal _ _ _).2.1, State.countNote_noteCounter,
      add_one_add_ofNat, List.length_cons]

/-- Settles O47: the runs by induction on the sequences, the notes by induction on the runs. -/
theorem gapNotesNameMaximalRuns : Obligations.GapNotesNameMaximalRuns := by
  refine fun seqs => ⟨seqRuns_append seqs, seqRuns_pos seqs, fun front a b behind h => ?_,
    fun p cause s => ⟨declareRuns_eq s p cause seqs, declareRuns_noteCounter s p cause seqs⟩⟩
  have hchain := seqRuns_maximal seqs
  rw [h] at hchain
  exact isChain_middle (R := fun (a b : Seq × Nat) => b.1 ≠ a.1 + BitVec.ofNat 16 a.2) hchain

/-! ### The timers of peers and repair (R50, R78, R86) -/

theorem repairTimer_ranOut_iff (t : RepairTimer) : t.ranOut = true ↔ t = .timing 0 := by
  cases t <;> simp [RepairTimer.ranOut]

/-- R78: an entry at the expiry of its peer. -/
theorem expired_entry (s : State) (m : Missing) : (if s.exhausted m then none else some (s.dueAgain m)) =
    if m.timer ≠ .timing 0 then some m
    else if s.control.config.retries ≤ m.tries then none
    else if s.control.lifecycle = .running then some { m with timer := .due 0, heard := false }
    else some { m with tries := m.tries + 1, timer := .timing (s.control.config.ri * 1000), heard := false } := by
  by_cases hran : m.timer = .timing 0
  · have hout := (repairTimer_ranOut_iff _).mpr hran
    by_cases hspent : s.control.config.retries ≤ m.tries
    · rw [if_pos (by simp [State.exhausted, hout, hspent]), if_neg (by simpa using hran), if_pos hspent]
    · have hleft : m.tries < s.control.config.retries := by omega
      rw [if_neg (by simp [State.exhausted, hspent]), if_neg (by simpa using hran), if_neg hspent, State.dueAgain,
        if_pos (by simp [hout, hleft]), State.whenDue]
      by_cases hrun : s.control.lifecycle = .running
      · rw [if_pos (by simpa [State.running] using hrun), if_pos hrun]
      · rw [if_neg (by simpa [State.running] using hrun), if_neg hrun]
        rfl
  · have hnot : m.timer.ranOut = false := by
      rw [← Bool.not_eq_true, repairTimer_ranOut_iff]
      exact hran
    simp [State.exhausted, State.dueAgain, hnot, hran]

theorem map_filter_not {α β : Type} (f : α → β) (gone : α → Bool) (xs : List α) :
    (xs.filter (fun x => !gone x)).map f = xs.filterMap (fun x => if gone x then none else some (f x)) := by
  induction xs with
  | nil => rfl
  | cons x xs ih => cases h : gone x <;> simp [h, ih]

theorem endDelay_eq (p : Station) (q : Seq) (e : ProxyEntry) :
    e.endDelay p q = if e = ⟨p, q, .timing 0⟩ then ⟨p, q, .due 0⟩ else e := by
  obtain ⟨subject, seq, timer⟩ := e
  rw [ProxyEntry.endDelay]
  by_cases h : subject = p ∧ seq = q ∧ timer = .timing 0
  · obtain ⟨rfl, rfl, rfl⟩ := h
    simp [RepairTimer.ranOut]
  · rw [if_neg (by simpa [repairTimer_ranOut_iff, and_assoc] using h), if_neg (by simpa using h)]

/-- Settles O46: each expiry where its timer has run out. -/
theorem peerTimersExpire : Obligations.PeerTimersExpire := by
  refine ⟨fun p s hout hactive htimer => ?_, fun p s hout hran => ?_, fun p q s hs hout hmem => ?_⟩
  · have hexec : exec (.silenceExpiry p) s = commit (s.silencePeer p) :=
      if_pos (by simp [State.silenceDue, hout, hactive, htimer, ranOut])
    have hpeers : (s.silencePeer p).peers =
        (s.setPeer p { s.peer p with state := .silent, silenceTimer := none }).peers := by
      rw [State.silencePeer, State.computeHorizon_peers, State.note_peers]
    have hframe := s.silencePeer_frame p
    have hoffer : s.silencePeer p = (({ s with peers := (s.silencePeer p).peers } : State).countNote.offer
        { origin := 0, seq := s.journal.noteCounter, stamp := s.now, quality := s.timebase.timeState,
          detail := .peerDown p ((s.peer p).numbering.map (·.next)) } false).computeHorizon := by
      rw [hpeers]
      rfl
    generalize s.silencePeer p = u at hexec hpeers hframe hoffer
    refine ⟨_, hexec, ?_, fun q hq => ?_, ?_, State.changesOnly_trans (State.changesOnly_mono hframe
      (by decide)) (State.changesOnly_mono (State.settleIrq_frame _) (by decide))⟩
    · show u.peer p = _
      rw [State.peer_congr hpeers, State.peer_setPeer_same]
    · show u.peer q = _
      rw [State.peer_congr hpeers, State.peer_setPeer_other _ _ _ _ hq]
    · show (State.computeHorizon (State.offer (State.countNote { s with peers := u.peers }) _ _)).journaledIn _
      rw [← hoffer]
      exact (State.agrees_refl u).journaledIn
  · have hexec : exec (.repairTimerExpiry p) s = commit (s.expireMissing p) :=
      if_pos (by
        obtain ⟨m, hm, ht⟩ := hran
        simp only [State.repairDue, hout, Bool.not_false, Bool.true_and, List.any_eq_true]
        exact ⟨m, hm, (repairTimer_ranOut_iff _).mpr ht⟩)
    have hgone : ((s.missing p).filter (fun m =>
        decide (m.timer = .timing 0) && decide (s.control.config.retries ≤ m.tries))) =
          (s.missing p).filter s.exhausted := by
      congr 1
      funext m
      rw [State.exhausted]
      congr 1
      exact Bool.eq_iff_iff.mpr (by rw [decide_eq_true_iff, repairTimer_ranOut_iff])
    have hrepair : (s.declareLost p .exhausted s.exhausted).repair.originAnswers = s.repair.originAnswers ∧
        (s.declareLost p .exhausted s.exhausted).repair.proxy = s.repair.proxy := by
      rw [State.declareLost_repair]
      exact ⟨rfl, rfl⟩
    refine ⟨_, hexec, ?_, fun q hq => ?_, hrepair.1, hrepair.2, ?_, State.changesOnly_trans
      (State.changesOnly_mono (s.expireMissing_frame p) (by decide)) (State.changesOnly_mono (State.settleIrq_frame _) (by decide))⟩
    · refine (s.expireMissing_missing p p).trans ?_
      rw [if_pos rfl, map_filter_not]
      congr 1
      funext m
      exact expired_entry s m
    · exact (s.expireMissing_missing p q).trans (if_neg hq)
    · rw [hgone]
      exact ((s.declareLost_agrees p .exhausted s.exhausted).trans (State.setMissing_agrees _ _ _)).journaledIn
  · have hexec : exec (.proxyDelayExpiry p q) s = commit (s.endProxyDelay p q) :=
      if_pos (by
        simp only [State.proxyDue, hout, Bool.not_false, Bool.true_and, List.any_eq_true]
        exact ⟨_, hmem, by simp [RepairTimer.ranOut]⟩)
    have hkept : (s.endProxyDelay p q).IrqKept := hs
    rw [hexec, HostRules.commit_of_kept hkept, State.endProxyDelay, funext (endDelay_eq p q)]

end Sys2Proof.RepairRules
end

section
namespace Sys2Proof.LineRules

open Sys2Proof Sys2Proof.Machine

theorem irqKept_of_frame {s t : State} {bs : List Block} (h : s.IrqKept) (hf : s.changesOnly t bs)
    (hb : ∀ b ∈ [Block.control, .journal, .host], b ∉ bs) : t.IrqKept := by
  have hcontrol : t.control = s.control := hf .control (hb _ (by decide))
  have hhost : t.host = s.host := hf .host (hb _ (by decide))
  exact PortInvariants.irqKept_of_same h (congrArg Control.inForce hcontrol) (congrArg Control.config hcontrol)
    (hf .journal (hb _ (by decide))) (by rw [hhost]; exact ⟨rfl, rfl, rfl⟩)

/-- A command that leaves what IRQ depends on leaves IRQ. -/
theorem commit_of_frame {s t : State} {bs : List Block} (h : s.IrqKept) (hf : s.changesOnly t bs)
    (hb : ∀ b ∈ [Block.control, .journal, .host], b ∉ bs) : commit t = .next t :=
  HostRules.commit_of_kept (irqKept_of_frame h hf hb)

theorem receiving_iff (s : State) : s.receiving = true ↔
    s.inReset = false ∧ s.line.rx = .receiving ∧ s.line.tx = .free := by
  simp [State.receiving, and_assoc]

/-! ### What a row tells of the runs (R142) -/

theorem countRun_runs (l : LineControl) (level : Bool) :
    (l.countRun level).releasedRun = (if level then l.releasedRun + 1 else 0) ∧
      (l.countRun level).drivenRun = (if level then 0 else l.drivenRun + 1) := by
  cases level <;> exact ⟨rfl, rfl⟩

/-- Over some bits a run grows by at most their number. -/
theorem countRuns_le (bits : List Bool) (l : LineControl) :
    (bits.foldl LineControl.countRun l).releasedRun ≤ l.releasedRun + bits.length ∧
      (bits.foldl LineControl.countRun l).drivenRun ≤ l.drivenRun + bits.length := by
  induction bits generalizing l with
  | nil => exact ⟨Nat.le_refl _, Nat.le_refl _⟩
  | cons b bits ih =>
    obtain ⟨hr, hd⟩ := ih (l.countRun b)
    obtain ⟨hr', hd'⟩ := countRun_runs l b
    rw [hr'] at hr
    rw [hd'] at hd
    rw [List.foldl_cons, List.length_cons]
    cases b <;> simp only [Bool.false_eq_true, if_false, if_true] at hr hd <;> omega

/-- Ten bits from a start bit on. -/
theorem runOver_ten (l : LineControl) {bits : List Bool} (h : bits.length = 9) :
    (l.runOver (false :: bits)).releasedRun ≤ 9 ∧ (l.runOver (false :: bits)).drivenRun ≤ 10 := by
  obtain ⟨hr, hd⟩ := countRuns_le bits (LineControl.countRun { l with releasedRun := 0, drivenRun := 0 } false)
  rw [h] at hr hd
  refine ⟨hr.trans (by simp [LineControl.countRun]), hd.trans (by simp [LineControl.countRun])⟩

/-! ### The start of a frame (R141, R143) -/

theorem startOfFrame_idle {s : State} {levels : List Bool} (hs : s.IrqKept) (hout : s.inReset = false)
    (hidle : s.line.rx = .idle) : exec (.startOfFrame levels) s = .next { s with
      line := { s.line with
        rx := .receiving, echo := false, releasedRun := 0, drivenRun := 0, bitPhase := 0,
        bits := [], bytes := [], driving := false }
      medium := if s.medium.level then ⟨false, levels, levels.isEmpty⟩ else s.medium
      timebase := { s.timebase with sofCounter := s.timebase.localCounter } } := by
  have hexec : exec (.startOfFrame levels) s =
      commit ((if s.medium.level then s.othersDrive levels else s).beginReception false) :=
    if_pos (by simp [hout, hidle])
  rw [hexec]
  cases hlevel : s.medium.level with
  | false => exact HostRules.commit_of_kept hs
  | true => exact HostRules.commit_of_kept hs

theorem findBoundary_line (s : State) : s.findBoundary = { s with
    line := if s.line.tx = .free ∧ s.line.bits = [] ∧ s.line.driving = false ∧ s.medium.level = true
      then { s.line with
        releasedRun := if s.control.bitRate.middle ≤ s.line.bitPhase
          then s.line.releasedRun - 1 else s.line.releasedRun,
        bitPhase := 0 }
      else s.line } := by
  have hfound : (s.line.tx == .free && s.line.bits.isEmpty && s.lrx) = true ↔
      s.line.tx = .free ∧ s.line.bits = [] ∧ s.line.driving = false ∧ s.medium.level = true := by
    rw [Bool.and_eq_true, Bool.and_eq_true, beq_iff_eq, List.isEmpty_iff, and_assoc, State.lrx, lineLevel,
      Bool.and_eq_true, State.ltx]
    refine and_congr_right fun hfree => ?_
    rw [hfree]
    simp
  unfold State.findBoundary
  by_cases h : s.line.tx = .free ∧ s.line.bits = [] ∧ s.line.driving = false ∧ s.medium.level = true
  · rw [if_pos (hfound.mpr h), if_pos h]
    simp [State.releasedTimes, State.bitRead]
  · rw [if_neg (fun hf => h (hfound.mp hf)), if_neg h]

theorem startOfFrame_elsewhere {s : State} {levels : List Bool} (hs : s.IrqKept)
    (helse : s.inReset = true ∨ s.line.rx ≠ .idle) :
    (levels = [] → exec (.startOfFrame levels) s = .next s) ∧
    (levels ≠ [] → exec (.startOfFrame levels) s = .next { s with
      line := if s.line.tx = .free ∧ s.line.bits = [] ∧ s.line.driving = false ∧ s.medium.level = true
        then { s.line with
          releasedRun := if s.control.bitRate.middle ≤ s.line.bitPhase
            then s.line.releasedRun - 1 else s.line.releasedRun,
          bitPhase := 0 }
        else s.line
      medium := ⟨false, levels, false⟩ }) := by
  have hnot : ¬ (!s.inReset && s.line.rx == .idle) = true := by
    rcases helse with h | h <;> simp [h]
  have hexec : exec (.startOfFrame levels) s =
      if levels.isEmpty then notTaken s else commit (s.findBoundary.othersDrive levels) := if_neg hnot
  refine ⟨fun hnil => by rw [hexec, hnil]; rfl, fun hsome => ?_⟩
  have huntold : levels.isEmpty = false := by simpa using hsome
  rw [hexec, if_neg (by simp [huntold]), findBoundary_line, State.othersDrive, huntold]
  exact HostRules.commit_of_kept hs

/-! ### Runs of the line (R143, R144, R153) -/

theorem holdBackClear_due {s : State} (hs : s.IrqKept) (hout : s.inReset = false) (hidle : s.line.rx = .idle)
    (hrun : 24 < s.line.releasedRun ∨
      (24 = s.line.releasedRun ∧ s.line.bitPhase < s.control.bitRate.middle)) :
    exec .holdBackClear s = .next { s with line := { s.line with holdBack := false } } := by
  have htimes : 24 ≤ s.releasedTimes := by
    unfold State.releasedTimes State.bitRead
    split
    · rename_i hread
      have := of_decide_eq_true hread
      omega
    · omega
  have hexec : exec .holdBackClear s = commit { s with line := { s.line with holdBack := false } } :=
    if_pos (by simp [State.holdBackOver, hout, hidle, Config.holdBackBits, htimes])
  rw [hexec]
  exact HostRules.commit_of_kept hs

theorem exec_lineStuck {s : State} (hs : s.IrqKept) (hout : s.inReset = false) (hfree : s.line.tx = .free)
    (hclear : s.line.stuck = false) : exec .lineStuck s = .next { s with
      line := { s.line with
        stuck := true, rx := .waiting, echo := false, bits := [], bytes := [],
        releasedRun := if 100 < s.line.drivenRun then s.line.releasedRun else 0,
        drivenRun := if 100 < s.line.drivenRun then s.line.drivenRun else 101,
        bitPhase := if 100 < s.line.drivenRun then s.line.bitPhase else s.justRead,
        driving := decide (100 < s.line.drivenRun) && s.line.driving }
      medium := if 100 < s.line.drivenRun then s.medium else ⟨false, [], false⟩ } := by
  have hexec : exec .lineStuck s = commit s.stickLine := if_pos (by simp [hout, hfree, hclear])
  rw [hexec, commit_of_frame hs s.stickLine_frame (by decide), State.stickLine, State.toldRuns, LineControl.stuckRead]
  by_cases h : 100 < s.line.drivenRun <;> simp [Config.stuckBits, h]

theorem exec_lineStuckClear {s : State} (hs : s.IrqKept) (hout : s.inReset = false) (hstuck : s.line.stuck = true) :
    exec .lineStuckClear s = .next { s with
      line := { s.line with
        stuck := false,
        releasedRun := if 1 ≤ s.line.releasedRun then s.line.releasedRun else 1,
        drivenRun := if 1 ≤ s.line.releasedRun then s.line.drivenRun else 0,
        bitPhase := if 1 ≤ s.line.releasedRun then s.line.bitPhase else s.justRead,
        driving := decide (1 ≤ s.line.releasedRun) && s.line.driving }
      medium := if 1 ≤ s.line.releasedRun then s.medium else ⟨true, [], false⟩ } := by
  have hexec : exec .lineStuckClear s = commit s.freeLine := if_pos (by simp [hout, hstuck])
  rw [hexec, commit_of_frame hs s.freeLine_frame (by decide), State.freeLine, State.toldRuns]
  by_cases h : 1 ≤ s.line.releasedRun
  · simp only [h, decide_true, if_true, Bool.true_and]
  · simp only [h, decide_false, if_false, Bool.false_and, Bool.false_eq_true]
    rfl

theorem gapRead_iff (s : State) : s.gapRead = true ↔ 12 < s.line.releasedRun ∨
    (12 = s.line.releasedRun ∧ s.line.bitPhase < s.control.bitRate.middle) := by
  unfold State.gapRead State.releasedTimes State.bitRead Config.idleGapBits
  rw [decide_eq_true_iff]
  split
  · rename_i hread
    have := of_decide_eq_true hread
    omega
  · rename_i hread
    rw [decide_eq_true_iff] at hread
    omega

theorem exec_idleGap {s : State} (hs : s.IrqKept) (hout : s.inReset = false) (hfree : s.line.tx = .free)
    (hclear : s.line.stuck = false) (hbusy : s.line.rx ≠ .idle) {read : Bool} (hread : s.gapRead = read) :
    exec .idleGap s = .next { s with
      line := { s.line with
        rx := .idle, echo := false, bits := [], bytes := [],
        releasedRun := if read then s.line.releasedRun else 12,
        drivenRun := if read then s.line.drivenRun else 0,
        bitPhase := if read then s.line.bitPhase else 0, driving := false }
      medium := if read then s.medium else ⟨true, [], false⟩
      counters := if s.line.rx = .receiving ∧ s.line.echo = false
        then { s.counters with truncated := satInc s.counters.truncated } else s.counters } := by
  have hexec : exec .idleGap s = commit s.showIdleGap := if_pos (by simp [hout, hfree, hclear, hbusy])
  have hcounted : (s.line.rx == .receiving && !s.line.echo) = true ↔
      s.line.rx = .receiving ∧ s.line.echo = false := by simp
  rw [hexec, commit_of_frame hs s.showIdleGap_frame (by decide), State.showIdleGap, State.toldRuns, hread]
  by_cases hc : s.line.rx = .receiving ∧ s.line.echo = false
  · simp only [if_pos (hcounted.mpr hc), if_pos hc]
    cases read <;> rfl
  · simp only [if_neg (fun h => hc (hcounted.mp h)), if_neg hc]
    cases read <;> rfl

/-! ### Frames that end early (R155, R159, R160) -/

theorem faultByte_iff (l : LineControl) (b : Byte) : (l.faultByte == some b) = true ↔
    l.bits.length = 10 ∧ l.bits.tail.take 8 = dataBits b := by
  rw [beq_iff_eq, LineControl.faultByte]
  by_cases h : l.bits.length = 10
  · rw [if_pos h, Option.some.injEq]
    have hlen : (l.bits.tail.take 8).length = 8 := by simp [h]
    exact ⟨fun hb => ⟨h, by rw [← hb, dataBits_byteOfBits hlen]⟩,
      fun hb => dataBits_injective (by rw [dataBits_byteOfBits hlen, hb.2])⟩
  · rw [if_neg h]
    exact ⟨nofun, fun hb => absurd hb.1 h⟩

theorem lengthRead_iff (l : LineControl) (len : Byte) : l.lengthRead len = true ↔ ∃ a k, l.bytes = [a, k, len] := by
  rw [LineControl.lengthRead, Bool.and_eq_true, beq_iff_eq, beq_iff_eq]
  constructor
  · rintro ⟨hlen, hthird⟩
    match l.bytes, hlen, hthird with
    | [a, k, c], _, hc =>
      cases hc
      exact ⟨a, k, rfl⟩
  · rintro ⟨a, k, h⟩
    rw [h]
    exact ⟨rfl, rfl⟩

/-- A frame discarded while it is read, after a row that tells ten bits. -/
theorem told_discard {s : State} (hs : s.IrqKept) {c : Instr} {read : Bool} {bits : List Bool} {m : Medium}
    (hexec : exec c s = commit (s.told read (false :: bits) m).discardFrame) (hbits : bits.length = 9) :
    ∃ t, exec c s = .next t ∧
      t.line = { s.line with
        rx := .waiting, echo := false, bits := [], bytes := [], bitPhase := t.line.bitPhase,
        releasedRun := t.line.releasedRun, drivenRun := t.line.drivenRun,
        driving := t.line.driving } ∧ t.line.driving = (read && s.line.driving) ∧
      (read = true → t.medium = s.medium ∧ t.line.bitPhase = s.line.bitPhase ∧
        t.line.releasedRun = s.line.releasedRun ∧ t.line.drivenRun = s.line.drivenRun) ∧
      (read = false → t.medium = m ∧ t.line.bitPhase = s.justRead ∧
        t.line.releasedRun ≤ 9 ∧ t.line.drivenRun ≤ 10) ∧
      t.counters = (if s.line.echo = false
        then { s.counters with formatErrors := satInc s.counters.formatErrors }
        else s.counters) ∧
      s.changesOnly t [.line, .medium, .counters] := by
  have hframe := s.told_discard_frame read (false :: bits) m
  refine ⟨_, by rw [hexec, commit_of_frame hs hframe (by decide)], ?_⟩
  refine and_assoc.mp (and_assoc.mp (and_assoc.mp (and_assoc.mp ⟨?_, hframe⟩)))
  have hdiscard (u : State) : u.discardFrame = { u.endReception with
      counters := if u.line.echo = false
        then { u.counters with formatErrors := satInc u.counters.formatErrors } else u.counters } := by
    rw [State.discardFrame]
    cases u.line.echo <;> rfl
  rw [hdiscard]
  cases read with
  | true => exact ⟨⟨⟨⟨rfl, rfl⟩, fun _ => ⟨rfl, rfl, rfl, rfl⟩⟩, nofun⟩, rfl⟩
  | false =>
    obtain ⟨released, driven, hruns⟩ := s.line.runOver_eq (false :: bits)
    obtain ⟨hr, hd⟩ := runOver_ten s.line hbits
    have htold : s.told false (false :: bits) m = { s with
        line := { s.line with releasedRun := released, drivenRun := driven, bitPhase := s.justRead, driving := false }
        medium := m } := by
      rw [State.told, hruns]
      rfl
    rw [hruns] at hr hd
    rw [htold]
    exact ⟨⟨⟨⟨rfl, rfl⟩, nofun⟩, fun _ => ⟨rfl, rfl, hr, hd⟩⟩, rfl⟩

/-- Settles O48: each event of the receiver by itself. -/
theorem receiverEvents : Obligations.ReceiverEvents := by
  refine ⟨fun s levels hs => ⟨startOfFrame_idle hs, startOfFrame_elsewhere hs⟩,
    fun s hs hout => ⟨holdBackClear_due hs hout, exec_lineStuck hs hout, exec_lineStuckClear hs hout⟩,
    fun s hs hout hfree => ⟨fun hclear hbusy read hread => ?_, fun hrx c read told hrow => ?_⟩⟩
  · exact exec_idleGap hs hout hfree hclear hbusy
      (Bool.eq_iff_iff.mpr ((gapRead_iff s).trans hread.symm))
  · have hreceiving := (receiving_iff s).mpr ⟨hout, hrx, hfree⟩
    rcases hrow with ⟨b, rfl, hread, rfl⟩ | ⟨len, hlen, rfl, hread, rfl⟩
    · have hexec : exec (.framingFault b) s = commit (s.faultFrame b) := if_pos hreceiving
      rw [State.faultFrame, Bool.eq_iff_iff.mpr ((faultByte_iff s.line b).trans hread.symm)] at hexec
      exact told_discard hs hexec rfl
    · have hexec : exec (.bodyLengthAbove57 len) s = commit (s.refuseLength len) :=
        if_pos (by simp [hreceiving, Config.bodyLimit, hlen])
      rw [State.refuseLength, Bool.eq_iff_iff.mpr ((lengthRead_iff s.line len).trans hread.symm)] at hexec
      exact told_discard hs hexec rfl

end Sys2Proof.LineRules
end

section
namespace Sys2Proof.LineRules

open Sys2Proof Sys2Proof.Machine

/-! ### Entry into QUIET (R175) -/

theorem enterQuiet_repair (s : State) (cause : QuietCause) : (s.enterQuiet cause).repair = s.quietRepair.repair := rfl

theorem spendIfDue_eq (s : State) (m : Missing) : s.spendIfDue m = if m.timer.isDue then
    { m with tries := m.tries + 1, timer := .timing (s.control.config.ri * 1000), heard := false } else m := rfl

/-- What entry into QUIET makes of `s`, after what leaves all of it but the line, the medium and the
counters. -/
theorem enterQuiet_quietened {s u : State} (cause : QuietCause) (hu : s.changesOnly u [.line, .medium, .counters])
    (hhold : u.line.holdBack = s.line.holdBack) (hstuck : u.line.stuck = s.line.stuck) :
    s.quietened cause (u.enterQuiet cause).settleIrq := by
  have hconfig : u.control = s.control := hu .control (by decide)
  have hline := LineInvariants.enterQuiet_line u cause
  have hcontrol := State.enterQuiet_control u cause
  have hanswers := enterQuiet_repair u cause
  have htime := LineInvariants.enterQuiet_timebase u cause
  have hmissing := State.enterQuiet_missing u cause
  have hhost := State.enterQuiet_host u cause
  generalize u.enterQuiet cause = t at *
  have hlevel : t.irqLevel = true := by
    rw [State.irqLevel, hhost]
    simp
  refine ⟨?_, ?_, ?_, ?_, ?_, ?_, ?_, ?_, ?_, ?_, fun p => ?_, ?_⟩
  · rw [State.settleIrq_control, hcontrol, hconfig]
  · rw [State.settleIrq_line, hline]; rfl
  · rw [State.settleIrq_line, hline]; rfl
  · rw [State.settleIrq_line, hline]; rfl
  · rw [State.settleIrq_line, hline]; rfl
  · rw [State.settleIrq_line, hline]; exact hhold
  · rw [State.settleIrq_line, hline]; exact hstuck
  · rw [State.settleIrq_timebase, htime, hu .timebase (by decide)]
  · rw [State.settleIrq_repair, hanswers]; rfl
  · rw [State.settleIrq_repair, hanswers]; rfl
  · show t.missing p = _
    rw [hmissing, State.missing_congr (hu .repair (by decide))]
    refine List.map_congr_left fun m _ => ?_
    rw [spendIfDue_eq, hconfig]
  · show ({ t.host with irq := t.irqLevel } : HostPort) = _
    rw [hlevel, hhost, hu .host (by decide)]

/-! ### The declared end of a frame (R156) -/

/-- The rows of whole frames are taken while the receiver reads; CRC_ERROR only where a check fails. -/
theorem exec_received {c : Instr} {raw : List Byte} {s : State} (hreceiving : s.receiving = true)
    (hbytes : frameBytes c = some raw) (hwell : c.wellFormed = true)
    (hfails : (∀ p f, checkFrame raw = .valid p f → c ≠ .crcError raw)) :
    exec c s = commit (s.takeFrame raw) := by
  have hguard : (s.receiving && c.wellFormed) = true := by rw [hreceiving, hwell]; rfl
  cases c <;> first | contradiction | (cases Option.some.inj hbytes)
  case crcError =>
    have hcheck : (checkFrame raw == .crcError || checkFrame raw == .formatError) = true := by
      cases h : checkFrame raw with
      | crcError => rfl
      | formatError => rfl
      | valid p f => exact absurd rfl (hfails p f h)
    exact if_pos (by rw [Bool.and_eq_true]; exact ⟨hguard, hcheck⟩)
  all_goals exact if_pos hguard

/-- The line after a frame that the station has read itself, or after its row. -/
theorem afterReception_line (s : State) (raw : List Byte) : (s.afterReception raw).line = { s.line with
    rx := .waiting, echo := false, bits := [], bytes := []
    bitPhase := (s.afterReception raw).line.bitPhase, releasedRun := (s.afterReception raw).line.releasedRun
    drivenRun := (s.afterReception raw).line.drivenRun
    driving := decide (raw = s.line.bytes) && s.line.driving } := by
  unfold State.afterReception State.told
  by_cases hread : s.line.bytes = raw
  · rw [if_pos (beq_iff_eq.mpr hread), decide_eq_true hread.symm, Bool.true_and]
    rfl
  · rw [if_neg (by simpa using hread), decide_eq_false (fun h => hread h.symm), Bool.false_and]
    obtain ⟨released, driven, hruns⟩ := s.line.runOver_eq (lineBits raw)
    simp only [State.endReception, hruns]

theorem afterReception_read {s : State} {raw : List Byte} (h : s.line.bytes = raw) :
    s.afterReception raw = s.endReception := by
  rw [State.afterReception, State.told, if_pos (beq_iff_eq.mpr h)]

/-- A byte leaves the line released, and no driven run. -/
theorem countByte_runs (b : Byte) (l : LineControl) :
    1 ≤ ((byteBits b).foldl LineControl.countRun l).releasedRun ∧
      ((byteBits b).foldl LineControl.countRun l).releasedRun ≤ 9 ∧
      ((byteBits b).foldl LineControl.countRun l).drivenRun = 0 := by
  have hdata := (countRuns_le (dataBits b) (l.countRun false)).1
  rw [byteBits, List.cons_append, List.foldl_cons, List.foldl_append, List.foldl_cons, List.foldl_nil]
  obtain ⟨hr, hd⟩ := countRun_runs ((dataBits b).foldl LineControl.countRun (l.countRun false)) true
  rw [hr, hd]
  rw [dataBits_length, (countRun_runs l false).1] at hdata
  simp only [if_true, Bool.false_eq_true, if_false] at hdata ⊢
  exact ⟨by omega, by omega, trivial⟩

theorem runOver_lineBits (l : LineControl) {raw : List Byte} (h : raw ≠ []) :
    1 ≤ (l.runOver (lineBits raw)).releasedRun ∧ (l.runOver (lineBits raw)).releasedRun ≤ 9 ∧
      (l.runOver (lineBits raw)).drivenRun = 0 := by
  obtain ⟨front, b, rfl⟩ : ∃ front b, raw = front ++ [b] := ⟨_, _, (List.dropLast_append_getLast h).symm⟩
  rw [LineControl.runOver, lineBits_append, List.foldl_append, show lineBits [b] = byteBits b from rfl]
  exact countByte_runs b _

/-- A frame told by its row leaves the line released. -/
theorem afterReception_told {s : State} {raw : List Byte} (h : s.line.bytes ≠ raw) (hraw : raw ≠ []) :
    (s.afterReception raw).medium = ⟨true, [], false⟩ ∧ (s.afterReception raw).line.bitPhase = s.justRead ∧
      1 ≤ (s.afterReception raw).line.releasedRun ∧ (s.afterReception raw).line.releasedRun ≤ 9 ∧
      (s.afterReception raw).line.drivenRun = 0 := by
  rw [State.afterReception, State.told, if_neg (by simpa using h)]
  exact ⟨rfl, rfl, runOver_lineBits s.line hraw⟩

theorem frameWhole_of_wellFormed {c : Instr} {raw : List Byte} (hbytes : frameBytes c = some raw)
    (hwell : c.wellFormed = true) : frameWhole raw = true := by
  cases c <;> first | contradiction | (cases Option.some.inj hbytes)
  case crcError => exact hwell
  all_goals exact (Bool.and_eq_true_iff.mp hwell).1

theorem ne_nil_of_frameWhole {raw : List Byte} (h : frameWhole raw = true) : raw ≠ [] := by
  rintro rfl
  simp [frameWhole] at h

/-! ### Frames that are discarded (R158 to R160) -/

theorem takeFrame_echo {s : State} (h : s.line.echo = true) (raw : List Byte) :
    s.takeFrame raw = s.afterReception raw := by
  rw [State.takeFrame, h]
  rfl

theorem takeFrame_checked {s : State} (h : s.line.echo = false) (raw : List Byte) :
    s.takeFrame raw = (s.afterReception raw).takeChecked (checkFrame raw) := by
  rw [State.takeFrame, h]
  rfl

theorem takeFrame_valid {s : State} (h : s.line.echo = false) {raw : List Byte} {p : Station} {f : Frame}
    (hcheck : checkFrame raw = .valid p f) : s.takeFrame raw = if s.own = some p then (s.afterReception raw).clash
      else if s.control.lifecycle == .unconfigured then s.afterReception raw
      else (s.afterReception raw).passOn p f := by
  have hcontrol := s.afterReception_control raw
  have hown : (s.afterReception raw).own = s.own := by rw [State.own, hcontrol]; rfl
  rw [takeFrame_checked h, hcheck]
  show (s.afterReception raw).takeValid p f = _
  rw [State.takeValid, hown, hcontrol]

theorem checkFrame_crcError {raw : List Byte}
    (h : raw.drop (raw.length - 2) ≠ bytes16 (crcOf (raw.take (raw.length - 2)))) : checkFrame raw = .crcError :=
  if_neg fun he => h he.symm

/-- Settles O49: the row of a frame with another CRC, by the effect of its declared end. -/
theorem crcErrorIsCountedAlone : Obligations.CrcErrorIsCountedAlone := by
  intro c raw s hs hhears hbytes hwell hcrc
  obtain ⟨hout, hrx, hfree, hecho⟩ := hhears
  have hcheck := checkFrame_crcError hcrc
  have hexec := exec_received ((receiving_iff s).mpr ⟨hout, hrx, hfree⟩) hbytes hwell
    (fun p f h => by rw [hcheck] at h; contradiction)
  have htake : s.takeFrame raw = (s.afterReception raw).countCrc := by
    rw [takeFrame_checked hecho, hcheck]
    rfl
  have hframe := s.afterReception_frame raw
  have hcount : s.changesOnly (s.afterReception raw).countCrc [.line, .medium, .counters] :=
    State.changesOnly_trans (State.changesOnly_mono hframe (by decide))
      (State.changesOnly_mono (State.setCounters_frame _ _) (by decide))
  have hdecide : decide (frameBytes c = some s.line.bytes) = decide (raw = s.line.bytes) := 
    decide_eq_decide.mpr (by rw [hbytes, Option.some.injEq])
  refine ⟨_, by rw [hexec, htake, commit_of_frame hs hcount (by decide)], ?_, ?_, hcount⟩
  · have hcounters : (s.afterReception raw).counters = s.counters := hframe .counters (by decide)
    rw [← hcounters]
    rfl
  · rw [hdecide]
    exact afterReception_line s raw

end Sys2Proof.LineRules
end

section
namespace Sys2Proof.LineRules

open Sys2Proof Sys2Proof.Machine

/-! ### What the declared end leaves of the line (R143, R156) -/

/-- The Line Controller and the line after a frame, whatever became of it. -/
theorem takeFrame_leaves (s : State) (raw : List Byte) :
    ((s.takeFrame raw).line = (s.afterReception raw).line ∨
        (s.takeFrame raw).line = (s.afterReception raw).line.quieten) ∧
      (s.takeFrame raw).medium = (s.afterReception raw).medium := by
  generalize s.afterReception raw = a, s.takeFrame_cases raw = h at *
  rcases h with h | h | h | ⟨-, -, h⟩ | ⟨p, f, -, -, -, -, h⟩ <;> rw [h]
  · exact ⟨.inl rfl, rfl⟩
  · exact ⟨.inl rfl, rfl⟩
  · exact ⟨.inl rfl, rfl⟩
  · exact ⟨.inr (LineInvariants.enterQuiet_line a _), a.enterQuiet_frame _ .medium (by decide)⟩
  · exact ⟨.inl (a.passOn_frame p f .line (by decide)), a.passOn_frame p f .medium (by decide)⟩

/-- A frame at its declared end, told by its row or read by the station. -/
def EndsFrame (s t : State) (raw : List Byte) : Prop :=
  t.line.rx = .waiting ∧ t.line.echo = false ∧ t.line.bits = [] ∧ t.line.bytes = [] ∧
    (t.line.driving = true → s.line.driving = true ∧ s.line.bytes = raw) ∧
    (s.line.bytes = raw → t.medium = s.medium ∧ t.line.bitPhase = s.line.bitPhase ∧
      t.line.releasedRun = s.line.releasedRun ∧ t.line.drivenRun = s.line.drivenRun) ∧
    (s.line.bytes ≠ raw → t.medium = ⟨true, [], false⟩ ∧ t.line.bitPhase = s.justRead ∧
      1 ≤ t.line.releasedRun ∧ t.line.releasedRun ≤ 9 ∧ t.line.drivenRun = 0)

theorem afterReception_ends (s : State) {raw : List Byte} (h : raw ≠ []) : EndsFrame s (s.afterReception raw) raw := by
  have hline := afterReception_line s raw
  refine ⟨by rw [hline], by rw [hline], by rw [hline], by rw [hline], fun hd => ?_, fun hread => ?_,
    fun htold => afterReception_told htold h⟩
  · rw [hline] at hd
    obtain ⟨hread, hd⟩ := Bool.and_eq_true_iff.mp hd
    exact ⟨hd, (of_decide_eq_true hread).symm⟩
  · rw [afterReception_read hread]
    exact ⟨rfl, rfl, rfl, rfl⟩

theorem EndsFrame.of_line {s a t : State} {raw : List Byte} (h : EndsFrame s a raw)
    (hl : t.line = a.line ∨ t.line = a.line.quieten) (hm : t.medium = a.medium) : EndsFrame s t raw := by
  rw [EndsFrame, hm]
  rcases hl with hl | hl <;> rw [hl]
  · exact h
  · obtain ⟨hrx, hecho, hbits, hbytes, -, hread, htold⟩ := h
    exact ⟨hrx, hecho, hbits, hbytes, nofun, hread, htold⟩

theorem takeFrame_ends (s : State) {raw : List Byte} (h : raw ≠ []) :
    EndsFrame s (s.takeFrame raw).settleIrq raw :=
  (afterReception_ends s h).of_line (takeFrame_leaves s raw).1 (takeFrame_leaves s raw).2

section
variable {c : Instr} {raw : List Byte} {s : State}

/-- The rows of a whole frame, by what the frame is. -/
theorem frame_row_outcomes (hout : s.inReset = false) (hrx : s.line.rx = .receiving) (hfree : s.line.tx = .free)
    (hbytes : frameBytes c = some raw) (hwell : c.wellFormed = true) :
    ((∀ p f, checkFrame raw = .valid p f → c ≠ .crcError raw) → ∃ t, exec c s = .next t ∧
      t.line.rx = .waiting ∧ t.line.echo = false ∧ t.line.bits = [] ∧ t.line.bytes = [] ∧
      (t.line.driving = true → s.line.driving = true ∧ s.line.bytes = raw) ∧
      (s.line.bytes = raw → t.medium = s.medium ∧ t.line.bitPhase = s.line.bitPhase ∧
        t.line.releasedRun = s.line.releasedRun ∧ t.line.drivenRun = s.line.drivenRun) ∧
      (s.line.bytes ≠ raw → t.medium = ⟨true, [], false⟩ ∧ t.line.bitPhase = s.justRead ∧
        1 ≤ t.line.releasedRun ∧ t.line.releasedRun ≤ 9 ∧ t.line.drivenRun = 0)) ∧
    (s.IrqKept → s.line.echo = true → (∀ p f, checkFrame raw = .valid p f → c ≠ .crcError raw) →
      ∃ t, exec c s = .next t ∧
      t.line = { s.line with
        rx := .waiting, echo := false, bits := [], bytes := [], bitPhase := t.line.bitPhase,
        releasedRun := t.line.releasedRun, drivenRun := t.line.drivenRun,
        driving := decide (frameBytes c = some s.line.bytes) && s.line.driving } ∧
      s.changesOnly t [.line, .medium]) ∧
    (s.IrqKept → s.line.echo = false → checkFrame raw = .formatError → ∃ t, exec c s = .next t ∧
      t.counters = { s.counters with formatErrors := satInc s.counters.formatErrors } ∧
      s.changesOnly t [.line, .medium, .counters]) ∧
    (∀ p f, s.line.echo = false → checkFrame raw = .valid p f → (∀ r, c ≠ .crcError r) →
      (s.IrqKept → s.control.lifecycle = .unconfigured ∨
          (s.own = some p ∧ s.control.lifecycle = .quiet) →
        ∃ t, exec c s = .next t ∧ s.changesOnly t [.line, .medium]) ∧
      (s.own = some p → s.control.lifecycle = .joining ∨ s.control.lifecycle = .running →
        ∃ t, exec c s = .next t ∧ s.quietened .clash t ∧ t.line.failures = s.line.failures ∧
          s.changesOnly t [.line, .medium, .control, .timebase, .repair, .host])) := by
  have hreceiving := (receiving_iff s).mpr ⟨hout, hrx, hfree⟩
  have hraw := ne_nil_of_frameWhole (frameWhole_of_wellFormed hbytes hwell)
  have hframe := s.afterReception_frame raw
  have hline := afterReception_line s raw
  refine ⟨fun hfails => ⟨_, exec_received hreceiving hbytes hwell hfails, takeFrame_ends s hraw⟩,
    fun hs hecho hfails => ?_, fun hs hecho hcheck => ?_, fun p f hecho hcheck hrow => ?_⟩
  · have hdecide : decide (frameBytes c = some s.line.bytes) = decide (raw = s.line.bytes) :=
      decide_eq_decide.mpr (by rw [hbytes, Option.some.injEq])
    refine ⟨_, ?_, ?_, hframe⟩
    · rw [exec_received hreceiving hbytes hwell hfails, takeFrame_echo hecho, commit_of_frame hs hframe (by decide)]
    · rw [hdecide]
      exact hline
  · have htake : s.takeFrame raw = (s.afterReception raw).countFormat := by
      rw [takeFrame_checked hecho, hcheck]
      rfl
    have hcount : s.changesOnly (s.afterReception raw).countFormat [.line, .medium, .counters] :=
      State.changesOnly_trans (State.changesOnly_mono hframe (by decide))
        (State.changesOnly_mono (State.setCounters_frame _ _) (by decide))
    refine ⟨_, ?_, ?_, hcount⟩
    · rw [exec_received hreceiving hbytes hwell (fun p f h => by rw [hcheck] at h; contradiction), htake,
        commit_of_frame hs hcount (by decide)]
    · have hcounters : (s.afterReception raw).counters = s.counters := hframe .counters (by decide)
      rw [← hcounters]
      rfl
  · have hexec := exec_received hreceiving hbytes hwell (fun _ _ _ => hrow raw)
    have htake := takeFrame_valid hecho hcheck
    have hcontrol := s.afterReception_control raw
    refine ⟨fun hs hdiscard => ⟨s.afterReception raw, ?_, hframe⟩, fun hown hl => ?_⟩
    · have hsame : s.takeFrame raw = s.afterReception raw := by
        rw [htake]
        rcases hdiscard with hl | ⟨hown, hl⟩
        · split
          · rw [State.clash, hcontrol, hl]
          · rw [if_pos (beq_iff_eq.mpr hl)]
        · rw [if_pos hown, State.clash, hcontrol, hl]
      rw [hexec, hsame, commit_of_frame hs hframe (by decide)]
    · have hclash : s.takeFrame raw = (s.afterReception raw).enterQuiet .clash := by
        rw [htake, if_pos hown, State.clash, hcontrol]
        rcases hl with hl | hl <;> rw [hl]
      have hquiet := (s.afterReception raw).enterQuiet_frame .clash
      have hfailures : ((s.afterReception raw).enterQuiet .clash).settleIrq.line.failures = s.line.failures := by
        rw [State.settleIrq_line, LineInvariants.enterQuiet_line, LineControl.quieten, hline]
      refine ⟨_, by rw [hexec, hclash]; rfl, enterQuiet_quietened .clash (State.changesOnly_mono hframe (by decide))
        (by rw [hline]) (by rw [hline]), hfailures, ?_⟩
      exact State.changesOnly_trans (State.changesOnly_mono hframe (by decide)) (State.changesOnly_trans
        (State.changesOnly_mono hquiet (by decide)) (State.changesOnly_mono (State.settleIrq_frame _) (by decide)))

end

end Sys2Proof.LineRules
end

section
namespace Sys2Proof.FormatRules

open Sys2Proof Sys2Proof.Machine

/-! ### Fields (R202) -/

theorem bytes16_word16 (a b : Byte) : bytes16 (word16 a b) = [a, b] := by
  unfold bytes16 word16
  rw [BitVec.extractLsb'_append_eq_left, BitVec.extractLsb'_append_eq_right]

theorem word16_bytes (w : BitVec 16) : word16 (w.extractLsb' 8 8) (w.extractLsb' 0 8) = w := by
  unfold word16
  apply BitVec.eq_of_getLsbD_eq
  intro i hi
  simp only [BitVec.getLsbD_append, BitVec.getLsbD_extractLsb']
  by_cases h : i < 8
  · simp [h]
  · have : 8 + (i - 8) = i := by omega
    simp [h, this]
    omega

theorem word16_toNat (a b : Byte) : (word16 a b).toNat = 256 * a.toNat + b.toNat := by
  have hb := b.isLt
  unfold word16
  rw [BitVec.toNat_append, Nat.shiftLeft_eq, Nat.mul_comm]
  exact (Nat.two_pow_add_eq_or_of_lt hb a.toNat).symm

theorem bytes48_word48 (a b c d e f : Byte) : bytes48 (word48 a b c d e f) = [a, b, c, d, e, f] := by
  unfold bytes48 word48
  simp only [List.cons.injEq, and_true]
  refine ⟨?_, ?_, ?_, ?_, ?_, ?_⟩ <;> apply BitVec.eq_of_getLsbD_eq <;> intro j hj <;>
    simp only [BitVec.getLsbD_append, BitVec.getLsbD_extractLsb', hj, decide_true, Bool.true_and] <;>
    interval_cases j <;> rfl

theorem word48_bytes (w : BitVec 48) : word48 (w.extractLsb' 40 8) (w.extractLsb' 32 8) (w.extractLsb' 24 8)
    (w.extractLsb' 16 8) (w.extractLsb' 8 8) (w.extractLsb' 0 8) = w := by
  unfold word48
  apply BitVec.eq_of_getLsbD_eq
  intro i hi
  simp only [BitVec.getLsbD_append, BitVec.getLsbD_extractLsb']
  interval_cases i <;> simp

theorem flagOf_eq_some_iff (b : Byte) (x : Bool) : flagOf b = some x ↔ b = flagByte x := by
  unfold flagOf flagByte
  cases x <;> split_ifs <;> simp_all

theorem flagFails_eq (b : Byte) : flagFails b = (flagOf b).isNone := by
  revert b; decide

theorem timeStateOf_eq_some_iff (b : Byte) (t : TimeState) : timeStateOf b = some t ↔ b = timeStateByte t := by
  unfold timeStateOf
  cases t <;> split_ifs <;> simp_all [timeStateByte, TimeState.code]

theorem timeStateOf_isNone (b : Byte) : (timeStateOf b).isNone = decide (2 < b.toNat) := by
  revert b; decide

theorem stationByte_toNat (p : Station) : (stationByte p).toNat = p.val + 1 := by
  have := p.isLt
  rw [stationByte, BitVec.toNat_ofNat, Nat.mod_eq_of_lt (by omega)]

theorem subjectOf_eq_some_iff (b : Byte) (p : Station) : subjectOf b = some p ↔ b = stationByte p := by
  have hp := p.isLt
  have hbyte : b = stationByte p ↔ b.toNat = p.val + 1 :=
    ⟨fun h => by rw [h, stationByte_toNat], fun h => BitVec.eq_of_toNat_eq (by rw [h, stationByte_toNat])⟩
  rw [hbyte]
  unfold subjectOf
  split
  · rw [Option.some.injEq, Fin.ext_iff]
    show b.toNat - 1 = p.val ↔ _
    omega
  · simp only [reduceCtorEq, false_iff]
    omega

theorem subjectFails_eq (b : Byte) : subjectFails b = (subjectOf b).isNone := by
  have hzero : (b == 0x00) = decide (b.toNat = 0) := by
    rw [Bool.eq_iff_iff, beq_iff_eq, decide_eq_true_iff]
    exact ⟨fun h => by rw [h]; rfl, fun h => BitVec.eq_of_toNat_eq h⟩
  unfold subjectFails subjectOf
  rw [hzero]
  split
  · rename_i h
    simp only [Option.isNone_some, Bool.or_eq_false_iff, decide_eq_false_iff_not]
    omega
  · rename_i h
    simp only [Option.isNone_none, Bool.or_eq_true, decide_eq_true_eq]
    omega

theorem siFails_eq (a b : Byte) : siFails a b = !siInRange (word16 a b) := by
  unfold siFails siInRange
  rw [word16_toNat, Bool.eq_iff_iff]
  simp only [Bool.or_eq_true, decide_eq_true_eq, bne_iff_ne, Bool.not_eq_true', Bool.and_eq_false_iff,
    decide_eq_false_iff_not, beq_eq_false_iff_ne]
  omega

/-! ### Sequences (R159, R203) -/

theorem parseSeqs_eq_some_iff (n : Nat) (bs : List Byte) (qs : List Seq) :
    parseSeqs n bs = some qs ↔ qs.length = n ∧ bs = qs.flatMap bytes16 := by
  induction n generalizing bs qs with
  | zero =>
    cases bs with
    | nil =>
      rw [parseSeqs, Option.some.injEq]
      exact ⟨fun h => h ▸ ⟨rfl, rfl⟩, fun h => (List.length_eq_zero_iff.mp h.1).symm⟩
    | cons a bs =>
      refine ⟨nofun, fun ⟨hn, h⟩ => ?_⟩
      rw [List.length_eq_zero_iff.mp hn] at h
      contradiction
  | succ n ih =>
    cases qs with
    | nil =>
      refine iff_of_false (fun h => ?_) nofun
      unfold parseSeqs at h
      split at h
      · contradiction
      · obtain ⟨_, -, h⟩ := Option.map_eq_some_iff.mp h
        contradiction
      · contradiction
    | cons q qs =>
      rw [List.length_cons, Nat.succ_inj, List.flatMap_cons]
      constructor
      · intro h
        unfold parseSeqs at h
        split at h
        · contradiction
        · rename_i a b rest heq
          obtain ⟨rs, hrs, hcons⟩ := Option.map_eq_some_iff.mp h
          obtain ⟨rfl, rfl⟩ := List.cons.inj hcons
          have := (ih rest rs).mp (by rw [← hrs, Nat.succ.inj heq])
          rw [bytes16_word16, ← this.2]
          exact ⟨this.1, rfl⟩
        · contradiction
      · rintro ⟨hlen, hbs⟩
        rw [hbs]
        show (parseSeqs n (qs.flatMap bytes16)).map _ = _
        rw [(ih _ qs).mpr ⟨hlen, rfl⟩, Option.map_some, word16_bytes]

theorem seqsOf_eq_some_iff (bs : List Byte) (qs : List Seq) : seqsOf bs = some qs ↔
    bs = BitVec.ofNat 8 qs.length :: qs.flatMap bytes16 ∧ 1 ≤ qs.length ∧ qs.length ≤ 8 ∧ qs.Nodup := by
  cases bs with
  | nil => simp [seqsOf]
  | cons count rest =>
    have hcond (rs : List Seq) : (1 ≤ count.toNat && count.toNat ≤ Config.frameSequences && decide rs.Nodup) = true ↔
        1 ≤ count.toNat ∧ count.toNat ≤ 8 ∧ rs.Nodup := by
      rw [Bool.and_eq_true, Bool.and_eq_true, decide_eq_true_iff, decide_eq_true_iff, decide_eq_true_iff, and_assoc]
      rfl
    rw [List.cons.injEq]
    constructor
    · intro h
      unfold seqsOf at h
      simp only at h
      split at h
      · rename_i rs hrs
        split at h
        · rename_i hc
          obtain ⟨hone, height, hnodup⟩ := (hcond rs).mp hc
          rw [← Option.some.inj h]
          obtain ⟨hlen, hrest⟩ := (parseSeqs_eq_some_iff _ _ _).mp hrs
          exact ⟨⟨BitVec.eq_of_toNat_eq (by simp [hlen]), hrest⟩, by omega, by omega, hnodup⟩
        · contradiction
      · contradiction
    · rintro ⟨⟨rfl, rfl⟩, hone, height, hnodup⟩
      have hcount : (BitVec.ofNat 8 qs.length).toNat = qs.length := by
        rw [BitVec.toNat_ofNat, Nat.mod_eq_of_lt (by omega)]
      have hparse := (parseSeqs_eq_some_iff qs.length (qs.flatMap bytes16) qs).mpr ⟨rfl, rfl⟩
      unfold seqsOf
      simp only [hcount, hparse]
      rw [if_pos]
      have := (hcond qs).mpr
      rw [hcount] at this
      exact this ⟨hone, height, hnodup⟩

theorem flatMap_bytes16_length (qs : List Seq) : (qs.flatMap bytes16).length = 2 * qs.length := by
  induction qs with
  | nil => rfl
  | cons q qs ih => rw [List.flatMap_cons, List.length_append, ih, List.length_cons]; show 2 + _ = _; omega

theorem flatMap_bytes16_getD (qs : List Seq) {i : Nat} (h : i < qs.length) :
    (qs.flatMap bytes16).getD (2 * i) 0 = qs[i].extractLsb' 8 8 ∧
      (qs.flatMap bytes16).getD (2 * i + 1) 0 = qs[i].extractLsb' 0 8 := by
  induction qs generalizing i with
  | nil => exact absurd h (Nat.not_lt_zero _)
  | cons q qs ih =>
    cases i with
    | zero => exact ⟨rfl, rfl⟩
    | succ i => exact ih (Nat.lt_of_succ_lt_succ h)

/-- The sequences that so many bytes are. -/
theorem exists_parseSeqs {n : Nat} {bs : List Byte} (h : bs.length = 2 * n) : ∃ qs : List Seq, qs.length = n ∧
    bs = qs.flatMap bytes16 := by
  induction n generalizing bs with
  | zero => exact ⟨[], rfl, List.length_eq_zero_iff.mp h⟩
  | succ n ih =>
    match bs, h with
    | a :: b :: rest, h =>
      obtain ⟨qs, hlen, hrest⟩ := ih (bs := rest) (by simp only [List.length_cons] at h; omega)
      exact ⟨word16 a b :: qs, by rw [List.length_cons, hlen], by rw [List.flatMap_cons, bytes16_word16, ← hrest]; rfl⟩

theorem namedTwice_iff (qs : List Seq) (count : Byte) :
    ((List.range qs.length).any (fun i => (List.range i).any (fun j =>
      (count :: qs.flatMap bytes16).getD (1 + 2 * i) 0 == (count :: qs.flatMap bytes16).getD (1 + 2 * j) 0 &&
        (count :: qs.flatMap bytes16).getD (2 + 2 * i) 0 == (count :: qs.flatMap bytes16).getD (2 + 2 * j) 0))) = true ↔
      ¬ qs.Nodup := by
  have hget {i : Nat} (h : i < qs.length) : (count :: qs.flatMap bytes16).getD (1 + 2 * i) 0 = qs[i].extractLsb' 8 8 ∧
      (count :: qs.flatMap bytes16).getD (2 + 2 * i) 0 = qs[i].extractLsb' 0 8 := by
    have := flatMap_bytes16_getD qs h
    rw [Nat.add_comm 1, show 2 + 2 * i = 2 * i + 1 + 1 by omega, List.getD_cons_succ, List.getD_cons_succ]
    exact this
  have hsame (a b : Seq) : (a.extractLsb' 8 8 = b.extractLsb' 8 8 ∧ a.extractLsb' 0 8 = b.extractLsb' 0 8) ↔ a = b :=
    ⟨fun ⟨h1, h2⟩ => by rw [← word16_bytes a, ← word16_bytes b, h1, h2], fun h => h ▸ ⟨rfl, rfl⟩⟩
  simp only [List.any_eq_true, List.mem_range, Bool.and_eq_true, beq_iff_eq]
  rw [List.Nodup, List.pairwise_iff_getElem]
  push Not
  constructor
  · rintro ⟨i, hi, j, hj, h⟩
    have hj' : j < qs.length := by omega
    rw [(hget hi).1, (hget hi).2, (hget hj').1, (hget hj').2, hsame] at h
    exact ⟨j, i, hj', hi, hj, h.symm⟩
  · rintro ⟨i, j, hi, hj, hij, h⟩
    refine ⟨j, hj, i, hij, ?_⟩
    rw [(hget hi).1, (hget hi).2, (hget hj).1, (hget hj).2, hsame]
    exact h.symm

theorem sequencesFail_eq (bs : List Byte) : sequencesFail bs = (seqsOf bs).isNone := by
  cases bs with
  | nil => rfl
  | cons count rest =>
    have hnone : (seqsOf (count :: rest)).isNone = true ↔ ∀ qs : List Seq, ¬ (count :: rest = BitVec.ofNat 8 qs.length ::
        qs.flatMap bytes16 ∧ 1 ≤ qs.length ∧ qs.length ≤ 8 ∧ qs.Nodup) := by
      rw [Option.isNone_iff_eq_none, Option.eq_none_iff_forall_ne_some]
      exact forall_congr' fun qs => not_congr (seqsOf_eq_some_iff _ qs)
    rw [Bool.eq_iff_iff, hnone]
    unfold sequencesFail
    simp only [List.getD_cons_zero, List.length_cons]
    by_cases hlen : rest.length = 2 * count.toNat
    · obtain ⟨qs, hqs, hrest⟩ := exists_parseSeqs hlen
      have htwice := namedTwice_iff qs count
      rw [hqs, ← hrest] at htwice
      rw [Bool.or_eq_true, Bool.or_eq_true, Bool.or_eq_true, htwice]
      simp only [beq_iff_eq, decide_eq_true_eq, bne_iff_ne]
      constructor
      · rintro h rs ⟨heq, hone, height, hnodup⟩
        obtain ⟨hcount, hrs⟩ := List.cons.inj heq
        have hcount' : count.toNat = rs.length := by
          rw [hcount, BitVec.toNat_ofNat, Nat.mod_eq_of_lt (by omega)]
        have hqs' : parseSeqs count.toNat rest = some qs := (parseSeqs_eq_some_iff _ _ _).mpr ⟨hqs, hrest⟩
        have hrs' : parseSeqs count.toNat rest = some rs := (parseSeqs_eq_some_iff _ _ _).mpr ⟨hcount'.symm, hrs⟩
        have hsame := Option.some.inj (hqs'.symm.trans hrs')
        rw [hsame] at h
        rcases h with ((h | h) | h) | h
        · omega
        · omega
        · omega
        · exact h hnodup
      · intro h
        by_contra hno
        push Not at hno
        obtain ⟨⟨⟨hzero', height⟩, -⟩, hnodup⟩ := hno
        refine h qs ⟨?_, by omega, by omega, hnodup⟩
        rw [hqs, ← hrest, BitVec.ofNat_toNat, BitVec.setWidth_eq]
    · refine iff_of_true ?_ ?_
      · have : (rest.length + 1 != 1 + 2 * count.toNat) = true := by
          rw [bne_iff_ne]; omega
        rw [this]
        simp
      · rintro qs ⟨heq, hone, height, -⟩
        obtain ⟨hcount, hrs⟩ := List.cons.inj heq
        apply hlen
        rw [hrs, flatMap_bytes16_length, hcount, BitVec.toNat_ofNat, Nat.mod_eq_of_lt (by omega)]

end Sys2Proof.FormatRules
end

section
namespace Sys2Proof.FormatRules

open Sys2Proof Sys2Proof.Machine

/-! ### The bytes of a line record (R204) -/

theorem inputByte_inputOf (a : Byte) : inputByte (inputOf a) (a.getLsbD 4) (a.getLsbD 5) = a &&& 0x3F#8 ∧
    inputByte (inputOf a) false false = a &&& 0x0F#8 ∧
    inputByte (inputOf a) (a.getLsbD 4) false = a &&& 0x1F#8 := by
  revert a; decide

theorem inputByte_toNat (i : Fin 16) (level deferred : Bool) : (inputByte i level deferred).toNat =
    i.val + (if level then 16 else 0) + (if deferred then 32 else 0) := by
  have := i.isLt
  rw [inputByte, BitVec.toNat_ofNat, Nat.mod_eq_of_lt]
  split <;> split <;> omega

theorem inputOf_inputByte (i : Fin 16) (level deferred : Bool) : inputOf (inputByte i level deferred) = i ∧
    (inputByte i level deferred).getLsbD 4 = level ∧ (inputByte i level deferred).getLsbD 5 = deferred := by
  revert i level deferred; decide

theorem kindByte_of_parts (k : Byte) :
    BitVec.ofBool false ++ BitVec.ofBool false ++ k.extractLsb' 4 2 ++ k.extractLsb' 0 4 = k &&& 0x3F#8 := by
  revert k; decide

theorem extract_kind (k : Byte) : (k.extractLsb' 0 4).toNat = k.toNat % 16 := by
  rw [BitVec.extractLsb'_toNat, Nat.shiftRight_zero]

theorem extract_quality (k : Byte) : (k.extractLsb' 4 2).toNat = k.toNat / 16 % 4 := by
  rw [BitVec.extractLsb'_toNat, Nat.shiftRight_eq_div_pow]

theorem parts_of_kindByte (r : Record) (late repaired : Bool) :
    (kindByte r late repaired).extractLsb' 4 2 = r.quality.code ∧
      (kindByte r late repaired).extractLsb' 0 4 = r.detail.code ∧
      (kindByte r late repaired).getLsbD 7 = late ∧ (kindByte r late repaired).getLsbD 6 = repaired := by
  have hparts (late repaired : Bool) (q : BitVec 2) (k : BitVec 4) :
      (BitVec.ofBool late ++ BitVec.ofBool repaired ++ q ++ k).extractLsb' 4 2 = q ∧
        (BitVec.ofBool late ++ BitVec.ofBool repaired ++ q ++ k).extractLsb' 0 4 = k ∧
        (BitVec.ofBool late ++ BitVec.ofBool repaired ++ q ++ k).getLsbD 7 = late ∧
        (BitVec.ofBool late ++ BitVec.ofBool repaired ++ q ++ k).getLsbD 6 = repaired := by
    revert late repaired q k; decide
  exact hparts late repaired r.quality.code r.detail.code

theorem timeStateOf_code (q : TimeState) : timeStateOf (BitVec.setWidth 8 q.code) = some q := by
  cases q <;> rfl

/-- The detail of a network kind by its code and its five bytes, the bits marked as zero cleared. -/
theorem detailOf_eq_some {k : BitVec 4} {a b c d e : Byte} {det : Detail} (h : detailOf k a b c d e = some det) :
    det.code = k ∧ det.isNetwork = true ∧ det ≠ .loss 0 ∧ ∀ stamp, det.bytes stamp =
      [a &&& carriedBits k.toNat 9, b &&& carriedBits k.toNat 10, c &&& carriedBits k.toNat 11,
        d &&& carriedBits k.toNat 12, e &&& carriedBits k.toNat 13] := by
  obtain ⟨h1, h2, h3⟩ := inputByte_inputOf a
  have hall (x : Byte) : x &&& 0xFF#8 = x := BitVec.and_allOnes
  have hnone (x : Byte) : x &&& 0x00#8 = 0x00#8 := BitVec.and_zero
  unfold detailOf at h
  split_ifs at h with c1 c2 c3 c4 hloss c5 <;> cases h <;>
    (first | subst c1 | subst c2 | subst c3 | subst c4 | subst c5) <;>
    refine ⟨rfl, rfl, ?_, fun stamp => ?_⟩ <;>
    simp_all [Detail.bytes, carriedBits, bytes16_word16]

theorem detailOf_isNone (k : BitVec 4) (a b c d e : Byte) : (detailOf k a b c d e).isNone =
    (k.toNat == 0 || decide (5 < k.toNat) || (k.toNat == 4 && a == 0x00 && b == 0x00)) := by
  have hword : word16 a b = 0 ↔ a = 0x00 ∧ b = 0x00 := by
    constructor
    · intro h
      have := bytes16_word16 a b
      rw [h] at this
      exact ⟨(List.cons.inj this).1.symm, (List.cons.inj (List.cons.inj this).2).1.symm⟩
    · rintro ⟨rfl, rfl⟩; rfl
  have hcode : ∀ k : BitVec 4, k = 1 ∨ k = 2 ∨ k = 3 ∨ k = 4 ∨ k = 5 ∨ k = 0 ∨ 5 < k.toNat := by decide
  unfold detailOf
  rcases hcode k with rfl | rfl | rfl | rfl | rfl | rfl | hk
  · rfl
  · rfl
  · rfl
  · by_cases hz : a = 0x00 ∧ b = 0x00
    · obtain ⟨rfl, rfl⟩ := hz
      rfl
    · have hw : ¬ word16 a b = 0 := fun h => hz (hword.mp h)
      have hbits : (a == 0x00 && b == 0x00) = false := by
        rw [← Bool.not_eq_true, Bool.and_eq_true, beq_iff_eq, beq_iff_eq]
        exact hz
      rw [if_neg (by decide), if_neg (by decide), if_neg (by decide), if_pos rfl, if_neg hw]
      exact hbits.symm
  · rfl
  · rfl
  · have hne (n : BitVec 4) (hn : n.toNat ≤ 5) : k ≠ n := fun h => by rw [h] at hk; omega
    rw [if_neg (hne 1 (by decide)), if_neg (hne 2 (by decide)), if_neg (hne 3 (by decide)), if_neg (hne 4 (by decide)),
      if_neg (hne 5 (by decide))]
    simp [hk]

theorem detailOf_bytes {det : Detail} (hnet : det.isNetwork = true) (hloss : det ≠ .loss 0) (stamp : Stamp) :
    ∃ a b c d e, det.bytes stamp = [a, b, c, d, e] ∧ detailOf det.code a b c d e = some det := by
  cases det with
  | edge i level deferred count snap =>
    obtain ⟨h1, h2, h3⟩ := inputOf_inputByte i level deferred
    refine ⟨_, _, _, _, _, rfl, ?_⟩
    show some (Detail.edge (inputOf _) _ _ (word16 _ _) (word16 _ _)) = _
    rw [h1, h2, h3, word16_bytes, word16_bytes]
  | chatter i count snap =>
    obtain ⟨h1, -, -⟩ := inputOf_inputByte i false false
    refine ⟨_, _, _, _, _, rfl, ?_⟩
    show some (Detail.chatter (inputOf _) (word16 _ _) (word16 _ _)) = _
    rw [h1, word16_bytes, word16_bytes]
  | resume i level count snap =>
    obtain ⟨h1, h2, -⟩ := inputOf_inputByte i level false
    refine ⟨_, _, _, _, _, rfl, ?_⟩
    show some (Detail.resume (inputOf _) _ (word16 _ _) (word16 _ _)) = _
    rw [h1, h2, word16_bytes, word16_bytes]
  | loss count =>
    have hne : ¬ count = 0 := fun h => hloss (by rw [h])
    refine ⟨_, _, _, _, _, rfl, ?_⟩
    show (if word16 _ _ = 0 then none else some (Detail.loss (word16 _ _))) = _
    rw [word16_bytes, if_neg hne]
  | mark tag snap =>
    refine ⟨_, _, _, _, _, rfl, ?_⟩
    show some (Detail.mark _ (word16 _ _)) = _
    rw [word16_bytes]
  | _ => contradiction

/-! ### One line record (R204) -/

theorem zeroedRecords_line (k s1 s2 t1 t2 t3 t4 t5 t6 a b c d e : Byte) :
    zeroedRecords [k, s1, s2, t1, t2, t3, t4, t5, t6, a, b, c, d, e] = [k &&& 0x3F#8, s1, s2, t1, t2, t3, t4, t5, t6,
      a &&& carriedBits (k.toNat % 16) 9, b &&& carriedBits (k.toNat % 16) 10, c &&& carriedBits (k.toNat % 16) 11,
      d &&& carriedBits (k.toNat % 16) 12, e &&& carriedBits (k.toNat % 16) 13] := by
  have hall (x : Byte) : x &&& 0xFF#8 = x := BitVec.and_allOnes
  have hplain (code j : Nat) (hj : j ≠ 0) (hj9 : j < 9) : carriedBits code j = 0xFF#8 := by
    unfold carriedBits
    rw [if_neg hj, if_neg (by omega), if_neg (by omega)]
    rfl
  have hzero (code : Nat) : carriedBits code 0 = 0x3F#8 := rfl
  simp [zeroedRecords, List.range_succ, hplain, hall, hzero]

theorem encodeLineRecord_eq (r : Record) : encodeLineRecord r =
    [kindByte r false false, r.seq.extractLsb' 8 8, r.seq.extractLsb' 0 8, r.stamp.extractLsb' 40 8,
      r.stamp.extractLsb' 32 8, r.stamp.extractLsb' 24 8, r.stamp.extractLsb' 16 8, r.stamp.extractLsb' 8 8,
      r.stamp.extractLsb' 0 8] ++ r.detail.bytes r.stamp := rfl

theorem length_line {bs : List Byte} (h : bs.length = 14) :
    ∃ k s1 s2 t1 t2 t3 t4 t5 t6 a b c d e, bs = [k, s1, s2, t1, t2, t3, t4, t5, t6, a, b, c, d, e] := by
  match bs, h with
  | [k, s1, s2, t1, t2, t3, t4, t5, t6, a, b, c, d, e], _ => exact ⟨_, _, _, _, _, _, _, _, _, _, _, _, _, _, rfl⟩

theorem parseLineRecord_encode {origin : Fin 25} {r : Record} (h : r.onLine origin) :
    (encodeLineRecord r).length = 14 ∧ parseLineRecord origin (encodeLineRecord r) = some r := by
  obtain ⟨hnet, horigin, hloss⟩ := h
  obtain ⟨a, b, c, d, e, hbytes, hdetail⟩ := detailOf_bytes hnet hloss r.stamp
  obtain ⟨hq, hk, -, -⟩ := parts_of_kindByte r false false
  rw [encodeLineRecord_eq, hbytes]
  refine ⟨rfl, ?_⟩
  simp only [List.cons_append, List.nil_append, parseLineRecord, hq, hk, timeStateOf_code, hdetail, word16_bytes,
    word48_bytes]
  rw [← horigin]

/-- What a line record is read as, if it is read. -/
theorem parseLineRecord_some {origin : Fin 25} {bs : List Byte} {r : Record}
    (h : parseLineRecord origin bs = some r) :
    r.onLine origin ∧ encodeLineRecord r = zeroedRecords bs := by
  unfold parseLineRecord at h
  split at h
  · rename_i k s1 s2 t1 t2 t3 t4 t5 t6 a b c d e
    split at h
    · rename_i q det hq hdet
      cases h
      obtain ⟨hcode, hnet, hloss, hbytes⟩ := detailOf_eq_some hdet
      refine ⟨⟨hnet, rfl, hloss⟩, ?_⟩
      have hquality : q.code = k.extractLsb' 4 2 := by
        have hset : BitVec.setWidth 8 (k.extractLsb' 4 2) = BitVec.setWidth 8 q.code :=
          (timeStateOf_eq_some_iff _ q).mp hq
        revert hset
        generalize k.extractLsb' 4 2 = x, q.code = y
        revert x y
        decide
      have hkind : kindByte ⟨origin, word16 s1 s2, word48 t1 t2 t3 t4 t5 t6, q, det⟩ false false = k &&& 0x3F#8 := by
        rw [kindByte, hquality, hcode, kindByte_of_parts]
      rw [zeroedRecords_line, encodeLineRecord, hkind, bytes16_word16, bytes48_word48, hbytes, extract_kind]
      rfl
    · contradiction
  · contradiction

theorem recordFails_eq (origin : Fin 25) {bs : List Byte} (h : bs.length = 14) :
    recordFails bs = (parseLineRecord origin bs).isNone := by
  obtain ⟨k, s1, s2, t1, t2, t3, t4, t5, t6, a, b, c, d, e, rfl⟩ := length_line h
  have hquality : (timeStateOf (BitVec.setWidth 8 (k.extractLsb' 4 2))).isNone = (k.toNat / 16 % 4 == 3) := by
    rw [timeStateOf_isNone, ← extract_quality]
    generalize k.extractLsb' 4 2 = x
    revert x
    decide
  have hdetail := detailOf_isNone (k.extractLsb' 0 4) a b c d e
  rw [extract_kind] at hdetail
  have hparse : (parseLineRecord origin [k, s1, s2, t1, t2, t3, t4, t5, t6, a, b, c, d, e]).isNone =
      ((timeStateOf (BitVec.setWidth 8 (k.extractLsb' 4 2))).isNone ||
        (detailOf (k.extractLsb' 0 4) a b c d e).isNone) := by
    unfold parseLineRecord
    simp only
    cases timeStateOf (BitVec.setWidth 8 (k.extractLsb' 4 2)) <;> cases detailOf (k.extractLsb' 0 4) a b c d e <;> rfl
  rw [hparse, hquality, hdetail, Bool.eq_iff_iff]
  unfold recordFails
  simp only [List.getD_cons_zero, List.getD_cons_succ, Bool.or_eq_true, Bool.and_eq_true, beq_iff_eq, decide_eq_true_eq]
  tauto

end Sys2Proof.FormatRules
end

section
namespace Sys2Proof.FormatRules

open Sys2Proof Sys2Proof.Machine

/-! ### The records of a body (R203) -/

theorem zeroedRecords_append {xs ys : List Byte} (h : xs.length = 14) :
    zeroedRecords (xs ++ ys) = zeroedRecords xs ++ zeroedRecords ys := by
  unfold zeroedRecords
  rw [List.length_append, List.range_add, List.map_append, List.map_map]
  have hleft {i : Nat} (hi : i < xs.length) : (xs ++ ys).getD i 0 = xs.getD i 0 := by
    rw [List.getD_append _ _ _ _ hi]
  have hright (i : Nat) : (xs ++ ys).getD (xs.length + i) 0 = ys.getD i 0 := by
    rw [List.getD_append_right _ _ _ _ (Nat.le_add_right _ _), Nat.add_sub_cancel_left]
  congr 1
  · refine List.map_congr_left fun i hi => ?_
    have hi' := List.mem_range.mp hi
    rw [hleft hi', hleft (by omega : i - i % 14 < xs.length)]
  · refine List.map_congr_left fun i _ => ?_
    show (xs ++ ys).getD (xs.length + i) 0 &&& _ = _
    have hmod : (xs.length + i) % 14 = i % 14 := by rw [h]; omega
    have hsub : xs.length + i - (xs.length + i) % 14 = xs.length + (i - i % 14) := by rw [h]; omega
    rw [hsub, hmod, hright, hright]

theorem parseRecords_encode {origin : Fin 25} {rs : List Record} (h : ∀ r ∈ rs, r.onLine origin) :
    parseRecords origin rs.length (rs.flatMap encodeLineRecord) = some rs := by
  induction rs with
  | nil => rfl
  | cons r rs ih =>
    obtain ⟨hr, hrs⟩ := List.forall_mem_cons.mp h
    obtain ⟨hlen, hparse⟩ := parseLineRecord_encode hr
    rw [List.length_cons, parseRecords, List.flatMap_cons,
      show lineRecordBytes = (encodeLineRecord r).length from hlen.symm,
      List.take_left' rfl, List.drop_left' rfl, hparse, ih hrs]

theorem flatMap_encode_length {origin : Fin 25} {rs : List Record} (h : ∀ r ∈ rs, r.onLine origin) :
    (rs.flatMap encodeLineRecord).length = 14 * rs.length := by
  induction rs with
  | nil => rfl
  | cons r rs ih =>
    obtain ⟨hr, hrs⟩ := List.forall_mem_cons.mp h
    rw [List.flatMap_cons, List.length_append, (parseLineRecord_encode hr).1, ih hrs, List.length_cons]
    omega

theorem parseLineRecord_length {origin : Fin 25} {bs : List Byte} {r : Record}
    (h : parseLineRecord origin bs = some r) : bs.length = 14 := by
  unfold parseLineRecord at h
  split at h
  · rfl
  · contradiction

/-- Records that are read fill the bytes. -/
theorem parseRecords_some {origin : Fin 25} {n : Nat} {bs : List Byte} {rs : List Record}
    (h : parseRecords origin n bs = some rs) : bs.length = 14 * n ∧ (∀ r ∈ rs, r.onLine origin) ∧
      rs.flatMap encodeLineRecord = zeroedRecords bs := by
  induction n generalizing bs rs with
  | zero =>
    unfold parseRecords at h
    split at h
    · rename_i hempty
      rw [List.isEmpty_iff.mp hempty, ← Option.some.inj h]
      exact ⟨rfl, List.forall_mem_nil _, rfl⟩
    · contradiction
  | succ n ih =>
    unfold parseRecords at h
    split at h
    · rename_i r rest hr hrest
      obtain ⟨hlen, hrs, hbytes⟩ := ih hrest
      obtain ⟨honline, hencode⟩ := parseLineRecord_some hr
      have htake : (bs.take lineRecordBytes).length = 14 := parseLineRecord_length hr
      rw [← Option.some.inj h]
      refine ⟨?_, List.forall_mem_cons.mpr ⟨honline, hrs⟩, ?_⟩
      · rw [List.length_take] at htake
        rw [List.length_drop] at hlen
        unfold lineRecordBytes at htake hlen
        omega
      · rw [List.flatMap_cons, hencode, hbytes, ← zeroedRecords_append htake, List.take_append_drop]
    · contradiction

theorem recordFails_take (bs : List Byte) : recordFails (bs.take 14) = recordFails bs := by
  have hget (i : Nat) (hi : i < 14) : (bs.take 14).getD i 0 = bs.getD i 0 := by
    rw [List.getD_eq_getElem?_getD, List.getD_eq_getElem?_getD, List.getElem?_take_of_lt hi]
  unfold recordFails
  rw [hget 0 (by decide), hget 9 (by decide), hget 10 (by decide)]

theorem parseRecords_isNone (origin : Fin 25) {n : Nat} {bs : List Byte} (h : bs.length = 14 * n) :
    (parseRecords origin n bs).isNone = (List.range n).any (fun k => recordFails (bs.drop (14 * k))) := by
  induction n generalizing bs with
  | zero =>
    rw [List.length_eq_zero_iff.mp h]
    rfl
  | succ n ih =>
    have htake : (bs.take lineRecordBytes).length = 14 := by
      rw [List.length_take]
      unfold lineRecordBytes
      omega
    have hrest := ih (bs := bs.drop lineRecordBytes) (by rw [List.length_drop]; unfold lineRecordBytes; omega)
    have hshift (k : Nat) : (bs.drop lineRecordBytes).drop (14 * k) = bs.drop (14 * (k + 1)) := by
      rw [List.drop_drop]
      congr 1
      unfold lineRecordBytes
      omega
    rw [List.range_succ_eq_map, List.any_cons, List.any_map, Nat.mul_zero, List.drop_zero, ← recordFails_take]
    have hfirst : recordFails (bs.take 14) = (parseLineRecord origin (bs.take lineRecordBytes)).isNone :=
      recordFails_eq origin htake
    have htail : ((List.range n).any ((fun k => recordFails (bs.drop (14 * k))) ∘ Nat.succ)) =
        (parseRecords origin n (bs.drop lineRecordBytes)).isNone := by
      rw [hrest]
      exact congrArg _ (funext fun k => by rw [hshift k]; rfl)
    rw [hfirst, htail, parseRecords]
    cases parseLineRecord origin (bs.take lineRecordBytes) <;>
      cases parseRecords origin n (bs.drop lineRecordBytes) <;> rfl

theorem recordsOf_encode {origin : Fin 25} {rs : List Record} (hone : 1 ≤ rs.length) (hfour : rs.length ≤ 4)
    (h : ∀ r ∈ rs, r.onLine origin) : recordsOf origin (rs.flatMap encodeLineRecord) = some rs := by
  have hdiv : (rs.flatMap encodeLineRecord).length / lineRecordBytes = rs.length := by
    rw [flatMap_encode_length h]
    unfold lineRecordBytes
    omega
  unfold recordsOf
  simp only [hdiv]
  rw [if_pos (by simp [hone, Config.frameRecords, hfour]), parseRecords_encode h]

theorem recordsOf_some {origin : Fin 25} {bs : List Byte} {rs : List Record} (h : recordsOf origin bs = some rs) :
    1 ≤ rs.length ∧ rs.length ≤ 4 ∧ (∀ r ∈ rs, r.onLine origin) ∧
      rs.flatMap encodeLineRecord = zeroedRecords bs := by
  obtain ⟨hone, hfour⟩ := recordsOf_length h
  unfold recordsOf at h
  simp only at h
  split at h
  · obtain ⟨-, honline, hbytes⟩ := parseRecords_some h
    exact ⟨hone, hfour, honline, hbytes⟩
  · contradiction

theorem recordsFail_eq (origin : Fin 25) (bs : List Byte) : recordsFail bs = (recordsOf origin bs).isNone := by
  have hmem : bs.length ∈ [14, 28, 42, 56] ↔
      (1 ≤ bs.length / 14 ∧ bs.length / 14 ≤ 4) ∧ bs.length = 14 * (bs.length / 14) := by
    simp only [List.mem_cons, List.not_mem_nil, or_false]
    omega
  have hcond : (1 ≤ bs.length / lineRecordBytes && bs.length / lineRecordBytes ≤ Config.frameRecords) = true ↔
      1 ≤ bs.length / 14 ∧ bs.length / 14 ≤ 4 := by
    rw [Bool.and_eq_true, decide_eq_true_iff, decide_eq_true_iff]
    rfl
  unfold recordsFail recordsOf
  simp only
  by_cases hcount : 1 ≤ bs.length / 14 ∧ bs.length / 14 ≤ 4
  · rw [if_pos (hcond.mpr hcount)]
    by_cases hlen : bs.length = 14 * (bs.length / 14)
    · have hin : decide (bs.length ∈ [14, 28, 42, 56]) = true := decide_eq_true (hmem.mpr ⟨hcount, hlen⟩)
      rw [hin, Bool.not_true, Bool.false_or]
      exact (parseRecords_isNone origin hlen).symm
    · have hout : decide (bs.length ∈ [14, 28, 42, 56]) = false := decide_eq_false fun hin => hlen (hmem.mp hin).2
      have hnone : parseRecords origin (bs.length / lineRecordBytes) bs = none :=
        Option.eq_none_iff_forall_ne_some.mpr fun rs hrs => hlen (parseRecords_some hrs).1
      rw [hout, hnone]
      rfl
  · have hout : decide (bs.length ∈ [14, 28, 42, 56]) = false := decide_eq_false fun hin => hcount (hmem.mp hin).1
    rw [if_neg (fun h => hcount (hcond.mp h)), hout]
    rfl

end Sys2Proof.FormatRules
end

section
namespace Sys2Proof.FormatRules

open Sys2Proof Sys2Proof.Machine

/-! ### Bodies (R203) -/

section
variable {p : Station} {body : List Byte} {f : Frame}

theorem parseBody_hello : parseBody p 0x01 body = some f ↔ f.kind = 0x01 ∧ f.body = body ∧ f.sendable p := by
  unfold parseBody
  rw [if_pos rfl]
  constructor
  · intro h
    split at h
    · rename_i n1 n2 r i1 i2
      split at h
      · rename_i restart hr
        split at h
        · rename_i hsi
          cases h
          refine ⟨rfl, ?_, hsi⟩
          rw [Frame.body, bytes16_word16, bytes16_word16, (flagOf_eq_some_iff r restart).mp hr]
          rfl
        · contradiction
      · contradiction
    · contradiction
  · rintro ⟨hkind, rfl, hsend⟩
    cases f with
    | hello next restart si =>
      simp only [Frame.body, bytes16, List.cons_append, List.nil_append, (flagOf_eq_some_iff _ restart).mpr rfl,
        word16_bytes]
      exact if_pos hsend
    | _ => exact absurd hkind (by simp [Frame.kind])

theorem parseBody_time : parseBody p 0x02 body = some f ↔ f.kind = 0x02 ∧ f.body = body ∧ f.sendable p := by
  unfold parseBody
  rw [if_neg (by decide), if_pos rfl]
  constructor
  · intro h
    split at h
    · rename_i a1 a2 a3 a4 a5 a6 b1 b2 b3 b4 b5 b6 n1 n2 i1 i2 t
      split at h
      · rename_i state ht
        split at h
        · rename_i hsi
          cases h
          refine ⟨rfl, ?_, hsi⟩
          rw [Frame.body, bytes48_word48, bytes48_word48, bytes16_word16, bytes16_word16,
            (timeStateOf_eq_some_iff t state).mp ht]
          rfl
        · contradiction
      · contradiction
    · contradiction
  · rintro ⟨hkind, rfl, hsend⟩
    cases f with
    | time sender settled next si state =>
      simp only [Frame.body, bytes16, bytes48, List.cons_append, List.nil_append, timeStateOf_code, word16_bytes,
        word48_bytes]
      exact if_pos hsend
    | _ => exact absurd hkind (by simp [Frame.kind])

theorem parseBody_repairReq : parseBody p 0x03 body = some f ↔ f.kind = 0x03 ∧ f.body = body ∧ f.sendable p := by
  unfold parseBody
  rw [if_neg (by decide), if_neg (by decide), if_pos rfl]
  constructor
  · intro h
    split at h
    · rename_i b flag rest
      split at h
      · rename_i subject proxy seqs hs hp hq
        cases h
        obtain ⟨hrest, hsend⟩ := (seqsOf_eq_some_iff rest seqs).mp hq
        refine ⟨rfl, ?_, hsend⟩
        rw [Frame.body, hrest, (subjectOf_eq_some_iff b subject).mp hs, (flagOf_eq_some_iff flag proxy).mp hp]
        rfl
      · contradiction
    · contradiction
  · rintro ⟨hkind, rfl, hsend⟩
    cases f with
    | repairReq subject proxy seqs =>
      have hseqs := (seqsOf_eq_some_iff _ seqs).mpr ⟨rfl, hsend⟩
      simp only [Frame.body, List.cons_append, List.nil_append, (flagOf_eq_some_iff _ proxy).mpr rfl,
        (subjectOf_eq_some_iff _ subject).mpr rfl, hseqs]
    | _ => exact absurd hkind (by simp [Frame.kind])

theorem parseBody_repairNone : parseBody p 0x05 body = some f ↔ f.kind = 0x05 ∧ f.body = body ∧ f.sendable p := by
  unfold parseBody
  rw [if_neg (by decide), if_neg (by decide), if_neg (by decide), if_neg (by decide), if_pos rfl]
  constructor
  · intro h
    split at h
    · rename_i b rest
      split at h
      · rename_i subject seqs hs hq
        cases h
        obtain ⟨hrest, hsend⟩ := (seqsOf_eq_some_iff rest seqs).mp hq
        refine ⟨rfl, ?_, hsend⟩
        rw [Frame.body, hrest, (subjectOf_eq_some_iff b subject).mp hs]
        rfl
      · contradiction
    · contradiction
  · rintro ⟨hkind, rfl, hsend⟩
    cases f with
    | repairNone subject seqs =>
      have hseqs := (seqsOf_eq_some_iff _ seqs).mpr ⟨rfl, hsend⟩
      simp only [Frame.body, List.cons_append, List.nil_append, (subjectOf_eq_some_iff _ subject).mpr rfl, hseqs]
    | _ => exact absurd hkind (by simp [Frame.kind])

theorem parseBody_repairData : parseBody p 0x04 body = some f ↔
    ∃ subject rs rest, f = .repairData subject rs ∧ body = stationByte subject :: rest ∧
      recordsOf (originOf subject) rest = some rs := by
  unfold parseBody
  rw [if_neg (by decide), if_neg (by decide), if_neg (by decide), if_pos rfl]
  constructor
  · intro h
    split at h
    · rename_i b rest
      split at h
      · rename_i subject hs
        obtain ⟨rs, hrs, rfl⟩ := Option.map_eq_some_iff.mp h
        exact ⟨subject, rs, rest, rfl, by rw [(subjectOf_eq_some_iff b subject).mp hs], hrs⟩
      · contradiction
    · contradiction
  · rintro ⟨subject, rs, rest, rfl, rfl, hrs⟩
    simp only [(subjectOf_eq_some_iff _ subject).mpr rfl, hrs, Option.map_some]

theorem parseBody_event : parseBody p 0x06 body = some f ↔
    ∃ rs, f = .event rs ∧ recordsOf (originOf p) body = some rs := by
  unfold parseBody
  rw [if_neg (by decide), if_neg (by decide), if_neg (by decide), if_neg (by decide), if_neg (by decide),
    if_pos rfl, Option.map_eq_some_iff]
  exact ⟨fun ⟨rs, hrs, h⟩ => ⟨rs, h.symm, hrs⟩, fun ⟨rs, h, hrs⟩ => ⟨rs, hrs, h.symm⟩⟩

theorem kind_cases (kind : Byte) : kind = 0x01 ∨ kind = 0x02 ∨ kind = 0x03 ∨ kind = 0x04 ∨ kind = 0x05 ∨ kind = 0x06 ∨
    (kind = 0x00 ∨ 6 < kind.toNat) := by
  revert kind; decide

/-- What a body is read as, if it is read. -/
theorem parseBody_some {kind : Byte} (h : parseBody p kind body = some f) :
    f.kind = kind ∧ f.sendable p ∧ f.body = zeroedBody kind body := by
  rcases kind_cases kind with rfl | rfl | rfl | rfl | rfl | rfl | hk
  · obtain ⟨hkind, hbody, hsend⟩ := parseBody_hello.mp h
    exact ⟨hkind, hsend, hbody⟩
  · obtain ⟨hkind, hbody, hsend⟩ := parseBody_time.mp h
    exact ⟨hkind, hsend, hbody⟩
  · obtain ⟨hkind, hbody, hsend⟩ := parseBody_repairReq.mp h
    exact ⟨hkind, hsend, hbody⟩
  · obtain ⟨subject, rs, rest, rfl, rfl, hrs⟩ := parseBody_repairData.mp h
    obtain ⟨hone, hfour, honline, hbytes⟩ := recordsOf_some hrs
    refine ⟨rfl, ⟨hone, hfour, honline⟩, ?_⟩
    rw [Frame.body, hbytes]
    rfl
  · obtain ⟨hkind, hbody, hsend⟩ := parseBody_repairNone.mp h
    exact ⟨hkind, hsend, hbody⟩
  · obtain ⟨rs, rfl, hrs⟩ := parseBody_event.mp h
    obtain ⟨hone, hfour, honline, hbytes⟩ := recordsOf_some hrs
    exact ⟨rfl, ⟨hone, hfour, honline⟩, hbytes⟩
  · have hne (n : Byte) (hn : n ≠ 0x00 ∧ n.toNat ≤ 6) : ¬ kind = n := by
      rintro rfl
      rcases hk with h0 | h6
      · exact hn.1 h0
      · omega
    unfold parseBody at h
    rw [if_neg (hne _ (by decide)), if_neg (hne _ (by decide)), if_neg (hne _ (by decide)), if_neg (hne _ (by decide)),
      if_neg (hne _ (by decide)), if_neg (hne _ (by decide))] at h
    contradiction

theorem parseBody_sendable (h : f.sendable p) : parseBody p f.kind f.body = some f := by
  cases f with
  | hello next restart si => exact parseBody_hello.mpr ⟨rfl, rfl, h⟩
  | time sender settled next si state => exact parseBody_time.mpr ⟨rfl, rfl, h⟩
  | repairReq subject proxy seqs => exact parseBody_repairReq.mpr ⟨rfl, rfl, h⟩
  | repairNone subject seqs => exact parseBody_repairNone.mpr ⟨rfl, rfl, h⟩
  | repairData subject rs =>
    exact parseBody_repairData.mpr ⟨subject, rs, _, rfl, rfl, recordsOf_encode h.1 h.2.1 h.2.2⟩
  | event rs => exact parseBody_event.mpr ⟨rs, rfl, recordsOf_encode h.1 h.2.1 h.2.2⟩

end

end Sys2Proof.FormatRules
end

section
namespace Sys2Proof.FormatRules

open Sys2Proof Sys2Proof.Machine

/-! ### The content checks of a body (R159) -/

section
variable (p : Station) (body : List Byte)

theorem bodyFails_hello : bodyFails 0x01 body = (parseBody p 0x01 body).isNone := by
  have hfails : bodyFails 0x01 body = (body.length != 5 || flagFails (body.getD 2 0) ||
      siFails (body.getD 3 0) (body.getD 4 0)) := by simp [bodyFails]
  rw [hfails]
  by_cases hlen : body.length = 5
  · match body, hlen with
    | [n1, n2, r, i1, i2], _ =>
      unfold parseBody
      rw [if_pos rfl]
      simp only [List.length_cons, List.length_nil, List.getD_cons_zero, List.getD_cons_succ, flagFails_eq, siFails_eq]
      cases flagOf r with
      | none => rfl
      | some x => cases h : siInRange (word16 i1 i2) <;> simp
  · have hnone : parseBody p 0x01 body = none := by
      refine Option.eq_none_iff_forall_ne_some.mpr fun f hf => hlen ?_
      obtain ⟨hkind, hbody, -⟩ := parseBody_hello.mp hf
      rw [← hbody]
      cases f with
      | hello next restart si => rfl
      | _ => exact absurd hkind (by simp [Frame.kind])
    rw [hnone, bne_iff_ne.mpr hlen]
    rfl

theorem bodyFails_time : bodyFails 0x02 body = (parseBody p 0x02 body).isNone := by
  have hfails : bodyFails 0x02 body = (body.length != 17 || siFails (body.getD 14 0) (body.getD 15 0) ||
      decide (2 < (body.getD 16 0).toNat)) := by simp [bodyFails]
  rw [hfails]
  by_cases hlen : body.length = 17
  · match body, hlen with
    | [a1, a2, a3, a4, a5, a6, b1, b2, b3, b4, b5, b6, n1, n2, i1, i2, t], _ =>
      unfold parseBody
      rw [if_neg (by decide), if_pos rfl]
      simp only [List.length_cons, List.length_nil, List.getD_cons_zero, List.getD_cons_succ, ← timeStateOf_isNone,
        siFails_eq]
      cases timeStateOf t with
      | none => simp
      | some x => cases h : siInRange (word16 i1 i2) <;> simp
  · have hnone : parseBody p 0x02 body = none := by
      refine Option.eq_none_iff_forall_ne_some.mpr fun f hf => hlen ?_
      obtain ⟨hkind, hbody, -⟩ := parseBody_time.mp hf
      rw [← hbody]
      cases f with
      | time sender settled next si state => rfl
      | _ => exact absurd hkind (by simp [Frame.kind])
    rw [hnone, bne_iff_ne.mpr hlen]
    rfl

theorem bodyFails_repairReq : bodyFails 0x03 body = (parseBody p 0x03 body).isNone := by
  have hfails : bodyFails 0x03 body = (subjectFails (body.getD 0 0) || flagFails (body.getD 1 0) ||
      sequencesFail (body.drop 2)) := by simp [bodyFails]
  rw [hfails]
  unfold parseBody
  rw [if_neg (by decide), if_neg (by decide), if_pos rfl]
  match body with
  | [] => rfl
  | [a] => simp [sequencesFail_eq, seqsOf]
  | a :: flag :: rest =>
    simp only [List.getD_cons_zero, List.getD_cons_succ, List.drop_succ_cons, List.drop_zero, subjectFails_eq,
      flagFails_eq, sequencesFail_eq]
    cases subjectOf a <;> cases flagOf flag <;> cases seqsOf rest <;> rfl

theorem bodyFails_repairData : bodyFails 0x04 body = (parseBody p 0x04 body).isNone := by
  have hfails : bodyFails 0x04 body = (subjectFails (body.getD 0 0) || recordsFail (body.drop 1)) := by
    simp [bodyFails]
  rw [hfails]
  unfold parseBody
  rw [if_neg (by decide), if_neg (by decide), if_neg (by decide), if_pos rfl]
  match body with
  | [] => rfl
  | a :: rest =>
    simp only [List.getD_cons_zero, List.drop_succ_cons, List.drop_zero, subjectFails_eq]
    cases subjectOf a with
    | none => rfl
    | some subject =>
      rw [recordsFail_eq (originOf subject)]
      show (false || _) = ((recordsOf (originOf subject) rest).map (Frame.repairData subject)).isNone
      cases recordsOf (originOf subject) rest <;> rfl

theorem bodyFails_repairNone : bodyFails 0x05 body = (parseBody p 0x05 body).isNone := by
  have hfails : bodyFails 0x05 body = (subjectFails (body.getD 0 0) || sequencesFail (body.drop 1)) := by
    simp [bodyFails]
  rw [hfails]
  unfold parseBody
  rw [if_neg (by decide), if_neg (by decide), if_neg (by decide), if_neg (by decide), if_pos rfl]
  match body with
  | [] => rfl
  | a :: rest =>
    simp only [List.getD_cons_zero, List.drop_succ_cons, List.drop_zero, subjectFails_eq, sequencesFail_eq]
    cases subjectOf a <;> cases seqsOf rest <;> rfl

theorem bodyFails_event : bodyFails 0x06 body = (parseBody p 0x06 body).isNone := by
  have hfails : bodyFails 0x06 body = recordsFail body := by simp [bodyFails]
  rw [hfails, recordsFail_eq (originOf p)]
  unfold parseBody
  rw [if_neg (by decide), if_neg (by decide), if_neg (by decide), if_neg (by decide), if_neg (by decide), if_pos rfl]
  cases recordsOf (originOf p) body <;> rfl

/-- Of a kind that there is, a content check fails exactly where the body is not read. -/
theorem bodyFails_eq {kind : Byte} (h : kindClass kind ≠ none) : bodyFails kind body = (parseBody p kind body).isNone := by
  rcases kind_cases kind with rfl | rfl | rfl | rfl | rfl | rfl | hk
  · exact bodyFails_hello p body
  · exact bodyFails_time p body
  · exact bodyFails_repairReq p body
  · exact bodyFails_repairData p body
  · exact bodyFails_repairNone p body
  · exact bodyFails_event p body
  · have hall : ∀ kind : Byte, (kind = 0x00 ∨ 6 < kind.toNat) → kindClass kind = none := by decide
    exact absurd (hall kind hk) h

end

/-! ### The arbitration byte and the kind (R145, R159) -/

theorem kindClass_eq (kind : Byte) : kindClass kind = if kind = 0x00 ∨ 6 < kind.toNat then none
    else some (BitVec.ofNat 3 (if kind.toNat ≤ 2 then 0 else if kind.toNat ≤ 5 then 1 else 2)) := by
  revert kind; decide

theorem address_toNat (arb : Byte) : (arb.setWidth 5).toNat = arb.toNat % 32 := BitVec.toNat_setWidth 5 arb

theorem class_toNat (arb : Byte) : (arb.extractLsb' 5 3).toNat = arb.toNat / 32 := by
  have := arb.isLt
  rw [BitVec.extractLsb'_toNat, Nat.shiftRight_eq_div_pow]
  exact Nat.mod_eq_of_lt (by omega)

theorem headerFails_eq (arb kind : Byte) : headerFails arb kind =
    !((stationOf (arb.setWidth 5)).isSome && decide (kindClass kind = some (arb.extractLsb' 5 3))) := by
  have hstation : (stationOf (arb.setWidth 5)).isSome = decide (1 ≤ arb.toNat % 32 ∧ arb.toNat % 32 ≤ 24) := by
    rw [Bool.eq_iff_iff, StepRules.stationOf_isSome_iff, address_toNat, decide_eq_true_iff]
  have hzero : (kind == 0x00) = decide (kind = 0x00) := rfl
  unfold headerFails
  rw [hstation, kindClass_eq]
  by_cases hk : kind = 0x00 ∨ 6 < kind.toNat
  · rw [if_pos hk, decide_eq_false (by simp : ¬ (none : Option (BitVec 3)) = some (arb.extractLsb' 5 3)), Bool.and_false]
    rcases hk with hk | hk <;> simp [hk]
  · have hclass (n : Nat) (hn : n ≤ 2) : some (BitVec.ofNat 3 n) = some (arb.extractLsb' 5 3) ↔ arb.toNat / 32 = n := by
      rw [Option.some.injEq]
      constructor
      · intro h
        rw [← class_toNat, ← h, BitVec.toNat_ofNat, Nat.mod_eq_of_lt (by omega)]
      · intro h
        apply BitVec.eq_of_toNat_eq
        rw [class_toNat, h, BitVec.toNat_ofNat, Nat.mod_eq_of_lt (by omega)]
    obtain ⟨h0, h6⟩ := not_or.mp hk
    rw [if_neg hk]
    obtain ⟨n, hn, hn2⟩ : ∃ n, n = (if kind.toNat ≤ 2 then 0 else if kind.toNat ≤ 5 then 1 else 2) ∧ n ≤ 2 := by
      refine ⟨_, rfl, ?_⟩
      split_ifs <;> omega
    have hdecide : decide (some (BitVec.ofNat 3 n) = some (arb.extractLsb' 5 3)) = decide (arb.toNat / 32 = n) :=
      decide_eq_decide.mpr (hclass n hn2)
    rw [← hn, hdecide, Bool.eq_iff_iff, hzero, decide_eq_false h0, decide_eq_false h6]
    simp only [Bool.or_eq_true, Bool.not_eq_true', Bool.and_eq_false_iff, decide_eq_true_eq, decide_eq_false_iff_not,
      beq_iff_eq, bne_iff_ne, Bool.false_eq_true, or_false]
    omega

/-- The content checks as R159 lists them. -/
theorem checkContent_fails {arb kind : Byte} {body : List Byte} (h : contentFails arb kind body = true) :
    checkContent arb kind body = .formatError := by
  unfold contentFails at h
  rw [headerFails_eq, Bool.or_eq_true, Bool.not_eq_true', Bool.and_eq_false_iff] at h
  unfold checkContent
  cases hstation : stationOf (arb.setWidth 5) with
  | none => rfl
  | some p =>
    simp only
    split
    · rename_i hclass
      have hbody : bodyFails kind body = true := by
        rcases h with (h | h) | h
        · simp [hstation] at h
        · exact absurd hclass (of_decide_eq_false h)
        · exact h
      rw [bodyFails_eq p body (by rw [hclass]; simp), Option.isNone_iff_eq_none] at hbody
      rw [hbody]
    · rfl

theorem checkContent_passes {arb kind : Byte} {body : List Byte} (h : contentFails arb kind body = false) :
    ∃ p f, checkContent arb kind body = .valid p f := by
  unfold contentFails at h
  rw [headerFails_eq, Bool.or_eq_false_iff, Bool.not_eq_false', Bool.and_eq_true] at h
  obtain ⟨⟨hsome, hclass⟩, hbody⟩ := h
  have hclass := of_decide_eq_true hclass
  obtain ⟨p, hp⟩ := Option.isSome_iff_exists.mp hsome
  rw [bodyFails_eq p body (by rw [hclass]; simp), Option.isNone_eq_false_iff, Option.isSome_iff_exists] at hbody
  obtain ⟨f, hf⟩ := hbody
  refine ⟨p, f, ?_⟩
  unfold checkContent
  rw [hp]
  simp only [hclass, if_true, hf]

/-! ### Whole frames (R145, R146, R156) -/

theorem frameWhole_iff (raw : List Byte) : frameWhole raw = true ↔ ∃ (arb kind : Byte) (body crc : List Byte),
    body.length ≤ 57 ∧ crc.length = 2 ∧ raw = arb :: kind :: BitVec.ofNat 8 body.length :: body ++ crc := by
  constructor
  · intro h
    unfold frameWhole at h
    split at h
    · rename_i arb kind len rest
      rw [Bool.and_eq_true, decide_eq_true_iff, beq_iff_eq] at h
      obtain ⟨hlimit, hlen⟩ := h
      have htake : (rest.take len.toNat).length = len.toNat := by rw [List.length_take]; omega
      refine ⟨arb, kind, rest.take len.toNat, rest.drop len.toNat, htake.trans_le hlimit, by rw [List.length_drop]; omega, ?_⟩
      rw [htake, BitVec.ofNat_toNat, BitVec.setWidth_eq]
      simp
    · contradiction
  · rintro ⟨arb, kind, body, crc, hbody, hcrc, rfl⟩
    have hlen : (BitVec.ofNat 8 body.length).toNat = body.length := by
      rw [BitVec.toNat_ofNat, Nat.mod_eq_of_lt (by omega)]
    show ((BitVec.ofNat 8 body.length).toNat ≤ Config.bodyLimit &&
      (body ++ crc).length == (BitVec.ofNat 8 body.length).toNat + 2) = true
    rw [hlen]
    simp [Config.bodyLimit, hbody, hcrc]

theorem bytes16_length (w : BitVec 16) : (bytes16 w).length = 2 := rfl

theorem checkFrame_wholeFrame (arb kind : Byte) (body : List Byte) :
    checkFrame (wholeFrame arb kind body) = checkContent arb kind body := by
  unfold wholeFrame checkFrame
  simp only
  generalize hw : bytes16 (crcOf (arb :: kind :: BitVec.ofNat 8 body.length :: body)) = w
  have hw2 : w.length = 2 := by rw [← hw]; rfl
  have hsub : (arb :: kind :: BitVec.ofNat 8 body.length :: body ++ w).length - 2 =
      (arb :: kind :: BitVec.ofNat 8 body.length :: body).length := by
    rw [List.length_append, hw2, Nat.add_sub_cancel]
  rw [hsub, List.take_left' rfl, List.drop_left' rfl, if_pos hw]
  show checkContent arb kind ((body ++ w).take ((body ++ w).length - 2)) = _
  rw [List.length_append, hw2, Nat.add_sub_cancel, List.take_left' rfl]

theorem checkFrame_otherCrc {arb kind : Byte} {body crc : List Byte} (hcrc : crc.length = 2)
    (h : arb :: kind :: BitVec.ofNat 8 body.length :: body ++ crc ≠ wholeFrame arb kind body) :
    checkFrame (arb :: kind :: BitVec.ofNat 8 body.length :: body ++ crc) = .crcError := by
  refine LineRules.checkFrame_crcError fun he => h ?_
  have hsub : (arb :: kind :: BitVec.ofNat 8 body.length :: body ++ crc).length - 2 =
      (arb :: kind :: BitVec.ofNat 8 body.length :: body).length := by
    rw [List.length_append, hcrc, Nat.add_sub_cancel]
  rw [hsub, List.take_left' rfl, List.drop_left' rfl] at he
  rw [he]
  rfl

theorem arbitrationByte_toNat (p : Station) (f : Frame) : (arbitrationByte (originOf p) f).toNat =
    (match f with
      | .hello .. => 0 | .time .. => 0 | .repairReq .. => 1 | .repairData .. => 1 | .repairNone .. => 1
      | .event .. => 2) * 32 + (p.val + 1) := by
  have hp := p.isLt
  have happend (c : BitVec 3) : (c ++ BitVec.ofNat 5 (p.val + 1)).toNat = c.toNat * 32 + (p.val + 1) := by
    have hlow : (BitVec.ofNat 5 (p.val + 1)).toNat = p.val + 1 := by
      rw [BitVec.toNat_ofNat, Nat.mod_eq_of_lt (by omega)]
    rw [BitVec.toNat_append, hlow, Nat.shiftLeft_eq, Nat.mul_comm]
    exact (Nat.two_pow_add_eq_or_of_lt (by omega) c.toNat).symm.trans (by rw [Nat.mul_comm])
  have horigin : (originOf p).val = p.val + 1 := rfl
  unfold arbitrationByte
  rw [horigin, happend]
  cases f <;> rfl

theorem encodeFrame_eq (p : Station) (f : Frame) :
    encodeFrame (originOf p) f = wholeFrame (arbitrationByte (originOf p) f) f.kind f.body := rfl

theorem arbitrationByte_parts (p : Station) (f : Frame) :
    stationOf ((arbitrationByte (originOf p) f).setWidth 5) = some p ∧
      kindClass f.kind = some ((arbitrationByte (originOf p) f).extractLsb' 5 3) := by
  have hp := p.isLt
  refine ⟨?_, ?_⟩
  · rw [StepRules.stationOf_eq_some_iff, address_toNat, arbitrationByte_toNat]
    cases f <;> simp only <;> omega
  · unfold arbitrationByte
    rw [BitVec.extractLsb'_append_eq_left]
    cases f <;> rfl

/-- Settles O50: whole frames by their parts, the content checks by the body of each kind, the rows by what the
frame is. -/
theorem frameOutcomes : Obligations.FrameOutcomes := by
  refine ⟨fun raw => ⟨frameWhole_iff raw, ?_, ?_, ?_, ?_, ?_, ?_, Iff.rfl⟩, fun arb kind body _ =>
    ⟨fun crc hcrc h => checkFrame_otherCrc hcrc h, fun hfails => ?_, fun hpasses => ?_⟩,
    fun c raw s hout hrx hfree hbytes hwell => LineRules.frame_row_outcomes hout hrx hfree hbytes hwell⟩
  iterate 6 exact (Bool.and_eq_true_iff).trans (and_congr_right fun _ => beq_iff_eq)
  · rw [checkFrame_wholeFrame, checkContent_fails hfails]
  · obtain ⟨p, f, hcheck⟩ := checkContent_passes hpasses
    obtain ⟨hstation, hclass, hbody⟩ := checkContent_valid hcheck
    obtain ⟨hkind, hsend, hzeroed⟩ := parseBody_some hbody
    rw [StepRules.stationOf_eq_some_iff, address_toNat] at hstation
    refine ⟨p, f, by rw [checkFrame_wholeFrame, hcheck], hstation, hsend, ?_⟩
    have harb : arbitrationByte (originOf p) f = arb := by
      obtain ⟨hlow, hhigh⟩ := arbitrationByte_parts p f
      rw [hkind, hclass, Option.some.injEq] at hhigh
      rw [StepRules.stationOf_eq_some_iff, address_toNat, hstation] at hlow
      have hclasses := congrArg BitVec.toNat hhigh
      rw [class_toNat, class_toNat] at hclasses
      apply BitVec.eq_of_toNat_eq
      omega
    rw [encodeFrame_eq, harb, hkind, hzeroed]

end Sys2Proof.FormatRules
end

section
namespace Sys2Proof.FormatRules

open Sys2Proof Sys2Proof.Machine

/-! ### Frames read back as sent (R145, R146, R203) -/

theorem sendable_body_length {p : Station} {f : Frame} (h : f.sendable p) : 4 ≤ f.body.length ∧ f.body.length ≤ 57 := by
  cases f with
  | hello next restart si => exact (by decide : 4 ≤ 5 ∧ 5 ≤ 57)
  | time sender settled next si state => exact (by decide : 4 ≤ 17 ∧ 17 ≤ 57)
  | repairReq subject proxy seqs =>
    obtain ⟨hone, height, -⟩ := h
    have height : seqs.length ≤ 8 := height
    rw [Frame.body, List.length_append, flatMap_bytes16_length]
    exact ⟨by simp; omega, by simp; omega⟩
  | repairNone subject seqs =>
    obtain ⟨hone, height, -⟩ := h
    have height : seqs.length ≤ 8 := height
    rw [Frame.body, List.length_append, flatMap_bytes16_length]
    exact ⟨by simp; omega, by simp; omega⟩
  | repairData subject rs =>
    obtain ⟨hone, hfour, hall⟩ := h
    have hfour : rs.length ≤ 4 := hfour
    rw [Frame.body, List.length_cons, flatMap_encode_length hall]
    omega
  | event rs =>
    obtain ⟨hone, hfour, hall⟩ := h
    have hfour : rs.length ≤ 4 := hfour
    rw [Frame.body, flatMap_encode_length hall]
    omega

theorem checkFrame_encode {p : Station} {f : Frame} (h : f.sendable p) :
    checkFrame (encodeFrame (originOf p) f) = .valid p f := by
  obtain ⟨hstation, hclass⟩ := arbitrationByte_parts p f
  rw [encodeFrame_eq, checkFrame_wholeFrame, checkContent, hstation]
  simp only [hclass, if_true, parseBody_sendable h]

theorem encodeFrame_length (p : Station) (f : Frame) : (encodeFrame (originOf p) f).length = f.body.length + 5 := by
  rw [encodeFrame_eq, wholeFrame, List.length_append, bytes16_length]
  rfl

/-! ### Bits read back (R142) -/

theorem takeBits_byte (l : LineControl) (b : Byte) (hrx : l.rx = .receiving) (hbits : l.bits = []) :
    (byteBits b).foldl LineControl.takeBit l = { l with bytes := l.bytes ++ [b] } := by
  have hbyte : byteOfBits (dataBits b) = b := dataBits_injective (dataBits_byteOfBits rfl)
  unfold dataBits at hbyte
  simpa [byteBits, dataBits, LineControl.takeBit, hrx, hbits] using hbyte

theorem takeBits_lineBits (bytes : List Byte) (l : LineControl) (hrx : l.rx = .receiving) (hbits : l.bits = []) :
    (lineBits bytes).foldl LineControl.takeBit l = { l with bytes := l.bytes ++ bytes } := by
  induction bytes generalizing l with
  | nil => rw [List.append_nil]; rfl
  | cons b bytes ih =>
    rw [lineBits, List.flatMap_cons, List.foldl_append, takeBits_byte l b hrx hbits]
    refine (ih { l with bytes := l.bytes ++ [b] } hrx hbits).trans ?_
    rw [List.append_assoc]
    rfl

/-- Within a byte no run is longer than 9 bits. -/
theorem countBits_within (b : Byte) (l : LineControl) (hr : l.releasedRun ≤ 9) (hd : l.drivenRun = 0) (k : Nat) :
    (((byteBits b).take k).foldl LineControl.countRun l).releasedRun ≤ 9 ∧
      (((byteBits b).take k).foldl LineControl.countRun l).drivenRun ≤ 9 := by
  rcases Nat.lt_or_ge k 10 with hk | hk
  · cases k with
    | zero => exact ⟨hr, by show l.drivenRun ≤ 9; omega⟩
    | succ j =>
      have htake : (byteBits b).take (j + 1) = false :: (dataBits b).take j := by
        rw [byteBits, List.cons_append, List.take_succ_cons, List.take_append_of_le_length]
        rw [dataBits_length]; omega
      obtain ⟨hr', hd'⟩ := LineRules.countRuns_le ((dataBits b).take j) (l.countRun false)
      obtain ⟨hr0, hd0⟩ := LineRules.countRun_runs l false
      rw [hr0, List.length_take, dataBits_length] at hr'
      rw [hd0, List.length_take, dataBits_length] at hd'
      rw [htake, List.foldl_cons]
      simp only [Bool.false_eq_true, if_false] at hr' hd'
      omega
  · rw [List.take_of_length_le (by rw [byteBits_length]; exact hk)]
    obtain ⟨-, hr', hd'⟩ := LineRules.countByte_runs b l
    exact ⟨hr', by omega⟩

theorem countBits_lineBits (bytes : List Byte) (l : LineControl) (hr : l.releasedRun ≤ 9) (hd : l.drivenRun = 0)
    (k : Nat) : (((lineBits bytes).take k).foldl LineControl.countRun l).releasedRun ≤ 9 ∧
      (((lineBits bytes).take k).foldl LineControl.countRun l).drivenRun ≤ 9 := by
  induction bytes generalizing l k with
  | nil =>
    rw [show lineBits [] = [] from rfl, List.take_nil]
    exact ⟨hr, by show l.drivenRun ≤ 9; omega⟩
  | cons b bytes ih =>
    rw [lineBits, List.flatMap_cons, List.take_append, List.foldl_append]
    rcases Nat.le_total k (byteBits b).length with hk | hk
    · rw [Nat.sub_eq_zero_of_le hk, List.take_zero]
      exact countBits_within b l hr hd k
    · rw [List.take_of_length_le hk]
      obtain ⟨-, hr', hd'⟩ := LineRules.countByte_runs b l
      exact ih _ hr' hd' _

/-! ### Records (R204) -/

theorem encodeLineRecord_length {r : Record} (h : r.isNetwork = true) : (encodeLineRecord r).length = 14 := by
  obtain ⟨origin, seq, stamp, quality, detail⟩ := r
  cases detail <;> first | rfl | contradiction

theorem kindByte_line (r : Record) (late repaired : Bool) :
    kindByte r false false = kindByte r late repaired &&& 0x3F#8 := by
  have hmask : ∀ (late repaired : Bool) (q : BitVec 2) (k : BitVec 4), BitVec.ofBool false ++ BitVec.ofBool false ++ q ++ k =
      (BitVec.ofBool late ++ BitVec.ofBool repaired ++ q ++ k) &&& 0x3F#8 := by decide
  exact hmask late repaired r.quality.code r.detail.code

theorem dropAge_toInt (stamp drop : Stamp) :
    ((dropAge stamp drop).toNat : Int) = max 0 (min 65535 ((stamp - drop).toInt.tdiv 1000)) := by
  unfold dropAge signedDiff
  rw [BitVec.toNat_ofNat]
  omega

theorem detail_bytes_length (d : Detail) (stamp : Stamp) :
    (d.bytes stamp).length = if d.isNetwork = true then 5 else 6 := by
  cases d <;> rfl

/-- R204: the detail of a host record by the record's kind. -/
theorem hostDetail (r : Record) {kind : Byte} (hkind : kind.extractLsb' 0 4 = r.detail.code) {detail : List Byte}
    (hdetail : detail = r.detail.bytes r.stamp ++ (if r.isNetwork then [0] else [])) :
     (∀ i level deferred count snap, r.detail = .edge i level deferred count snap →
       (kind.extractLsb' 0 4).toNat = 1 ∧
       ∃ b : Byte, detail = b :: bytes16 count ++ bytes16 snap ++ [0x00] ∧
         b.toNat = i.val + (if level then 16 else 0) + (if deferred then 32 else 0)) ∧
     (∀ i count snap, r.detail = .chatter i count snap →
       (kind.extractLsb' 0 4).toNat = 2 ∧
       detail = BitVec.ofNat 8 i.val :: bytes16 count ++ bytes16 snap ++ [0x00]) ∧
     (∀ i level count snap, r.detail = .resume i level count snap →
       (kind.extractLsb' 0 4).toNat = 3 ∧
       ∃ b : Byte, detail = b :: bytes16 count ++ bytes16 snap ++ [0x00] ∧
         b.toNat = i.val + (if level then 16 else 0)) ∧
     (∀ count, r.detail = .loss count →
       (kind.extractLsb' 0 4).toNat = 4 ∧ detail = bytes16 count ++ [0x00, 0x00, 0x00, 0x00]) ∧
     (∀ tag snap, r.detail = .mark tag snap →
       (kind.extractLsb' 0 4).toNat = 5 ∧ detail = tag :: bytes16 snap ++ [0x00, 0x00, 0x00]) ∧
     (∀ p first count cause, r.detail = .gap p first count cause →
       (kind.extractLsb' 0 4).toNat = 6 ∧
       detail = [BitVec.ofNat 8 (p.val + 1)] ++ bytes16 first ++ bytes16 count ++
         [(match cause with
           | .expired => 0x00 | .exhausted => 0x01 | .overrun => 0x02 | .restart => 0x03 : Byte)]) ∧
     (∀ p restart mismatch, r.detail = .peerUp p restart mismatch →
       (kind.extractLsb' 0 4).toNat = 7 ∧
       detail = [BitVec.ofNat 8 (p.val + 1), if restart then 0x01 else 0x00,
         if mismatch then 0x01 else 0x00, 0x00, 0x00, 0x00]) ∧
     (∀ p next, r.detail = .peerDown p next →
       (kind.extractLsb' 0 4).toNat = 8 ∧
       detail = [BitVec.ofNat 8 (p.val + 1), if next = none then 0x00 else 0x01] ++
         bytes16 (next.getD 0) ++ [0x00, 0x00]) ∧
     (∀ amount, r.detail = .timestep amount →
       (kind.extractLsb' 0 4).toNat = 9 ∧ detail = bytes48 amount) ∧
     (∀ count first last, r.detail = .overflow count first last →
       (kind.extractLsb' 0 4).toNat = 10 ∧
       ∃ a b : BitVec 16, detail = bytes16 count ++ bytes16 a ++ bytes16 b ∧
         (a.toNat : Int) = max 0 (min 65535 ((r.stamp - first).toInt.tdiv 1000)) ∧
         (b.toNat : Int) = max 0 (min 65535 ((r.stamp - last).toInt.tdiv 1000))) := by
  rw [hkind, hdetail, Record.isNetwork]
  refine ⟨fun i level deferred count snap h => ?_, fun i count snap h => ?_, fun i level count snap h => ?_,
    fun count h => ?_, fun tag snap h => ?_, fun p first count cause h => ?_, fun p restart mismatch h => ?_,
    fun p next h => ?_, fun amount h => ?_, fun count first last h => ?_⟩ <;> rw [h]
  · exact ⟨rfl, _, rfl, inputByte_toNat i level deferred⟩
  · exact ⟨rfl, rfl⟩
  · exact ⟨rfl, _, rfl, inputByte_toNat i level false⟩
  · exact ⟨rfl, rfl⟩
  · exact ⟨rfl, rfl⟩
  · refine ⟨rfl, ?_⟩
    cases cause <;> rfl
  · exact ⟨rfl, rfl⟩
  · refine ⟨rfl, ?_⟩
    cases next <;> rfl
  · exact ⟨rfl, List.append_nil _⟩
  · exact ⟨rfl, dropAge r.stamp first, dropAge r.stamp last, List.append_nil _, dropAge_toInt _ _, dropAge_toInt _ _⟩

/-! ### The CRC and the fields (R202, R205) -/

theorem crcOf_bits (bytes : List Byte) : crcOf bytes = (bytes.flatMap dataBits).foldl (fun (r : BitVec 16) b =>
    if r.msb = b then r <<< 1 else (r <<< 1) ^^^ 0x1021#16) 0xFFFF#16 := by
  have hbit : crcBit = fun (r : BitVec 16) b => if r.msb = b then r <<< 1 else (r <<< 1) ^^^ 0x1021#16 := by
    funext r b
    rw [crcBit]
    by_cases h : r.msb = b <;> simp [h]
  have hfold (bytes : List Byte) : ∀ r, bytes.foldl crcByte r = (bytes.flatMap dataBits).foldl crcBit r := by
    induction bytes with
    | nil => exact fun _ => rfl
    | cons b bytes ih => exact fun r => by rw [List.foldl_cons, ih, List.flatMap_cons, List.foldl_append]; rfl
  rw [← hbit]
  exact hfold bytes _

theorem bytes16_value (w : BitVec 16) : (bytes16 w).foldl (fun n b => 256 * n + b.toNat) 0 = w.toNat := by
  have := w.isLt
  simp only [bytes16, List.foldl_cons, List.foldl_nil, BitVec.extractLsb'_toNat, Nat.shiftRight_eq_div_pow]
  omega

theorem bytes48_value (w : BitVec 48) : (bytes48 w).foldl (fun n b => 256 * n + b.toNat) 0 = w.toNat := by
  have := w.isLt
  simp only [bytes48, List.foldl_cons, List.foldl_nil, BitVec.extractLsb'_toNat, Nat.shiftRight_eq_div_pow]
  omega

/-- Settles O22: frames by their parts, bits by bytes, records by their kind. -/
theorem framesReadBackAsSent : Obligations.FramesReadBackAsSent := by
  refine ⟨fun p f h => ?_, fun bytes l hrx hbits => ⟨lineBits_length bytes, takeBits_lineBits bytes l hrx hbits,
    fun hr hd k => countBits_lineBits bytes l (by omega) hd k⟩, fun r h => encodeLineRecord_length h, fun h => ⟨?_, ?_⟩,
    fun p f => ?_, fun w => ⟨rfl, bytes16_value w⟩, fun w => ⟨rfl, bytes48_value w⟩, crcOf_bits, by decide +kernel⟩
  · obtain ⟨hlow, hhigh⟩ := sendable_body_length h
    exact ⟨checkFrame_encode h, (frameWhole_iff _).mpr ⟨_, _, f.body, _, hhigh, rfl, rfl⟩,
      by rw [encodeFrame_length]; omega, by rw [encodeFrame_length]; omega⟩
  · have hlen := detail_bytes_length h.record.detail h.record.stamp
    by_cases hnet : h.record.isNetwork = true
    · have hfive := hlen.trans (if_pos hnet)
      simp only [encodeHostRecord, List.length_append, List.length_cons, hfive, if_pos hnet]
      rfl
    · have hsix := hlen.trans (if_neg hnet)
      simp only [encodeHostRecord, List.length_append, List.length_cons, hsix, if_neg hnet]
      rfl
  · obtain ⟨hq, hk, hlate, hrepaired⟩ := parts_of_kindByte h.record h.late h.repaired
    refine ⟨kindByte h.record h.late h.repaired,
      h.record.detail.bytes h.record.stamp ++ (if h.record.isNetwork then [0] else []), ?_, hlate, hrepaired, ?_, ?_,
      fun hnet => ⟨?_, ?_, rfl⟩, hostDetail h.record hk rfl⟩
    · rw [encodeHostRecord, List.append_assoc]
      rfl
    · rw [hq]
      cases h.record.quality <;> rfl
    · rw [hk, Record.isNetwork]
      cases h.record.detail <;> simp [Detail.isNetwork, Detail.code]
    · rw [if_pos hnet]
      rfl
    · rw [← kindByte_line]
      rfl
  · refine ⟨arbitrationByte (originOf p) f, f.kind, _, f.body, _, rfl, rfl, arbitrationByte_toNat p f, ?_⟩
    refine ⟨?_, ?_, ?_, ?_, ?_, ?_⟩
    · rintro next restart si rfl; exact ⟨rfl, rfl, rfl⟩
    · rintro now settled next si state rfl
      refine ⟨rfl, rfl, ?_⟩
      cases state <;> rfl
    · rintro q proxy seqs rfl; exact ⟨rfl, rfl, rfl⟩
    · rintro q rs rfl; exact ⟨rfl, rfl, rfl⟩
    · rintro q seqs rfl; exact ⟨rfl, rfl, rfl⟩
    · rintro rs rfl; exact ⟨rfl, rfl, rfl⟩

end Sys2Proof.FormatRules
end

section
namespace Sys2Proof.PassRules

open Sys2Proof Sys2Proof.Machine Sys2Proof.LineRules

/-! ### What is passed on does not depend on the line (R46) -/

/-- `s` with another Line Controller and other levels on the line. -/
def onLine (l : LineControl) (m : Medium) (s : State) : State := { s with line := l, medium := m }

section
variable (l : LineControl) (m : Medium) (s : State) (p : Station)

theorem onLine_agrees : s.agrees (onLine l m s) := ⟨rfl, rfl, rfl, rfl, rfl⟩

theorem offer_onLine (r : Record) (x : Bool) : (onLine l m s).offer r x = onLine l m (s.offer r x) := by
  unfold State.offer
  simp only [apply_ite (onLine l m)]
  rfl

theorem note_onLine (d : Detail) : (onLine l m s).note d = onLine l m (s.note d) :=
  offer_onLine l m s.countNote (s.makeNote d) false

theorem declareRuns_onLine (c : GapCause) (seqs : List Seq) :
    (onLine l m s).declareRuns p c seqs = onLine l m (s.declareRuns p c seqs) := by
  unfold State.declareRuns
  generalize seqRuns seqs = runs
  induction runs generalizing s with
  | nil => rfl
  | cons run more ih => rw [List.foldl_cons, List.foldl_cons, note_onLine, ih]

theorem declareLost_onLine (c : GapCause) (gone : Missing → Bool) :
    (onLine l m s).declareLost p c gone = onLine l m (s.declareLost p c gone) :=
  declareRuns_onLine l m (s.setMissing p ((s.missing p).filter (fun m => !gone m))) p c
    (((s.missing p).filter gone).map Missing.seq)

theorem computeHorizon_onLine : (onLine l m s).computeHorizon = onLine l m s.computeHorizon := by
  unfold State.computeHorizon
  rw [apply_ite (onLine l m)]
  rfl

theorem bringActive_onLine (n : Option Numbering) (x : Bool) :
    (onLine l m s).bringActive p n x = onLine l m (s.bringActive p n x) :=
  note_onLine l m (s.setPeer p { s.peer p with
    state := .active, numbering := n, ct := s.journal.horizon, silenceTimer := some s.silenceLimit })
    (.peerUp p x (s.peer p).mismatch)

theorem restartPeer_onLine (next : Seq) :
    (onLine l m s).restartPeer p next = onLine l m (s.restartPeer p next) := by
  rw [State.restartPeer, declareLost_onLine, bringActive_onLine]
  rfl

theorem enterSender_onLine (f : Frame) : (onLine l m s).enterSender p f = onLine l m (s.enterSender p f) := by
  have hpeer : (onLine l m s).peer p = s.peer p := rfl
  unfold State.enterSender
  rw [hpeer]
  cases (s.peer p).state with
  | self => rfl
  | absent => exact bringActive_onLine l m s p _ _
  | silent =>
    cases f.restartNext with
    | none => exact bringActive_onLine l m s p _ _
    | some next => exact restartPeer_onLine l m s p next
  | active =>
    cases f.restartNext with
    | none => rfl
    | some next => exact restartPeer_onLine l m s p next

theorem takeSender_onLine (f : Frame) : (onLine l m s).takeSender p f = onLine l m (s.takeSender p f) := by
  have hmismatch : (onLine l m s).takeMismatch p f = onLine l m (s.takeMismatch p f) := by
    rw [State.takeMismatch_eq, State.takeMismatch_eq]
    rfl
  rw [State.takeSender, hmismatch, enterSender_onLine]
  rfl

theorem advance_onLine (n : Numbering) (upTo next : Seq) :
    (onLine l m s).advance p n upTo next = onLine l m (s.advance p n upTo next) := by
  have hdeclare := declareRuns_onLine l m (s.setMissing p (s.joined p (seqsUpTo n.next upTo))) p .overrun
    (s.overrunBy p (seqsUpTo n.next upTo))
  rw [State.advance_eq, State.advance_eq]
  exact congrArg (fun t : State => t.setNumbering p { n with next := next }) hdeclare

theorem classify_onLine (n : Numbering) (x : Bool) (r : Record) :
    (onLine l m s).classify p n x r = onLine l m (s.classify p n x r) := by
  have hnew := offer_onLine l m (s.advance p n r.seq (r.seq + 1)) r x
  have hfill := offer_onLine l m (s.fillMissing p r.seq) r x
  unfold State.classify
  rw [apply_ite (onLine l m), apply_ite (onLine l m), advance_onLine, hnew, ← hfill]
  rfl

theorem takeRecord_onLine (x : Bool) (r : Record) :
    (onLine l m s).takeRecord p x r = onLine l m (s.takeRecord p x r) := by
  have hpeer : (onLine l m s).peer p = s.peer p := rfl
  unfold State.takeRecord
  rw [hpeer]
  cases (s.peer p).state with
  | self => rfl
  | absent => rfl
  | active =>
    cases (s.peer p).numbering with
    | some n => exact classify_onLine l m s p n x r
    | none =>
      simp only [apply_ite (onLine l m)]
      rw [← classify_onLine l m (s.setNumbering p (Numbering.at r.seq))]
      rfl
  | silent =>
    cases (s.peer p).numbering with
    | some n => exact classify_onLine l m s p n x r
    | none => rfl

theorem takeRecords_onLine (x : Bool) (rs : List Record) :
    (onLine l m s).takeRecords p x rs = onLine l m (s.takeRecords p x rs) := by
  unfold State.takeRecords
  induction rs generalizing s with
  | nil => rfl
  | cons r rs ih => rw [List.foldl_cons, List.foldl_cons, takeRecord_onLine, ih]

theorem compareNext_onLine (settled : Stamp) (next : Seq) :
    (onLine l m s).compareNext p settled next = onLine l m (s.compareNext p settled next) := by
  have hpeer : (onLine l m s).peer p = s.peer p := rfl
  unfold State.compareNext
  rw [hpeer]
  cases (s.peer p).numbering with
  | none => rfl
  | some n =>
    simp only [apply_ite (onLine l m)]
    rw [advance_onLine]
    rfl

theorem takeContent_onLine (f : Frame) : (onLine l m s).takeContent p f = onLine l m (s.takeContent p f) := by
  cases f with
  | hello next restart si => exact (State.learnNumbering_eq _ p next).trans (by
      show _ = onLine l m (s.learnNumbering p next)
      rw [s.learnNumbering_eq]
      rfl)
  | time sender settled next si ts =>
    exact (State.takeTime_eq _ p sender settled next ts).trans ((compareNext_onLine l m
      (s.timeSampled p sender next ts) p settled next).trans (congrArg (onLine l m)
        (s.takeTime_eq p sender settled next ts).symm))
  | event rs => exact takeRecords_onLine l m s p false rs
  | repairData subject rs => exact takeRecords_onLine l m s subject true rs
  | repairReq subject proxy seqs => rfl
  | repairNone subject seqs => rfl

theorem takeProxyRequest_onLine (seqs : List Seq) :
    (onLine l m s).takeProxyRequest p seqs = onLine l m (s.takeProxyRequest p seqs) := by
  have hadd (t : State) (q : Seq) : (onLine l m t).addProxy p q = onLine l m (t.addProxy p q) := by
    unfold State.addProxy
    rw [apply_ite (onLine l m)]
    rfl
  have hfold (seqs : List Seq) : ∀ t : State, seqs.foldl (fun t q => t.addProxy p q) (onLine l m t) =
      onLine l m (seqs.foldl (fun t q => t.addProxy p q) t) := by
    induction seqs with
    | nil => exact fun _ => rfl
    | cons q seqs ih => exact fun t => by rw [List.foldl_cons, List.foldl_cons, hadd, ih]
  unfold State.takeProxyRequest
  rw [apply_ite (onLine l m), hfold]
  rfl

theorem takeRequest_onLine (sender : Station) (proxy : Bool) (seqs : List Seq) :
    (onLine l m s).takeRequest sender p proxy seqs = onLine l m (s.takeRequest sender p proxy seqs) := by
  have horigin (t : State) : (onLine l m t).takeOriginRequest p seqs = onLine l m (t.takeOriginRequest p seqs) := by
    unfold State.takeOriginRequest
    rw [apply_ite (onLine l m)]
    rfl
  have hsuppress : (onLine l m s).suppress p seqs = onLine l m (s.suppress p seqs) := rfl
  unfold State.takeRequest
  simp only [hsuppress, apply_ite (onLine l m), horigin, takeProxyRequest_onLine]
  rfl

theorem takeRepair_onLine (f : Frame) : (onLine l m s).takeRepair p f = onLine l m (s.takeRepair p f) := by
  cases f with
  | repairReq subject proxy seqs => exact takeRequest_onLine l m s subject p proxy seqs
  | repairNone subject seqs =>
    show (if subject = p then _ else _) = onLine l m (if subject = p then _ else _)
    rw [apply_ite (onLine l m), State.expireNamed, declareLost_onLine]
    rfl
  | _ => rfl

theorem passOn_onLine (f : Frame) : (onLine l m s).passOn p f = onLine l m (s.passOn p f) := by
  unfold State.passOn
  simp only [takeSender_onLine, takeContent_onLine, takeRepair_onLine, computeHorizon_onLine, apply_ite (onLine l m)]
  rfl

end

/-! ### The row of a valid frame (R46, R161) -/

/-- Where the horizon is computed at the end (R30, log 11): the sender enters ACTIVE or is restarted, or its
complete-through time changes. -/
theorem passOn_eq (s : State) (p : Station) (f : Frame) : s.passOn p f =
    if s.entersActive p f || (((s.takeSender p f).takeContent p f).peer p).ct != ((s.takeSender p f).peer p).ct
    then (((s.takeSender p f).takeContent p f).takeRepair p f).computeHorizon
    else ((s.takeSender p f).takeContent p f).takeRepair p f := rfl

theorem exec_takesValid {c : Instr} {p : Station} {f : Frame} {s : State} (h : s.takesValid c p f) :
    ∃ raw, frameBytes c = some raw ∧ exec c s = .next
      (onLine (s.afterReception raw).line (s.afterReception raw).medium (s.passOn p f)).settleIrq := by
  obtain ⟨⟨hout, hrx, hfree, hecho⟩, ⟨raw, hbytes, hrow, hcheck⟩, hwell, hown, -, hl⟩ := h
  have hafter : s.afterReception raw = onLine (s.afterReception raw).line (s.afterReception raw).medium s := by
    unfold State.afterReception State.told
    split <;> rfl
  refine ⟨raw, hbytes, ?_⟩
  rw [exec_received ((receiving_iff s).mpr ⟨hout, hrx, hfree⟩) hbytes hwell (fun _ _ _ => hrow),
    takeFrame_valid hecho hcheck, if_neg hown, if_neg (by simpa using hl), ← passOn_onLine, ← hafter]
  rfl

end Sys2Proof.PassRules
end

section
namespace Sys2Proof.PassRules

open Sys2Proof Sys2Proof.Machine Sys2Proof.LineRules

/-! ### What the content of a frame changes of the entries -/

/-- From `s` to `t` the entry of `p` changes at most in its numbering, and no other entry changes. -/
def Renumbers (p : Station) (s t : State) : Prop :=
  t.peer p = { s.peer p with numbering := (t.peer p).numbering } ∧ ∀ q, q ≠ p → t.peer q = s.peer q

theorem Renumbers.trans {p : Station} {s t u : State} (h : Renumbers p s t) (h' : Renumbers p t u) :
    Renumbers p s u := by
  obtain ⟨hp, hq⟩ := h
  obtain ⟨hp', hq'⟩ := h'
  refine ⟨?_, fun q hne => (hq' q hne).trans (hq q hne)⟩
  rw [hp', hp]

theorem renumbers_of_peers {p : Station} {s t : State} (h : t.peers = s.peers) : Renumbers p s t := by
  refine ⟨?_, fun q _ => State.peer_congr h q⟩
  rw [State.peer_congr h]

theorem setNumbering_renumbers (s : State) (p : Station) (n : Numbering) : Renumbers p s (s.setNumbering p n) := by
  refine ⟨?_, fun q hq => State.peer_setPeer_other _ _ _ _ hq⟩
  rw [State.setNumbering, State.peer_setPeer_same]

theorem learnNumbering_renumbers (s : State) (p : Station) (next : Seq) :
    Renumbers p s (s.learnNumbering p next) := by
  rw [s.learnNumbering_eq]
  exact setNumbering_renumbers s p _

theorem classify_renumbers (s : State) (p : Station) (n : Numbering) (x : Bool) (r : Record) :
    Renumbers p s (s.classify p n x r) := by
  unfold State.classify
  split
  · refine Renumbers.trans (t := s.advance p n r.seq (r.seq + 1)) ⟨?_, fun q hq => ?_⟩
      (renumbers_of_peers (State.offer_peers _ _ _))
    · rw [State.advance_peer, if_pos rfl]
    · rw [State.advance_peer, if_neg hq]
  · split
    · exact renumbers_of_peers (State.offer_peers _ _ _)
    · exact renumbers_of_peers rfl

theorem takeRecord_renumbers (s : State) (p : Station) (x : Bool) (r : Record) :
    Renumbers p s (s.takeRecord p x r) := by
  have hduplicate : Renumbers p s s.countDuplicate := renumbers_of_peers rfl
  unfold State.takeRecord
  split
  · exact hduplicate
  · exact hduplicate
  · exact classify_renumbers s p _ x r
  · exact classify_renumbers s p _ x r
  · split
    · exact hduplicate
    · exact (setNumbering_renumbers s p _).trans (classify_renumbers _ p _ x r)
  · exact hduplicate

theorem takeRecords_renumbers (s : State) (p : Station) (x : Bool) (rs : List Record) :
    Renumbers p s (s.takeRecords p x rs) := by
  unfold State.takeRecords
  induction rs generalizing s with
  | nil => exact renumbers_of_peers rfl
  | cons r rs ih => exact (takeRecord_renumbers s p x r).trans (ih _)

theorem takeRecords_timebase (s : State) (p : Station) (x : Bool) (rs : List Record) :
    (s.takeRecords p x rs).timebase = s.timebase :=
  s.takeRecords_frame p x rs .timebase (by decide)

/-! ### The next sequence of a TIME frame (R65) -/

section
variable {s : State} {p : Station} {n : Numbering} (hn : (s.peer p).numbering = some n) (settled : Stamp)
  (next : Seq)

include hn

/-- R65: the three cases of the next sequence. -/
theorem compareNext_eq : s.compareNext p settled next =
    if seqAfter next n.next = true then s.advance p n next next
    else if next = n.next ∧ s.missing p = [] then
      s.setPeer p { s.peer p with ct := later (s.peer p).ct settled }
    else s := by
  unfold State.compareNext
  rw [hn]
  simp only [Bool.and_eq_true, decide_eq_true_eq, List.isEmpty_iff]

theorem compareNext_peer (q : Station) : (s.compareNext p settled next).peer q = if q = p then
    { s.peer p with
      numbering := some (if seqAfter next n.next = true then { n with next := next } else n)
      ct := if seqAfter next n.next = false ∧ next = n.next ∧ s.missing p = [] then later (s.peer p).ct settled
        else (s.peer p).ct }
    else s.peer q := by
  have hsame : s.peer p = { s.peer p with numbering := some n } := by rw [← hn]
  rw [compareNext_eq hn]
  by_cases hafter : seqAfter next n.next = true
  · simp only [hafter, if_true, State.advance_peer, Bool.true_eq_false, false_and, if_false]
  · by_cases hequal : next = n.next ∧ s.missing p = []
    · have hraised : seqAfter next n.next = false ∧ next = n.next ∧ s.missing p = [] :=
        ⟨by simpa using hafter, hequal⟩
      rw [if_neg hafter, if_pos hequal, if_neg hafter, if_pos hraised, State.peer_setPeer, ← hn]
    · simp only [hafter, Bool.false_eq_true, if_false, hequal, and_false, ← hsame]
      split
      · rename_i hq
        rw [hq]
      · rfl

theorem compareNext_missing (q : Station) : (s.compareNext p settled next).missing q =
    if q = p ∧ seqAfter next n.next = true then s.joined p (seqsUpTo n.next next) else s.missing q := by
  rw [compareNext_eq hn]
  by_cases hafter : seqAfter next n.next = true
  · simp only [hafter, if_true, State.advance_missing, and_true]
  · simp only [hafter, Bool.false_eq_true, if_false, and_false]
    split <;> rfl

theorem compareNext_agrees : (s.declareRuns p .overrun
      (if seqAfter next n.next = true then s.overrunBy p (seqsUpTo n.next next) else [])).agrees
    (s.compareNext p settled next) := by
  rw [compareNext_eq hn]
  by_cases hafter : seqAfter next n.next = true
  · rw [if_pos hafter, if_pos hafter]
    exact s.advance_agrees p n next next
  · rw [if_neg hafter, if_neg hafter]
    split
    · exact s.setPeer_agrees p _
    · exact s.agrees_refl

theorem compareNext_timebase : (s.compareNext p settled next).timebase = s.timebase := by
  rw [compareNext_eq hn]
  split
  · exact s.advance_frame p n next next .timebase (by decide)
  · split <;> rfl

end

/-- The content of a TIME frame, with the numbering the entry then has. -/
theorem takeTime_peer (s : State) (p : Station) (sender settled : Stamp) (next : Seq) (ts : TimeState) :
    (s.takeTime p sender settled next ts).peer p = { s.peer p with
      numbering := ((s.takeTime p sender settled next ts).peer p).numbering
      ct := ((s.takeTime p sender settled next ts).peer p).ct
      offset := ((s.takeTime p sender settled next ts).peer p).offset
      timeState := some ts } ∧
    (∀ q, q ≠ p → (s.takeTime p sender settled next ts).peer q = s.peer q) ∧
    (s.takeTime p sender settled next ts).timebase = { s.timebase with freshness := s.timeFreshness p } := by
  have hentry := s.timeSampled_peer p p sender next ts
  rw [if_pos rfl] at hentry
  have hn : ((s.timeSampled p sender next ts).peer p).numbering =
      some ((s.peer p).numbering.getD (Numbering.at next)) := by rw [hentry]; rfl
  rw [s.takeTime_eq]
  refine ⟨?_, fun q hq => ?_, ?_⟩
  · rw [compareNext_peer hn, if_pos rfl, hentry]
    rfl
  · rw [compareNext_peer hn, if_neg hq, State.timeSampled_peer, if_neg hq]
  · exact compareNext_timebase hn settled next

/-- R46: of all frames only a TIME frame changes more of the sender's entry than its numbering, and only a
REPAIR_DATA frame another entry, in its numbering. -/
theorem takeContent_entries (s : State) (p : Station) (f : Frame) :
    (∃ n ct offset timeState, (s.takeContent p f).peer p = { s.peer p with
        numbering := n, ct := ct, offset := offset, timeState := timeState }) ∧
    ((∀ a b d si ti, f ≠ .time a b d si ti) →
      (s.takeContent p f).peer p = { s.peer p with numbering := ((s.takeContent p f).peer p).numbering } ∧
      (s.takeContent p f).timebase = s.timebase) ∧
    (∃ freshness, (s.takeContent p f).timebase = { s.timebase with freshness := freshness }) ∧
    ∀ q, q ≠ p → (s.takeContent p f).peer q = { s.peer q with numbering := ((s.takeContent p f).peer q).numbering } ∧
      ((∀ rs, f ≠ .repairData q rs) → (s.takeContent p f).peer q = s.peer q) := by
  -- every frame but a TIME frame renumbers one entry
  have hrenumbers {t : State} {r : Station} (h : Renumbers r s t) (q : Station) :
      t.peer q = { s.peer q with numbering := (t.peer q).numbering } := by
    by_cases hq : q = r
    · rw [hq]; exact h.1
    · rw [h.2 q hq]
  have hother {t : State} {r : Station} (h : Renumbers r s t) (htime : t.timebase = s.timebase) :
      (∃ n ct offset timeState, t.peer p = { s.peer p with
        numbering := n, ct := ct, offset := offset, timeState := timeState }) ∧
      (t.peer p = { s.peer p with numbering := (t.peer p).numbering } ∧ t.timebase = s.timebase) ∧
      (∃ freshness, t.timebase = { s.timebase with freshness := freshness }) ∧
      ∀ q, t.peer q = { s.peer q with numbering := (t.peer q).numbering } ∧ (q ≠ r → t.peer q = s.peer q) :=
    ⟨⟨_, _, _, _, hrenumbers h p⟩, ⟨hrenumbers h p, htime⟩, ⟨_, htime⟩, fun q => ⟨hrenumbers h q, h.2 q⟩⟩
  cases f with
  | time sender settled next si ts =>
    obtain ⟨hp, hq, htime⟩ := takeTime_peer s p sender settled next ts
    refine ⟨⟨_, _, _, _, hp⟩, fun h => absurd rfl (h sender settled next si ts), ⟨_, htime⟩, fun q hne => ?_⟩
    have hsame : (s.takeContent p (.time sender settled next si ts)).peer q = s.peer q := hq q hne
    exact ⟨by rw [hsame], fun _ => hsame⟩
  | hello next restart si =>
    obtain ⟨hentry, hrest, hfresh, hq⟩ := hother (learnNumbering_renumbers s p next) (by rw [s.learnNumbering_eq]; rfl)
    exact ⟨hentry, fun _ => hrest, hfresh, fun q hne => ⟨(hq q).1, fun _ => (hq q).2 hne⟩⟩
  | event rs =>
    obtain ⟨hentry, hrest, hfresh, hq⟩ := hother (takeRecords_renumbers s p false rs) (takeRecords_timebase s p _ rs)
    exact ⟨hentry, fun _ => hrest, hfresh, fun q hne => ⟨(hq q).1, fun _ => (hq q).2 hne⟩⟩
  | repairData subject rs =>
    obtain ⟨hentry, hrest, hfresh, hq⟩ := hother (takeRecords_renumbers s subject true rs)
      (takeRecords_timebase s subject _ rs)
    exact ⟨hentry, fun _ => hrest, hfresh, fun q _ => ⟨(hq q).1, fun hrow => (hq q).2 fun he => hrow rs (by rw [he])⟩⟩
  | repairReq subject proxy seqs => exact ⟨⟨_, _, _, _, rfl⟩, fun _ => ⟨rfl, rfl⟩, ⟨_, rfl⟩,
      fun q _ => ⟨rfl, fun _ => rfl⟩⟩
  | repairNone subject seqs => exact ⟨⟨_, _, _, _, rfl⟩, fun _ => ⟨rfl, rfl⟩, ⟨_, rfl⟩,
      fun q _ => ⟨rfl, fun _ => rfl⟩⟩

end Sys2Proof.PassRules
end

section
namespace Sys2Proof.PassRules

open Sys2Proof Sys2Proof.Machine Sys2Proof.LineRules

theorem si_eq_some_iff (f : Frame) (si : BitVec 16) : f.si = some si ↔ (∃ next restart, f = .hello next restart si) ∨
    ∃ now settled next state, f = .time now settled next si state := by
  cases f <;> simp [Frame.si]

theorem restartNext_eq_some_iff (f : Frame) (next : Seq) :
    f.restartNext = some next ↔ ∃ si, f = .hello next true si := by
  cases f with
  | hello n restart si => cases restart <;> simp [Frame.restartNext]
  | _ => simp [Frame.restartNext]

/-- R48, R54: the numbering of a first frame and of a restart. -/
theorem heardNumbering_of_new {s : State} {p : Station} {f : Frame}
    (h : (s.peer p).state = .absent ∨ f.restartNext ≠ none) : s.heardNumbering p f = f.numbering := by
  unfold State.heardNumbering
  by_cases habsent : (s.peer p).state = .absent
  · rw [if_pos habsent]
  · rw [if_neg habsent]
    obtain ⟨next, hnext⟩ := Option.ne_none_iff_exists'.mp (h.resolve_left habsent)
    obtain ⟨si, rfl⟩ := (restartNext_eq_some_iff f next).mp hnext
    rfl

theorem heardNumbering_of_known {s : State} {p : Station} {f : Frame} (hstate : (s.peer p).state ≠ .absent)
    (h : f.restartNext = none) : s.heardNumbering p f = (s.peer p).numbering := by
  rw [State.heardNumbering, if_neg hstate, h]

/-- R68: the mismatch value by the SI of the frame. -/
theorem heardMismatch_of_si {s : State} {p : Station} {f : Frame} {si : BitVec 16} (h : f.si = some si) :
    s.heardMismatch p f = true ↔ si.toNat ≠ s.control.config.si := by
  rw [State.heardMismatch, h]
  exact bne_iff_ne

theorem heardMismatch_of_none {s : State} {p : Station} {f : Frame} (h : f.si = none) :
    s.heardMismatch p f = (s.peer p).mismatch := by
  rw [State.heardMismatch, h]

theorem agrees_journaled {s t : State} (h : s.agrees t) : s.journaledIn t :=
  ⟨h.journal, h.counters, by rw [← h.host]⟩

/-- What the journal has become before the content of the frame is taken. -/
theorem takeSender_journaled {s : State} {p : Station} (f : Frame) (hself : (s.peer p).state ≠ .self) :
    ((s.peer p).state = .active → f.restartNext = none → s.journaledIn (s.takeSender p f)) ∧
    ((s.peer p).state ≠ .active → ((s.peer p).state = .absent ∨ f.restartNext = none) →
      (s.note (.peerUp p f.restartNext.isSome (s.heardMismatch p f))).journaledIn (s.takeSender p f)) ∧
    ((s.peer p).state ≠ .absent → f.restartNext ≠ none →
      ((s.declareRuns p .restart ((s.missing p).map (·.seq))).note
        (.peerUp p true (s.heardMismatch p f))).journaledIn (s.takeSender p f)) := by
  obtain ⟨hactive, hnew, hrestart⟩ := s.takeSender_agrees p f
  have hstates : (s.peer p).state = .active ∨ (s.peer p).state = .absent ∨ (s.peer p).state = .silent := by
    cases hs : (s.peer p).state with
    | self => exact absurd hs hself
    | active => exact .inl rfl
    | absent => exact .inr (.inl rfl)
    | silent => exact .inr (.inr rfl)
  refine ⟨fun ha hr => agrees_journaled (hactive ha hr), fun ha h => agrees_journaled (hnew ?_),
    fun ha hr => agrees_journaled (hrestart ?_ hr)⟩
  · rcases hstates.resolve_left ha with hs | hs
    · exact .inl hs
    · exact .inr ⟨hs, h.resolve_left (by simp [hs])⟩
  · rcases hstates with hs | hs | hs
    · exact .inl hs
    · exact absurd hs ha
    · exact .inr hs

theorem passed_frame (l : LineControl) (m : Medium) (s : State) (p : Station) (f : Frame) :
    s.changesOnly (onLine l m (s.passOn p f)).settleIrq
      (.line :: .medium :: .timebase :: .peers :: .repair :: offerBlocks) := by
  have hline : (s.passOn p f).changesOnly (onLine l m (s.passOn p f)) [.line, .medium] := by
    intro b hb
    cases b <;> first | exact absurd (by decide) hb | rfl
  exact State.changesOnly_trans (State.changesOnly_mono (s.passOn_frame p f) (by decide)) (State.changesOnly_trans
    (State.changesOnly_mono hline (by decide)) (State.changesOnly_mono (State.settleIrq_frame _) (by decide)))

theorem passOn_timebase (s : State) (p : Station) (f : Frame) :
    (s.passOn p f).timebase = ((s.takeSender p f).takeContent p f).timebase := by
  have hrepair := ((s.takeSender p f).takeContent p f).takeRepair_frame p f .timebase (by decide)
  rcases s.passOn_cases p f with h | h <;> rw [h]
  · exact hrepair
  · rw [State.computeHorizon_timebase]
    exact hrepair

/-- Settles O51: the sender by takeSender, then what the content changes of the entries. -/
theorem senderIsHeard : Obligations.SenderIsHeard := by
  refine ⟨fun s d => rfl, si_eq_some_iff, restartNext_eq_some_iff, fun c p f s h => ?_⟩
  obtain ⟨raw, hbytes, hexec⟩ := exec_takesValid h
  obtain ⟨⟨-, -, -, hecho⟩, -, -, -, hself, -⟩ := h
  have hu (q : Station) := s.takeSender_peer q f hself
  obtain ⟨hactive, hnew, hrestart⟩ := takeSender_journaled f hself
  obtain ⟨⟨n, ct, offset, timeState, hentry⟩, hother, ⟨freshness, htime⟩, hrest⟩ :=
    takeContent_entries (s.takeSender p f) p f
  have hpeers (q : Station) : (onLine (s.afterReception raw).line (s.afterReception raw).medium
      (s.passOn p f)).settleIrq.peer q = ((s.takeSender p f).takeContent p f).peer q :=
    State.peer_congr (s.passOn_peers p f) q
  have htimebase : (onLine (s.afterReception raw).line (s.afterReception raw).medium (s.passOn p f)).settleIrq.timebase =
      { s.timebase with freshness := freshness } := by
    have hkept : (s.takeSender p f).timebase = s.timebase := s.takeSender_frame p f .timebase (by decide)
    show (s.passOn p f).timebase = _
    rw [passOn_timebase, htime, hkept]
  have hline : (onLine (s.afterReception raw).line (s.afterReception raw).medium (s.passOn p f)).settleIrq.line =
      (s.afterReception raw).line := rfl
  have hframe := passed_frame (s.afterReception raw).line (s.afterReception raw).medium s p f
  have hanswers := s.takeSender_answers p f
  have hmissing (q : Station) := s.takeSender_missing q f hself
  have hsender := s.takeSender_frame p f
  have hdecide : decide (frameBytes c = some s.line.bytes) = decide (raw = s.line.bytes) :=
    decide_eq_decide.mpr (by rw [hbytes, Option.some.injEq])
  generalize (onLine (s.afterReception raw).line (s.afterReception raw).medium (s.passOn p f)).settleIrq = t at *
  have hup := hu p
  rw [if_pos rfl] at hup
  have hheard : (t.peer p).state = .active ∧ (t.peer p).lastHeard = some s.now ∧
      (t.peer p).silenceTimer = some s.silenceLimit ∧ (t.peer p).mismatch = s.heardMismatch p f := by
    rw [hpeers, hentry, hup]
    exact ⟨rfl, rfl, rfl, rfl⟩
  obtain ⟨hstate, hlast, hsilence, hmismatch⟩ := hheard
  have hnumbering : ((s.takeSender p f).peer p).numbering = s.heardNumbering p f := by rw [hup]
  have hsame (h : (s.takeSender p f).takeContent p f = s.takeSender p f) :
      t.peer p = (s.takeSender p f).peer p := by rw [hpeers, h]
  refine ⟨t, _, hexec, rfl, hstate, hlast, hsilence, fun si hsi => ?_, fun hsi => ?_, ?_, fun hs hr => ?_,
    fun hs => ⟨?_, ?_, ?_, ?_, ?_, ?_⟩, fun q hq => ?_, hmissing, hanswers.1, hanswers.2, ?_, hactive, ?_, ?_,
    fun htime => ?_, ?_, ?_, ?_, fun q hq => ?_, ?_, ?_, hframe⟩
  · rw [hmismatch]
    exact heardMismatch_of_si hsi
  · rw [hmismatch]
    exact heardMismatch_of_none hsi
  · rw [hpeers, hentry, hup]
  · rw [hnumbering]
    exact heardNumbering_of_known hs hr
  · rintro next restart si rfl
    rw [hnumbering, heardNumbering_of_new hs]
    rfl
  · rintro now settled next si state rfl
    rw [hnumbering, heardNumbering_of_new hs]
    rfl
  · rintro r rs rfl
    rw [hnumbering, heardNumbering_of_new hs]
    rfl
  · rintro subject proxy seqs rfl
    rw [hnumbering, heardNumbering_of_new hs]
    rfl
  · rintro subject rs rfl
    rw [hnumbering, heardNumbering_of_new hs]
    rfl
  · rintro subject seqs rfl
    rw [hnumbering, heardNumbering_of_new hs]
    rfl
  · rw [hu, if_neg hq]
  · exact State.changesOnly_mono hsender (by decide)
  · rw [hmismatch]
    exact hnew
  · rw [hmismatch]
    exact hrestart
  · rw [hpeers]
    exact (hother htime).1
  · rintro subject proxy seqs rfl
    exact hsame rfl
  · rintro subject rs rfl hne
    rw [hpeers]
    exact (takeRecords_renumbers _ subject true rs).2 p hne.symm
  · rintro subject seqs rfl
    exact hsame rfl
  · have hcontent := hrest q hq
    rw [hu, if_neg hq] at hcontent
    rw [hpeers]
    exact hcontent
  · rw [hline, hdecide]
    exact (afterReception_line s raw).trans (by simp only [hecho])
  · rw [htimebase]

end Sys2Proof.PassRules
end

section
namespace Sys2Proof.PassRules

open Sys2Proof Sys2Proof.Machine Sys2Proof.LineRules

/-! ### The horizon after a frame (R28 to R30, log 11) -/

theorem peerTerms_eq (s : State) : s.peerTerms =
    ((List.finRange 24).filter (fun q => (s.peer q).state == .active)).map (fun q => (s.peer q).ct) := by
  have hentries : s.peers.toList = (List.finRange 24).map s.peer := by
    refine List.ext_getElem (by simp) fun i hi hi' => ?_
    simp [State.peer]
  rw [State.peerTerms, hentries, List.filter_map, List.map_map]
  rfl

/-- The terms of the ACTIVE entries depend on states and complete-through times alone. -/
theorem peerTerms_congr {s t : State}
    (h : ∀ q, (t.peer q).state = (s.peer q).state ∧ (t.peer q).ct = (s.peer q).ct) : t.peerTerms = s.peerTerms := by
  rw [peerTerms_eq, peerTerms_eq]
  simp only [(h _).1, (h _).2]

theorem peerTerms_of_renumbers {s t : State} {p : Station} (h : Renumbers p s t) : t.peerTerms = s.peerTerms := by
  refine peerTerms_congr fun q => ?_
  by_cases hq : q = p
  · rw [hq, h.1]
    exact ⟨rfl, rfl⟩
  · rw [h.2 q hq]
    exact ⟨rfl, rfl⟩

theorem peerTerms_of_peers {s t : State} (h : t.peers = s.peers) : t.peerTerms = s.peerTerms := by
  rw [State.peerTerms, h]
  rfl

theorem computeHorizon_agrees {s t : State} (h : s.agrees t) (hterms : t.peerTerms = s.peerTerms) :
    s.computeHorizon.agrees t.computeHorizon := by
  have hkept (v : State) : v.computeHorizon.counters = v.counters ∧ v.computeHorizon.host = v.host :=
    ⟨v.computeHorizon_frame .counters (by decide), v.computeHorizon_frame .host (by decide)⟩
  have htime (v : State) : v.computeHorizon.timebase = v.timebase := v.computeHorizon_timebase
  refine ⟨State.computeHorizon_journal_congr h.journal h.now hterms, ?_, ?_, ?_, by rw [htime, htime, h.timeState]⟩
  · rw [(hkept s).1, (hkept t).1, h.counters]
  · rw [(hkept s).2, (hkept t).2, h.host]
  · rw [State.now, State.now, htime, htime]
    exact h.now

/-! ### A frame passed on, part by part (R46) -/

/-- What the row of a valid frame leaves: the entries and the Timebase by the frame's content, the Repair Unit
after it, and the journal with the horizon computed or not. -/
theorem exec_passes {c : Instr} {p : Station} {f : Frame} {s : State} (h : s.takesValid c p f) :
    ∃ t, exec c s = .next t ∧ t.peers = ((s.takeSender p f).takeContent p f).peers ∧
      t.timebase = ((s.takeSender p f).takeContent p f).timebase ∧
      t.repair = (((s.takeSender p f).takeContent p f).takeRepair p f).repair ∧
      ∀ w : State, w.agrees (((s.takeSender p f).takeContent p f).takeRepair p f) →
        ((s.peer p).state = .active → f.restartNext = none →
          (((s.takeSender p f).takeContent p f).peer p).ct = ((s.takeSender p f).peer p).ct → w.journaledIn t) ∧
        ((s.peer p).state ≠ .active ∨ f.restartNext ≠ none ∨
            (((s.takeSender p f).takeContent p f).peer p).ct ≠ ((s.takeSender p f).peer p).ct →
          w.peerTerms = ((s.takeSender p f).takeContent p f).peerTerms → w.computeHorizon.journaledIn t) := by
  obtain ⟨raw, -, hexec⟩ := exec_takesValid h
  refine ⟨_, hexec, s.passOn_peers p f, passOn_timebase s p f, s.passOn_repair p f, fun w hw => ?_⟩
  have hpeers := ((s.takeSender p f).takeContent p f).takeRepair_peers p f
  have hjournal {v : State} (hv : v.agrees (s.passOn p f)) : v.journaledIn
      (onLine (s.afterReception raw).line (s.afterReception raw).medium (s.passOn p f)).settleIrq :=
    (hv.trans (onLine_agrees _ _ _)).journaledIn
  have hcomputes : (s.entersActive p f || (((s.takeSender p f).takeContent p f).peer p).ct !=
      ((s.takeSender p f).peer p).ct) = true ↔ (s.peer p).state ≠ .active ∨ f.restartNext ≠ none ∨
        (((s.takeSender p f).takeContent p f).peer p).ct ≠ ((s.takeSender p f).peer p).ct := by
    simp only [State.entersActive, Bool.or_eq_true, bne_iff_ne, Option.isSome_iff_ne_none, or_assoc]
  refine ⟨fun hactive hrestart hct => hjournal ?_, fun hends hterms => hjournal ?_⟩
  · rw [passOn_eq, if_neg (by
      rw [hcomputes]
      rintro (hs | hr | hc)
      · exact hs hactive
      · exact hr hrestart
      · exact hc hct)]
    exact hw
  · rw [passOn_eq, if_pos (hcomputes.mpr hends)]
    exact computeHorizon_agrees hw ((peerTerms_of_peers hpeers).trans hterms.symm)

theorem peer_of_peers {s t : State} (h : t.peers = s.peers) (q : Station) : t.peer q = s.peer q :=
  State.peer_congr h q

/-- Settles O52: the numbering a HELLO frame sets, by the sender's entry. -/
theorem helloSetsTheNumbering : Obligations.HelloSetsTheNumbering := by
  intro c p next restart si s h
  obtain ⟨t, hexec, hpeers, htime, hrepair, hjournal⟩ := exec_passes h
  obtain ⟨-, -, -, -, hself, -⟩ := h
  have hu (q : Station) := s.takeSender_peer q (.hello next restart si) hself
  have hmissing (q : Station) := s.takeSender_missing q (.hello next restart si) hself
  have hanswers := s.takeSender_answers p (.hello next restart si)
  have htimebase : (s.takeSender p (.hello next restart si)).timebase = s.timebase :=
    s.takeSender_frame p _ .timebase (by decide)
  have hlearn : (s.takeSender p (.hello next restart si)).takeContent p (.hello next restart si) =
      (s.takeSender p (.hello next restart si)).setNumbering p
        (((s.takeSender p (.hello next restart si)).peer p).numbering.getD (Numbering.at next)) :=
    State.learnNumbering_eq _ p next
  have hterms : (s.takeSender p (.hello next restart si)).peerTerms =
      ((s.takeSender p (.hello next restart si)).takeContent p (.hello next restart si)).peerTerms := by
    rw [hlearn]
    exact (peerTerms_of_renumbers (setNumbering_renumbers _ p _)).symm
  have hct : (((s.takeSender p (.hello next restart si)).takeContent p (.hello next restart si)).peer p).ct =
      ((s.takeSender p (.hello next restart si)).peer p).ct := by
    rw [hlearn, (setNumbering_renumbers _ p _).1]
  have hagrees : (s.takeSender p (.hello next restart si)).agrees
      ((s.takeSender p (.hello next restart si)).takeContent p (.hello next restart si)) := by
    rw [hlearn]
    exact State.setPeer_agrees _ _ _
  have hsender := (s.takeSender_agrees p (.hello next restart si)).1
  have hnumbering : ((s.takeSender p (.hello next restart si)).peer p).numbering =
      s.heardNumbering p (.hello next restart si) := by rw [hu, if_pos rfl]
  have hrestart : Frame.restartNext (.hello next restart si) = none ↔ restart = false := by
    cases restart <;> simp [Frame.restartNext]
  have hentry (q : Station) : t.peer q = ((s.takeSender p (.hello next restart si)).setNumbering p
      (((s.takeSender p (.hello next restart si)).peer p).numbering.getD (Numbering.at next))).peer q := by
    rw [peer_of_peers hpeers, hlearn]
  have hset (q : Station) : t.missing q = (s.takeSender p (.hello next restart si)).missing q := by
    rw [State.missing_congr hrepair]
    show ((s.takeSender p (.hello next restart si)).takeContent p (.hello next restart si)).missing q = _
    rw [hlearn]
    rfl
  have hlists : t.repair = (s.takeSender p (.hello next restart si)).repair := by
    rw [hrepair]
    show ((s.takeSender p (.hello next restart si)).takeContent p (.hello next restart si)).repair = _
    rw [hlearn]
    rfl
  refine ⟨t, hexec, ?_, ?_, ?_, fun q hq => ⟨?_, ?_⟩, ?_, by rw [hlists, hanswers.1], by rw [hlists, hanswers.2], ?_,
    fun hactive hr => ?_, fun hends => ?_⟩
  · rw [hentry, State.setNumbering, State.peer_setPeer_same]
    show some _ = _
    rw [hnumbering]
    by_cases hnew : restart = true ∨ (s.peer p).state = .absent
    · rw [if_pos hnew, heardNumbering_of_new (hnew.symm.imp_right fun hr => by rw [hr]; nofun)]
      rfl
    · rw [not_or] at hnew
      rw [if_neg (not_or.mpr hnew), heardNumbering_of_known hnew.2 (hrestart.mpr (by simpa using hnew.1))]
      rfl
  · rw [hentry, (setNumbering_renumbers _ p _).1, hu, if_pos rfl]
  · rw [hentry, (setNumbering_renumbers _ p _).1, hu, if_pos rfl]
  · rw [hentry, (setNumbering_renumbers _ p _).2 q hq, hu, if_neg hq]
  · rw [hset, hmissing, if_neg fun hc => hq hc.1]
  · rw [hset, hmissing]
    simp only [true_and, ne_eq, hrestart, Bool.not_eq_false, and_comm]
  · rw [htime, ← htimebase, hlearn]
    rfl
  · have hr' := hrestart.mpr hr
    exact (hjournal s ((hsender hactive hr').trans hagrees)).1 hactive hr' hct
  · refine (hjournal _ hagrees).2 ?_ hterms
    rcases hends with hs | hr
    · exact .inl hs
    · exact .inr (.inl (by rw [hr]; nofun))

end Sys2Proof.PassRules
end

section
namespace Sys2Proof.PassRules

open Sys2Proof Sys2Proof.Machine Sys2Proof.LineRules

/-! ### A TIME frame (R64 to R68, R99, R100) -/

/-- R71, R72, R77: an entry as it joins a set. -/
theorem newMissing_eq (s : State) : s.newMissing = fun q =>
    if s.control.lifecycle = .running then ⟨q, 0, .due 0, false⟩
    else ⟨q, 1, .timing (s.control.config.ri * 1000), false⟩ := by
  funext q
  unfold State.newMissing State.whenDue State.running
  simp only [beq_iff_eq]
  rfl

/-- R61, R72: the set that sequences have joined. -/
theorem joined_eq (s : State) (p : Station) (new : List Seq) : s.joined p new =
    (s.missing p).drop ((s.missing p).length + new.length - 8) ++
      (new.drop ((s.missing p).length + new.length - 8 - (s.missing p).length)).map (fun q =>
        if s.control.lifecycle = .running then ⟨q, 0, .due 0, false⟩
        else ⟨q, 1, .timing (s.control.config.ri * 1000), false⟩) := by
  rw [State.joined, newMissing_eq]
  rfl

theorem overrunBy_eq (s : State) (p : Station) (new : List Seq) : s.overrunBy p new =
    ((s.missing p).map (·.seq) ++ new).take ((s.missing p).length + new.length - 8) := rfl

/-- A TIME frame at the sender's entry. -/
theorem takeContent_time (s : State) (p : Station) (sender settled : Stamp) (next : Seq) (si : BitVec 16)
    (ts : TimeState) : s.takeContent p (.time sender settled next si ts) =
      (s.timeSampled p sender next ts).compareNext p settled next :=
  s.takeTime_eq p sender settled next ts

section
variable (s : State) (p : Station) (sender : Stamp) (next : Seq) (ts : TimeState)

theorem timeSampled_entry : (s.timeSampled p sender next ts).peer p = s.timeEntry p sender next ts := by
  rw [State.timeSampled_peer, if_pos rfl]

theorem timeSampled_numbering : ((s.timeSampled p sender next ts).peer p).numbering =
    some ((s.peer p).numbering.getD (Numbering.at next)) := by
  rw [timeSampled_entry]
  rfl

theorem timeSampled_fresh (q : Station) : (s.timeSampled p sender next ts).fresh q =
    if q = p ∧ (s.peer p).mismatch = false then 2 else s.fresh q := by
  unfold State.timeSampled State.fresh State.timeFreshness
  cases (s.peer p).mismatch with
  | true => simp
  | false =>
    by_cases hq : q = p
    · simp [hq]
    · have hne : p.val ≠ q.val := fun h => hq (Fin.ext h).symm
      simp [hq, hne]

end

/-- What a TIME frame finds at the entry of its sender. -/
theorem takeSender_time {s : State} {p : Station} {f : Frame} (hself : (s.peer p).state ≠ .self) {sender settled : Stamp}
    {next : Seq} {si : BitVec 16} {ts : TimeState} (hf : f = .time sender settled next si ts) :
    ((s.takeSender p f).peer p).numbering.getD (Numbering.at next) =
        (if (s.peer p).state = .absent then ⟨next, next⟩ else (s.peer p).numbering.getD ⟨next, next⟩ : Numbering) ∧
      ((s.takeSender p f).peer p).ct = (if (s.peer p).state = .active then (s.peer p).ct else s.journal.horizon) ∧
      ((s.takeSender p f).peer p).offset = (s.peer p).offset ∧
      (((s.takeSender p f).peer p).mismatch = true ↔ si.toNat ≠ s.control.config.si) ∧
      (∀ q, q ≠ p → (s.takeSender p f).peer q = s.peer q) ∧
      (∀ q, (s.takeSender p f).missing q = s.missing q) ∧
      (s.takeSender p f).timebase = s.timebase ∧ (s.takeSender p f).control = s.control := by
  have hu := s.takeSender_peer p f hself
  rw [if_pos rfl] at hu
  have hrestart : f.restartNext = none := by rw [hf]; rfl
  have hsi : f.si = some si := by rw [hf]; rfl
  refine ⟨?_, ?_, ?_, ?_, fun q hq => ?_, fun q => ?_, s.takeSender_frame p f .timebase (by decide),
    s.takeSender_frame p f .control (by decide)⟩
  · rw [hu]
    show (s.heardNumbering p f).getD _ = _
    by_cases habsent : (s.peer p).state = .absent
    · rw [if_pos habsent, heardNumbering_of_new (.inl habsent), hf]
      rfl
    · rw [if_neg habsent, heardNumbering_of_known habsent hrestart]
      rfl
  · rw [hu]
    simp only [hrestart, and_true]
  · rw [hu]
  · rw [hu]
    exact heardMismatch_of_si hsi
  · rw [s.takeSender_peer q f hself, if_neg hq]
  · rw [s.takeSender_missing q f hself, if_neg fun h => h.2.2 hrestart]

theorem withPeers_agrees {s t : State} (peers : Vector PeerEntry 24) (h : s.agrees t) :
    ({ s with peers := peers } : State).agrees t :=
  ⟨h.journal, h.counters, h.host, h.now, h.timeState⟩

/-- Settles O53: the entry sampled first, then the three cases of its next sequence. -/
theorem timeFrameIsTaken : Obligations.TimeFrameIsTaken := by
  intro c p sender settled next si ts s h
  obtain ⟨t, hexec, hpeers, htime, hrepair, hjournal⟩ := exec_passes h
  obtain ⟨-, -, -, -, hself, -⟩ := h
  generalize hf : Frame.time sender settled next si ts = f at *
  obtain ⟨hn, hct, hoffset, hmismatch, hothers, hmissing, htimebase, hcontrol⟩ := takeSender_time hself hf.symm
  have hrestart : f.restartNext = none := by rw [← hf]; rfl
  have hanswers := s.takeSender_answers p f
  have hrest : ∀ v : State, v.takeRepair p f = v := by rw [← hf]; exact fun _ => rfl
  rw [hrest] at hrepair hjournal
  generalize s.takeSender p f = u at *
  have hcontent : u.takeContent p f = (u.timeSampled p sender next ts).compareNext p settled next := by
    rw [← hf, takeContent_time]
  have hlists := u.takeContent_sameAnswers p f
  rw [hcontent] at hlists hpeers htime hrepair hjournal
  have hnumbering := timeSampled_numbering u p sender next ts
  rw [hn] at hnumbering
  generalize hN : (if (s.peer p).state = .absent then ⟨next, next⟩
    else (s.peer p).numbering.getD ⟨next, next⟩ : Numbering) = n at *
  have hsampled := timeSampled_entry u p sender next ts
  have hset (q : Station) : (u.timeSampled p sender next ts).missing q = s.missing q := hmissing q
  have hentry (q : Station) := (peer_of_peers hpeers q).trans (compareNext_peer hnumbering settled next q)
  have hgap (q : Station) := (State.missing_congr hrepair q).trans (compareNext_missing hnumbering settled next q)
  have hfresh (q : Station) : t.fresh q = (u.timeSampled p sender next ts).fresh q := by
    rw [State.fresh, htime, compareNext_timebase hnumbering]
    rfl
  have hjoined := joined_eq (u.timeSampled p sender next ts) p (seqsUpTo n.next next)
  rw [hset, show (u.timeSampled p sender next ts).control = s.control from hcontrol] at hjoined
  have hagrees := ((u.timeSampled_agrees p sender next ts).declareRuns p .overrun
    (if seqAfter next n.next = true then (u.timeSampled p sender next ts).overrunBy p (seqsUpTo n.next next)
      else [])).trans (compareNext_agrees hnumbering settled next)
  rw [overrunBy_eq, hset] at hagrees
  have hself' := hentry p
  rw [if_pos rfl, hsampled, hset] at hself'
  have hnumber : (t.peer p).numbering = some (if seqAfter next n.next = true then { n with next := next } else n) := by
    rw [hself']
  have hraised : (t.peer p).ct = if seqAfter next n.next = false ∧ next = n.next ∧ s.missing p = []
      then later (u.peer p).ct settled else (u.peer p).ct := by
    rw [hself']
    rfl
  have hother (q : Station) (hq : q ≠ p) : t.fresh q = s.fresh q ∧ t.peer q = s.peer q ∧ t.missing q = s.missing q := by
    refine ⟨?_, ?_, ?_⟩
    · rw [hfresh, timeSampled_fresh, if_neg fun h => hq h.1, State.fresh, htimebase]
      rfl
    · rw [hentry, if_neg hq, State.timeSampled_peer, if_neg hq, hothers q hq]
    · rw [hgap, if_neg fun h => hq h.1, hset]
  refine ⟨t, n, _, _, hexec, rfl, rfl, rfl, ?_, fun hsi => ⟨?_, ?_⟩, fun hsi => ⟨?_, ?_⟩, hother,
    fun hafter => ⟨?_, ?_, ?_⟩, fun hnot => ⟨?_, ?_, fun heq hnil => ?_, fun hne => ?_⟩,
    by rw [hrepair, hlists.1, hanswers.1],
    by rw [hrepair, hlists.2, hanswers.2], _, rfl, fun hactive hsame => ?_, fun hends => ?_⟩
  · rw [hself']
    rfl
  · have hmatch : (u.peer p).mismatch = false := by simpa [hsi] using hmismatch
    rw [hself']
    show (if (u.peer p).mismatch = true then _ else _) = _
    rw [hmatch, State.sampleOf, htimebase, hcontrol]
    rfl
  · have hmatch : (u.peer p).mismatch = false := by simpa [hsi] using hmismatch
    rw [hfresh, timeSampled_fresh, if_pos ⟨rfl, hmatch⟩]
  · rw [hself']
    show (if (u.peer p).mismatch = true then _ else _) = _
    rw [if_pos (hmismatch.mpr hsi), hoffset]
  · rw [hfresh, timeSampled_fresh, if_neg fun hc => Bool.false_ne_true (hc.2.symm.trans (hmismatch.mpr hsi)),
      State.fresh, htimebase]
    rfl
  · rw [hnumber, if_pos hafter]
  · rw [hraised, if_neg fun hc => Bool.false_ne_true (hc.1.symm.trans hafter)]
    exact hct
  · rw [hgap, if_pos ⟨rfl, hafter⟩, hjoined]
  · rw [hnumber, if_neg (by rw [hnot]; exact Bool.false_ne_true)]
  · rw [hgap, if_neg fun hc => Bool.false_ne_true (hnot.symm.trans hc.2), hset]
  · rw [hraised, if_pos ⟨hnot, heq, hnil⟩, hct]
    rfl
  · rw [hraised, if_neg fun hc => hne.elim (absurd hc.2.1) (absurd hc.2.2)]
    exact hct
  · refine (hjournal _ hagrees).1 hactive hrestart ?_
    rw [← peer_of_peers hpeers, hsame, hct, if_pos hactive]
  · refine (hjournal _ (withPeers_agrees t.peers hagrees)).2 ?_ (peerTerms_of_peers hpeers)
    by_cases hactive : (s.peer p).state = .active
    · refine .inr (.inr ?_)
      rw [← peer_of_peers hpeers, hct, if_pos hactive]
      exact hends.resolve_left (not_not.mpr hactive)
    · exact .inl hactive

end Sys2Proof.PassRules
end

section
namespace Sys2Proof.PassRules

open Sys2Proof Sys2Proof.Machine Sys2Proof.LineRules

/-! ### One record of a frame (R57 to R61) -/

theorem takeRecord_known {s : State} {p : Station} {n : Numbering}
    (hstate : (s.peer p).state = .active ∨ (s.peer p).state = .silent) (hn : (s.peer p).numbering = some n)
    (repaired : Bool) (r : Record) : s.takeRecord p repaired r = s.classify p n repaired r := by
  unfold State.takeRecord
  rcases hstate with hs | hs <;> rw [hs, hn]

theorem takeRecord_unknown {s : State} {p : Station} {repaired : Bool}
    (h : (s.peer p).state = .absent ∨ (s.peer p).state = .self ∨ ((s.peer p).numbering = none ∧
      ((s.peer p).state = .silent ∨ repaired = true))) (r : Record) :
    s.takeRecord p repaired r = s.countDuplicate := by
  unfold State.takeRecord
  rcases h with hs | hs | ⟨hn, hs⟩
  · rw [hs]
  · rw [hs]
  · rw [hn]
    cases hstate : (s.peer p).state with
    | active =>
      have hrepaired : repaired = true := by simpa [hstate] using hs
      simp only [hrepaired, if_true]
    | _ => rfl

theorem isNew_iff (n : Numbering) (seq : Seq) : n.isNew seq = true ↔ seq = n.next ∨ seqAfter seq n.next = true := by
  rw [Numbering.isNew, Bool.or_eq_true, beq_iff_eq]

theorem isMissing_iff (s : State) (p : Station) (seq : Seq) :
    s.isMissing p seq = true ↔ ∃ m ∈ s.missing p, m.seq = seq := by
  simp only [State.isMissing, List.any_eq_true, beq_iff_eq]

/-- Settles O54: the entry's state and numbering first, then the three cases of the sequence. -/
theorem recordsAreNewFillsOrDuplicates : Obligations.RecordsAreNewFillsOrDuplicates := by
  intro p repaired r s
  refine ⟨fun h => takeRecord_unknown h r, fun hactive hn hown => ?_,
    fun n hstate hn => ⟨fun hnew => ?_, fun hne hbefore => ⟨fun hmissing => ?_, fun hheld => ?_⟩⟩⟩
  · have hentry := s.peer_setPeer_same p { s.peer p with numbering := some ⟨r.seq, r.seq⟩ }
    have hlearned := takeRecord_known (s := s.setNumbering p ⟨r.seq, r.seq⟩) (p := p) (n := ⟨r.seq, r.seq⟩)
      (.inl ((congrArg PeerEntry.state hentry).trans hactive)) (congrArg PeerEntry.numbering hentry) repaired r
    rw [hlearned, State.takeRecord, hactive, hn, hown]
    rfl
  · refine ⟨_, rfl, ?_⟩
    have hjoined := joined_eq s p (seqsUpTo n.next r.seq)
    rw [takeRecord_known hstate hn, State.classify, if_pos ((isNew_iff n r.seq).mpr hnew), State.advance_eq, hjoined]
    rfl
  all_goals
    have hold : ¬ n.isNew r.seq = true := by
      rw [isNew_iff]
      rintro (he | ha)
      · exact hne he
      · exact Bool.false_ne_true (hbefore.symm.trans ha)
    rw [takeRecord_known hstate hn, State.classify, if_neg hold]
  · rw [if_pos ((isMissing_iff s p r.seq).mpr hmissing)]
    rfl
  · rw [if_neg fun h => by
      obtain ⟨m, hm, hseq⟩ := (isMissing_iff s p r.seq).mp h
      exact hheld m hm hseq]
    rfl

/-! ### The records of a frame (R46, R57, R87, R90) -/

/-- Settles O55: the records at their entry, and no complete-through time changed. -/
theorem recordFramesAreTaken : Obligations.RecordFramesAreTaken := by
  intro c p subject rs repaired f s hf h
  obtain ⟨t, hexec, hpeers, htime, hrepair, hjournal⟩ := exec_passes h
  obtain ⟨-, -, -, -, hself, -⟩ := h
  have hrestart : f.restartNext = none := by rcases hf with ⟨rfl, -⟩ | ⟨rfl, -⟩ <;> rfl
  have hcontent : (s.takeSender p f).takeContent p f = (s.takeSender p f).takeRecords subject repaired rs := by
    rcases hf with ⟨rfl, rfl, rfl⟩ | ⟨rfl, rfl⟩ <;> rfl
  have hrest (v : State) : v.takeRepair p f = if repaired then v.dropProxy subject (rs.map (·.seq)) else v := by
    rcases hf with ⟨rfl, -, rfl⟩ | ⟨rfl, rfl⟩ <;> rfl
  have hanswers := s.takeSender_answers p f
  have htimebase : (s.takeSender p f).timebase = s.timebase := s.takeSender_frame p f .timebase (by decide)
  rw [hrest] at hrepair hjournal
  rw [hcontent] at hpeers htime hrepair hjournal
  generalize s.takeSender p f = u at *
  have hrenumbers := takeRecords_renumbers u subject repaired rs
  have hlists := u.takeRecords_sameAnswers subject repaired rs
  have hkept := takeRecords_timebase u subject repaired rs
  have hfold : rs.foldl (fun v r => v.takeRecord subject repaired r) u = u.takeRecords subject repaired rs := rfl
  have hct : ((u.takeRecords subject repaired rs).peer p).ct = (u.peer p).ct := by
    by_cases hp : p = subject
    · rw [hp, hrenumbers.1]
    · rw [hrenumbers.2 p hp]
  generalize u.takeRecords subject repaired rs = v at *
  have hagrees : v.agrees (if repaired then v.dropProxy subject (rs.map (·.seq)) else v) := by
    split
    · exact ⟨rfl, rfl, rfl, rfl, rfl⟩
    · exact v.agrees_refl
  refine ⟨t, v, hexec, hfold.symm, hpeers, by rw [htime, hkept, htimebase], fun q => ?_, ?_, ?_,
    fun hactive => (hjournal v hagrees).1 hactive hrestart hct, fun hs => (hjournal v hagrees).2 (.inl hs) rfl⟩
  · rw [State.missing_congr hrepair]
    split <;> rfl
  · rw [hrepair, ← hanswers.1, ← hlists.1]
    split <;> rfl
  · rw [hrepair, ← hanswers.2, ← hlists.2]
    split
    · exact List.filter_congr fun e _ => by simp only [beq_eq_decide, List.contains_eq_mem]
    · rfl

end Sys2Proof.PassRules
end

section
namespace Sys2Proof.PassRules

open Sys2Proof Sys2Proof.Machine Sys2Proof.LineRules

/-! ### The records held (R19, R41, R139) -/

theorem retained_some {s : State} {q : Seq} {r : Record} (h : s.retained q = some r) : r ∈ s.history ∧ r.seq = q :=
  ⟨List.mem_of_find?_eq_some h, beq_iff_eq.mp (List.find?_some (p := fun r : Record => r.seq == q) h)⟩

theorem retained_eq_none_iff (s : State) (q : Seq) : s.retained q = none ↔ ∀ r ∈ s.history, r.seq ≠ q := by
  rw [State.retained, List.find?_eq_none]
  simp only [beq_iff_eq, ne_eq]

/-- A note does not change which network records the journal holds. -/
theorem lookup_note (s : State) {d : Detail} (hd : d.isNetwork = false) (origin : Fin 25) (q : Seq) :
    ((s.note d).journal.lookup origin q).isSome = (s.journal.lookup origin q).isSome := by
  have hsame : s.countNote.journal.settling ++ s.countNote.journal.released =
      s.journal.settling ++ s.journal.released := rfl
  rw [Bool.eq_iff_iff, OfferLaws.lookup_isSome_iff, OfferLaws.lookup_isSome_iff, ← hsame]
  rcases JournalInvariants.offer_regions s.countNote (s.makeNote d) false with hkept | ⟨-, h, hrecord, hperm⟩
  · rw [show (s.note d).journal.settling ++ (s.note d).journal.released = _ from hkept]
  · simp only [show (s.note d) = s.countNote.offer (s.makeNote d) false from rfl, hperm.mem_iff, List.mem_cons]
    refine ⟨?_, fun ⟨x, hx, hnames⟩ => ⟨x, .inr hx, hnames⟩⟩
    rintro ⟨x, rfl | hx, hnet, hrest⟩
    · rw [hrecord] at hnet
      exact absurd (hd.symm.trans hnet) Bool.false_ne_true
    · exact ⟨x, hx, hnet, hrest⟩

theorem repair_ext {s t : State} (hmissing : ∀ q, t.missing q = s.missing q) (hlists : s.sameAnswers t) :
    t.repair = s.repair := by
  obtain ⟨horigin, hproxy⟩ := hlists
  have hsets : t.repair.missing = s.repair.missing := Vector.ext fun i hi => hmissing ⟨i, hi⟩
  generalize t.repair = x, s.repair = y at *
  cases x
  cases y
  simp_all

/-- A frame that restarts nothing leaves the Repair Unit, the Outbound Queue and the network records of the
journal to its content. -/
theorem takeSender_repair {s : State} {p : Station} {f : Frame} (hself : (s.peer p).state ≠ .self)
    (h : f.restartNext = none) : (s.takeSender p f).repair = s.repair ∧
      ∀ origin q, ((s.takeSender p f).journal.lookup origin q).isSome = (s.journal.lookup origin q).isSome := by
  refine ⟨repair_ext (fun q => ?_) (s.takeSender_answers p f), fun origin q => ?_⟩
  · rw [s.takeSender_missing q f hself, if_neg fun hc => hc.2.2 h]
  · obtain ⟨hactive, hnew, -⟩ := s.takeSender_agrees p f
    by_cases ha : (s.peer p).state = .active
    · rw [(hactive ha h).journal]
    · have hjournal := (hnew (by
        cases hs : (s.peer p).state with
        | self => exact absurd hs hself
        | active => exact absurd hs ha
        | absent => exact .inl rfl
        | silent => exact .inr ⟨rfl, h⟩)).journal
      rw [hjournal, lookup_note s rfl]

/-! ### Answers in fours (R83) -/

theorem inFours_flatten {n : Nat} {rs : List Record} (h : rs.length ≤ n) : (inFours n rs).flatten = rs := by
  induction n generalizing rs with
  | zero => rw [List.length_eq_zero_iff.mp (Nat.le_zero.mp h)]; rfl
  | succ n ih =>
    cases rs with
    | nil => rfl
    | cons r rs =>
      rw [inFours, List.flatten_cons, ih (by
        simp only [List.length_drop, List.length_cons, Config.frameRecords] at h ⊢
        omega), List.take_append_drop]

theorem inFours_length {n : Nat} {rs : List Record} : ∀ g ∈ inFours n rs, 1 ≤ g.length ∧ g.length ≤ 4 := by
  induction n generalizing rs with
  | zero => exact fun g hg => absurd hg List.not_mem_nil
  | succ n ih =>
    cases rs with
    | nil => exact fun g hg => absurd hg List.not_mem_nil
    | cons r rs =>
      intro g hg
      rcases List.mem_cons.mp hg with rfl | hg
      · simp only [List.length_take, List.length_cons, Config.frameRecords]
        omega
      · exact ih g hg

theorem inFours_dropLast {n : Nat} {rs : List Record} : ∀ g ∈ (inFours n rs).dropLast, g.length = 4 := by
  induction n generalizing rs with
  | zero => exact fun g hg => absurd hg List.not_mem_nil
  | succ n ih =>
    cases rs with
    | nil => exact fun g hg => absurd hg List.not_mem_nil
    | cons r rs =>
      intro g hg
      have hmore : inFours n ((r :: rs).drop Config.frameRecords) ≠ [] := by
        intro hnil
        rw [inFours, hnil] at hg
        contradiction
      rw [inFours, List.dropLast_cons_of_ne_nil hmore] at hg
      rcases List.mem_cons.mp hg with rfl | hg
      · have hlong : (r :: rs).drop Config.frameRecords ≠ [] := by
          intro hnil
          rw [hnil] at hmore
          cases n <;> exact hmore rfl
        have hlength := List.length_pos_of_ne_nil hlong
        simp only [List.length_drop, List.length_take, List.length_cons, Config.frameRecords] at hlength ⊢
        omega
      · exact ih g hg

/-- R83: the answer of the origin: its records in fours, then what it no longer holds. -/
theorem originAnswer_groups (s : State) (p : Station) (seqs : List Seq) : ∃ groups : List (List Record),
    s.originAnswer p seqs = groups.map (.repairData p) ++
      (if seqs.all (fun q => (s.retained q).isSome) then []
        else [.repairNone p (seqs.filter (fun q => (s.retained q).isNone))]) ∧
    groups.flatten = seqs.filterMap s.retained ∧
    (∀ g ∈ groups, 1 ≤ g.length ∧ g.length ≤ 4) ∧ (∀ g ∈ groups.dropLast, g.length = 4) := by
  refine ⟨_, ?_, inFours_flatten (Nat.le_refl _), inFours_length, inFours_dropLast⟩
  have hgone : (seqs.filter (fun q => (s.retained q).isNone)).isEmpty =
      seqs.all (fun q => (s.retained q).isSome) := by
    rw [Bool.eq_iff_iff, List.isEmpty_iff, List.filter_eq_nil_iff, List.all_eq_true]
    simp only [Option.isNone_iff_eq_none, Option.isSome_iff_ne_none, ne_eq]
  rw [← hgone]
  rfl

/-! ### The proxy list (R86) -/

/-- R86: the proxy list once a named sequence of `p` has been taken. -/
def proxyWith (j : Journal) (delay : Nat) (p : Station) (list : List ProxyEntry) (q : Seq) : List ProxyEntry :=
  if (j.lookup (originOf p) q).isSome && !(list.any (fun e => e.subject == p && e.seq == q)) &&
      list.length < Config.proxyCapacity then
    list ++ [{ subject := p, seq := q, timer := .timing delay }]
  else list

theorem addProxy_eq (s : State) (p : Station) (q : Seq) : s.addProxy p q =
    { s with repair := { s.repair with proxy := proxyWith s.journal s.proxyDelay p s.repair.proxy q } } := by
  unfold State.addProxy proxyWith
  split <;> rfl

theorem foldl_addProxy (s : State) (p : Station) (seqs : List Seq) :
    seqs.foldl (fun t q => t.addProxy p q) s = { s with repair := { s.repair with
      proxy := seqs.foldl (proxyWith s.journal s.proxyDelay p) s.repair.proxy } } := by
  induction seqs generalizing s with
  | nil => rfl
  | cons q seqs ih =>
    rw [List.foldl_cons, List.foldl_cons, addProxy_eq, ih]
    rfl

/-- The named sequences that the journal holds join the list in their order, while it has room. -/
theorem foldl_proxyWith (j : Journal) (delay : Nat) (p : Station) {seqs : List Seq} (hnodup : seqs.Nodup)
    (list : List ProxyEntry) : seqs.foldl (proxyWith j delay p) list = list ++
      ((seqs.filter (fun q => (j.lookup (originOf p) q).isSome &&
        list.all (fun e => !(e.subject == p && e.seq == q)))).take (8 - list.length)).map (fun q =>
          ⟨p, q, .timing delay⟩) := by
  induction seqs generalizing list with
  | nil => simp
  | cons a seqs ih =>
    obtain ⟨hfirst, hrest⟩ := List.nodup_cons.mp hnodup
    have hnone (q : Seq) : (!(list.any (fun e => e.subject == p && e.seq == q))) =
        list.all (fun e => !(e.subject == p && e.seq == q)) := by
      rw [List.not_any_eq_all_not]
    rw [List.foldl_cons, ih hrest, proxyWith, hnone, List.filter_cons]
    by_cases hroom : list.length < Config.proxyCapacity
    · have hlt : list.length < 8 := hroom
      rw [decide_eq_true hroom, Bool.and_true]
      split
      · -- the sequence joins, and the others are not it
        have hothers : ∀ q ∈ seqs, (list ++ [(⟨p, a, .timing delay⟩ : ProxyEntry)]).all
            (fun e => !(e.subject == p && e.seq == q)) = list.all (fun e => !(e.subject == p && e.seq == q)) := by
          intro q hq
          have hne : (a == q) = false := by
            rw [beq_eq_false_iff_ne]
            rintro rfl
            exact hfirst hq
          simp [List.all_append, hne]
        rw [List.filter_congr (fun q hq => by rw [hothers q hq]), List.length_append, List.length_singleton,
          show 8 - list.length = (8 - (list.length + 1)) + 1 by omega, List.take_succ_cons, List.map_cons,
          List.append_assoc]
        rfl
      · rfl
    · have hfull : 8 - list.length = 0 := by
        have : ¬ list.length < 8 := hroom
        omega
      rw [decide_eq_false hroom, Bool.and_false, if_neg Bool.false_ne_true, hfull, List.take_zero, List.take_zero]

/-! ### A request heard (R79, R83, R86, R89) -/

theorem holdBackEntry_eq (s : State) (seqs : List Seq) (m : Missing) : s.holdBackEntry seqs m =
    if m.seq ∈ seqs ∧ m.timer.isDue = false ∧ m.heard = false then
      { m with timer := .timing (s.control.config.ri * 1000), heard := true } else m := by
  unfold State.holdBackEntry
  simp only [List.contains_eq_mem, Bool.and_eq_true, decide_eq_true_eq, Bool.not_eq_true', and_assoc]
  rfl

theorem running_iff (s : State) : s.running = true ↔ s.control.lifecycle = .running := by
  rw [State.running, beq_iff_eq]

theorem takeOriginRequest_repair (s : State) (p : Station) (seqs : List Seq) :
    (s.takeOriginRequest p seqs).repair = { s.repair with originAnswers :=
      if s.control.lifecycle = .running ∧ s.repair.originAnswers.length < 4
      then s.repair.originAnswers ++ [s.originAnswer p seqs] else s.repair.originAnswers } := by
  have hroom : (s.running && decide (s.repair.originAnswers.length < Config.originCapacity)) = true ↔
      s.control.lifecycle = .running ∧ s.repair.originAnswers.length < 4 := by
    rw [Bool.and_eq_true, running_iff, decide_eq_true_eq]
    rfl
  unfold State.takeOriginRequest
  by_cases h : s.control.lifecycle = .running ∧ s.repair.originAnswers.length < 4
  · rw [if_pos (hroom.mpr h), if_pos h]
  · rw [if_neg (fun hc => h (hroom.mp hc)), if_neg h]

/-- R83, R86: what a request of another station adds to the answer lists. -/
theorem takeRequest_answers (s : State) {sender subject : Station} (hne : subject ≠ sender) (proxy : Bool)
    {seqs : List Seq} (hnodup : seqs.Nodup) :
    (s.own = some subject → (s.takeRequest sender subject proxy seqs).repair.proxy = s.repair.proxy ∧
      (s.takeRequest sender subject proxy seqs).repair.originAnswers = if s.control.lifecycle = .running ∧
          s.repair.originAnswers.length < 4
        then s.repair.originAnswers ++ [s.originAnswer subject seqs] else s.repair.originAnswers) ∧
    (s.own ≠ some subject → (s.takeRequest sender subject proxy seqs).repair.originAnswers = s.repair.originAnswers ∧
      (s.takeRequest sender subject proxy seqs).repair.proxy = if proxy = true ∧ s.control.lifecycle = .running
        then s.repair.proxy ++ ((seqs.filter (fun q => (s.journal.lookup (originOf subject) q).isSome &&
            s.repair.proxy.all (fun e => !(e.subject == subject && e.seq == q)))).take
            (8 - s.repair.proxy.length)).map (fun q => ⟨subject, q, .timing (s.control.address.toNat * 1000)⟩)
        else s.repair.proxy) := by
  have hown : (s.suppress subject seqs).own = s.own := rfl
  have horigin := takeOriginRequest_repair (s.suppress subject seqs) subject seqs
  unfold State.takeRequest
  simp only
  rw [if_neg hne, hown]
  refine ⟨fun ho => ?_, fun ho => ?_⟩
  · rw [if_pos ho, horigin]
    exact ⟨rfl, rfl⟩
  · rw [if_neg ho]
    cases proxy with
    | false => simp only [Bool.false_eq_true, if_false, false_and]; exact ⟨rfl, rfl⟩
    | true =>
      simp only [if_true, true_and]
      rw [State.takeProxyRequest]
      by_cases hr : s.control.lifecycle = .running
      · rw [if_pos ((running_iff (s.suppress subject seqs)).mpr hr), if_pos hr, foldl_addProxy, ← foldl_proxyWith _ _ _ hnodup]
        exact ⟨rfl, rfl⟩
      · rw [if_neg (fun h => hr ((running_iff (s.suppress subject seqs)).mp h)), if_neg hr]
        exact ⟨rfl, rfl⟩

end Sys2Proof.PassRules
end

section
namespace Sys2Proof.PassRules

open Sys2Proof Sys2Proof.Machine Sys2Proof.LineRules

/-- A frame taken as valid is one that its sender can send. -/
theorem takesValid_sendable {c : Instr} {p : Station} {f : Frame} {s : State} (h : s.takesValid c p f) :
    f.sendable p := by
  obtain ⟨-, ⟨raw, -, -, hcheck⟩, -⟩ := h
  obtain ⟨arb, kind, body, hcontent⟩ := checkFrame_valid hcheck
  exact (FormatRules.parseBody_some (checkContent_valid hcontent).2.2).2.1

/-- R79, R83, R86, R89: the row of a REPAIR_REQ. -/
theorem repairReq_taken {c : Instr} {p subject : Station} {proxy : Bool} {seqs : List Seq} {s : State}
    (h : s.takesValid c p (.repairReq subject proxy seqs)) : ∃ t, exec c s = .next t ∧
      (subject = p → t.repair = s.repair) ∧
      (∀ q, q ≠ subject → t.missing q = s.missing q) ∧
      (subject ≠ p → t.missing subject = (s.missing subject).map (fun m =>
        if m.seq ∈ seqs ∧ m.timer.isDue = false ∧ m.heard = false then
          { m with timer := .timing (s.control.config.ri * 1000), heard := true } else m)) ∧
      (subject ≠ p → s.own = some subject → t.repair.proxy = s.repair.proxy ∧
        t.repair.originAnswers = if s.control.lifecycle = .running ∧
            s.repair.originAnswers.length < 4
          then s.repair.originAnswers ++ [s.originAnswer subject seqs]
          else s.repair.originAnswers) ∧
      (subject ≠ p → s.own ≠ some subject → t.repair.originAnswers = s.repair.originAnswers ∧
        t.repair.proxy = if proxy = true ∧ s.control.lifecycle = .running
          then s.repair.proxy ++ ((seqs.filter (fun q =>
              (s.journal.lookup (originOf subject) q).isSome &&
                s.repair.proxy.all (fun e => !(e.subject == subject && e.seq == q)))).take
              (8 - s.repair.proxy.length)).map (fun q =>
            ⟨subject, q, .timing (s.control.address.toNat * 1000)⟩)
          else s.repair.proxy) ∧
      ((s.peer p).state = .active → s.journaledIn t) ∧
      ((s.peer p).state ≠ .active →
        (s.takeSender p (.repairReq subject proxy seqs)).computeHorizon.journaledIn t) := by
  obtain ⟨t, hexec, -, -, hrepair, hjournal⟩ := exec_passes h
  obtain ⟨-, -, hnodup⟩ : 1 ≤ seqs.length ∧ seqs.length ≤ Config.frameSequences ∧ seqs.Nodup := takesValid_sendable h
  obtain ⟨-, -, -, -, hself, -⟩ := h
  have hrestart : Frame.restartNext (.repairReq subject proxy seqs) = none := rfl
  obtain ⟨hsame, hlookup⟩ := takeSender_repair hself hrestart
  have hsender := s.takeSender_frame p (.repairReq subject proxy seqs)
  have hactive := (s.takeSender_agrees p (.repairReq subject proxy seqs)).1
  have hcontent (u : State) : (u.takeContent p (.repairReq subject proxy seqs)).takeRepair p (.repairReq subject proxy seqs) =
      u.takeRequest p subject proxy seqs := rfl
  have hkept (u : State) : u.takeContent p (.repairReq subject proxy seqs) = u := rfl
  rw [hcontent] at hrepair hjournal
  rw [hkept] at hjournal
  generalize s.takeSender p (.repairReq subject proxy seqs) = u at *
  have hcontrol : u.control = s.control := hsender .control (by decide)
  have hhistory : u.history = s.history := hsender .history (by decide)
  have hown : u.own = s.own := by rw [State.own, hcontrol]; rfl
  have hretained : u.retained = s.retained := by
    funext q
    rw [State.retained, hhistory]
    rfl
  have hanswer : u.originAnswer subject seqs = s.originAnswer subject seqs := by
    rw [State.originAnswer, hretained]
    rfl
  have hmissing (q : Station) : u.missing q = s.missing q := State.missing_congr hsame q
  have hset (q : Station) := (State.missing_congr hrepair q).trans (u.takeRequest_missing p subject q proxy seqs)
  have hagrees := u.takeRequest_agrees p subject proxy seqs
  refine ⟨t, hexec, fun he => ?_, fun q hq => ?_, fun hne => ?_, fun hne ho => ?_, fun hne ho => ?_, fun ha => ?_,
    fun ha => (hjournal u hagrees).2 (.inl ha) rfl⟩
  · rw [hrepair, State.takeRequest, if_pos he, hsame]
  · rw [hset, if_neg fun hc => hq hc.2, hmissing]
  · rw [hset, if_pos ⟨hne, rfl⟩, hmissing]
    refine List.map_congr_left fun m _ => ?_
    rw [holdBackEntry_eq, hcontrol]
  · have hlists := (takeRequest_answers u hne proxy hnodup).1 (hown.trans ho)
    rw [hsame, hcontrol, hanswer] at hlists
    rw [hrepair]
    exact hlists
  · have hlists := (takeRequest_answers u hne proxy hnodup).2 (by rw [hown]; exact ho)
    simp only [hsame, hcontrol, hlookup] at hlists
    rw [hrepair]
    exact hlists
  · exact (hjournal s ((hactive ha hrestart).trans hagrees)).1 ha hrestart rfl

/-- R81, R89: the row of a REPAIR_NONE. -/
theorem repairNone_taken {c : Instr} {p subject : Station} {seqs : List Seq} {s : State}
    (h : s.takesValid c p (.repairNone subject seqs)) : ∃ t u, exec c s = .next t ∧
      u = (s.takeSender p (.repairNone subject seqs)).declareRuns p .expired (if subject = p
        then ((s.missing p).filter (fun m => decide (m.seq ∈ seqs))).map (·.seq) else []) ∧
      (∀ q, q ≠ subject → t.missing q = s.missing q) ∧
      (subject ≠ p → t.missing subject = s.missing subject) ∧
      (subject = p → t.missing p = (s.missing p).filter (fun m => decide (m.seq ∉ seqs))) ∧
      t.repair.originAnswers = s.repair.originAnswers ∧ t.repair.proxy = s.repair.proxy ∧
      ((s.peer p).state = .active → u.journaledIn t) ∧
      ((s.peer p).state ≠ .active → u.computeHorizon.journaledIn t) := by
  obtain ⟨t, hexec, -, -, hrepair, hjournal⟩ := exec_passes h
  obtain ⟨-, -, -, -, hself, -⟩ := h
  have hrestart : Frame.restartNext (.repairNone subject seqs) = none := rfl
  obtain ⟨hsame, -⟩ := takeSender_repair hself hrestart
  have hkept (u : State) : u.takeContent p (.repairNone subject seqs) = u := rfl
  rw [hkept] at hrepair hjournal
  generalize s.takeSender p (.repairNone subject seqs) = u at *
  have hmissing (q : Station) : u.missing q = s.missing q := State.missing_congr hsame q
  have hset (q : Station) := (State.missing_congr hrepair q).trans (u.takeRepair_missing p q (.repairNone subject seqs))
  have hlists : u.sameAnswers (u.takeRepair p (.repairNone subject seqs)) := by
    show u.sameAnswers (if subject = p then _ else _)
    split
    · exact u.declareLost_sameAnswers _ _ _
    · exact u.sameAnswers_refl
  have hagrees : (u.declareRuns p .expired (if subject = p
      then ((s.missing p).filter (fun m => decide (m.seq ∈ seqs))).map (·.seq) else [])).agrees
      (u.takeRepair p (.repairNone subject seqs)) := by
    show State.agrees _ (if subject = p then _ else _)
    by_cases he : subject = p
    · rw [if_pos he, if_pos he, ← hmissing, he]
      have hnamed : (fun m : Missing => decide (m.seq ∈ seqs)) = fun m => seqs.contains m.seq :=
        funext fun m => (List.contains_eq_mem m.seq seqs).symm
      rw [hnamed]
      exact u.declareLost_agrees p .expired (fun m => seqs.contains m.seq)
    · rw [if_neg he, if_neg he]
      exact u.agrees_refl
  obtain ⟨hactive, hcomputed⟩ := hjournal _ hagrees
  refine ⟨t, _, hexec, rfl, fun q hq => ?_, fun hne => ?_, fun he => ?_, by rw [hrepair, hlists.1, hsame],
    by rw [hrepair, hlists.2, hsame], fun ha => hactive ha hrestart rfl, fun ha => hcomputed (.inl ha) ?_⟩
  · rw [hset, ← hmissing]
    exact if_neg fun hc => hq hc.2
  · rw [hset, ← hmissing]
    exact if_neg fun hc => hne hc.1
  · rw [hset, ← hmissing, he]
    refine (if_pos ⟨rfl, rfl⟩).trans (List.filter_congr fun m _ => ?_)
    rw [List.contains_eq_mem, decide_not]
  · exact peerTerms_of_peers (State.declareRuns_peers _ _ _ _)

/-- Settles O56: the rows of the two frames, and the answer of an origin by its groups. -/
theorem repairFramesAreTaken : Obligations.RepairFramesAreTaken :=
  ⟨fun _ _ _ _ _ _ h => repairReq_taken h, fun q s => ⟨fun _ hr => retained_some hr, retained_eq_none_iff s q⟩,
    fun p seqs s => originAnswer_groups s p seqs, fun _ _ _ _ _ h => repairNone_taken h⟩

end Sys2Proof.PassRules
end

section
namespace Sys2Proof.SendRules

open Sys2Proof Sys2Proof.Machine Sys2Proof.LineRules

/-! ### The start of a frame (R147, R148) -/

theorem mayBegin_iff (s : State) : s.mayBegin = true ↔ s.inReset = false ∧ s.line.tx = .free ∧
    s.control.lifecycle = .running ∧ s.line.rx = .idle ∧ s.line.stuck = false := by
  simp only [State.mayBegin, State.running, Bool.and_eq_true, Bool.not_eq_true', beq_iff_eq, and_assoc]

theorem beginFrame_sends (s : State) (sel : Selection) : s.beginFrame sel = s.sends sel.proxy sel.source sel.frame :=
  rfl

/-- A frame of a supplier begins. -/
theorem exec_frameBegin {s : State} (hs : s.IrqKept) (hmay : s.mayBegin = true) {sel : Selection}
    (h : s.select = some sel) : exec .frameBegin s = .next (s.sends sel.proxy sel.source sel.frame) := by
  have hexec : exec .frameBegin s = commit (s.beginFrame sel) := by
    show execFrameBegin s = _
    rw [execFrameBegin, h]
    exact if_pos hmay
  rw [hexec, commit_of_frame hs (s.beginFrame_frame sel) (by decide), beginFrame_sends]

theorem exec_frameBegin_none {s : State} (h : s.select = none ∨ s.mayBegin = false) : exec .frameBegin s = .next s := by
  show execFrameBegin s = _
  unfold execFrameBegin
  rcases h with h | h
  · rw [h]
    rfl
  · rw [h]
    cases s.select <;> rfl

theorem firstUnsent_eq (q : Outbound) : q.firstUnsent = (q.records.head?.map (·.seq)).getD q.nextSeq := by
  unfold Outbound.firstUnsent
  cases q.records <;> rfl

section
variable {s : State}

theorem select_hello (h : s.line.helloOwed = true) : s.select = some
    ⟨.hello s.control.restartPending, s.helloFrame, s.repair.proxy⟩ := by
  rw [State.select, if_pos h]

theorem select_time (hhello : s.line.helloOwed = false) (h : s.timebase.timeOwed = true) :
    s.select = some ⟨.time, s.timeFrame, s.repair.proxy⟩ := by
  rw [State.select, if_neg (by rw [hhello]; exact Bool.false_ne_true), if_pos h]

theorem select_answer (hhello : s.line.helloOwed = false) (htime : s.timebase.timeOwed = false) {f : Frame}
    {frames : List Frame} {answers : List (List Frame)} (h : s.repair.originAnswers = (f :: frames) :: answers) :
    s.select = some ⟨.originAnswer, f, s.repair.proxy⟩ := by
  rw [State.select, if_neg (by rw [hhello]; exact Bool.false_ne_true),
    if_neg (by rw [htime]; exact Bool.false_ne_true), h]
  rfl

theorem select_lower (hhello : s.line.helloOwed = false) (htime : s.timebase.timeOwed = false)
    (h : s.repair.originAnswers = []) : s.select = s.selectProxy := by
  rw [State.select, if_neg (by rw [hhello]; exact Bool.false_ne_true),
    if_neg (by rw [htime]; exact Bool.false_ne_true), h]
  rfl

end

/-- Settles O57: the first three places in turn. -/
theorem frameBeginSendsTheFirstPlace : Obligations.FrameBeginSendsTheFirstPlace := by
  intro s hs
  refine ⟨fun h => exec_frameBegin_none (.inr ?_), fun hout hfree hrun hidle hstuck => ?_⟩
  · rw [← Bool.not_eq_true, mayBegin_iff]
    rintro ⟨hout, hfree, hrun, hidle, hstuck⟩
    rcases h with h | h | h | h | h
    · exact Bool.false_ne_true (hout.symm.trans h)
    · exact h hfree
    · exact h hrun
    · exact h hidle
    · exact Bool.false_ne_true (hstuck.symm.trans h)
  · have hmay := (mayBegin_iff s).mpr ⟨hout, hfree, hrun, hidle, hstuck⟩
    obtain ⟨hmem, hown, hall⟩ := StepRules.foldl_earlier (s.outbound.records.map (·.stamp)) s.ownTerm
    refine ⟨s.outbound.firstUnsent, s.settledBefore, firstUnsent_eq _, hown,
      fun r hr => hall _ (List.mem_map_of_mem hr), hmem.imp id fun h => ?_, fun hhello => ?_, fun hhello htime => ?_,
      fun hhello htime f frames answers hanswers => ?_⟩
    · obtain ⟨r, hr, hstamp⟩ := List.mem_map.mp h
      exact ⟨r, hr, hstamp.symm⟩
    · exact exec_frameBegin hs hmay (select_hello hhello)
    · exact exec_frameBegin hs hmay (select_time hhello htime)
    · exact exec_frameBegin hs hmay (select_answer hhello htime hanswers)

end Sys2Proof.SendRules
end

section
namespace Sys2Proof.SendRules

open Sys2Proof Sys2Proof.Machine Sys2Proof.LineRules

/-! ### The due proxy entry that has waited longest (R88) -/

theorem dueEarlier_none (e : ProxyEntry) : dueEarlier none e = if e.timer.isDue = true then some e else none := rfl

theorem dueEarlier_some (b e : ProxyEntry) : dueEarlier (some b) e =
    if e.timer.isDue = true ∧ b.timer.age < e.timer.age then some e else some b := by
  unfold dueEarlier
  by_cases hdue : e.timer.isDue = true
  · simp only [hdue, if_true, true_and]
  · simp only [hdue, Bool.false_eq_true, if_false, false_and]

theorem foldl_dueEarlier_mem {list : List ProxyEntry} {best : Option ProxyEntry} {e : ProxyEntry}
    (h : list.foldl dueEarlier best = some e) : best = some e ∨ (e ∈ list ∧ e.timer.isDue = true) := by
  induction list generalizing best with
  | nil => exact .inl h
  | cons x xs ih =>
    rcases ih h with hx | ⟨hmem, hdue⟩
    · unfold dueEarlier at hx
      split at hx
      · rename_i hdue
        have htake : some x = some e ∨ best = some e := by
          cases best with
          | none => exact .inl hx
          | some b =>
            simp only at hx
            split at hx
            · exact .inl hx
            · exact .inr hx
        rcases htake with hxe | hb
        · rw [← Option.some.inj hxe]
          exact .inr ⟨List.mem_cons_self, hdue⟩
        · exact .inl hb
      · exact .inl hx
    · exact .inr ⟨List.mem_cons_of_mem _ hmem, hdue⟩

theorem foldl_dueEarlier_isSome {list : List ProxyEntry} {x : ProxyEntry} (hx : x ∈ list) (hdue : x.timer.isDue = true)
    (best : Option ProxyEntry) : list.foldl dueEarlier best ≠ none := by
  have hstep (b : ProxyEntry) (y : ProxyEntry) : dueEarlier (some b) y ≠ none := by
    rw [dueEarlier_some]
    split <;> nofun
  have hkept (l : List ProxyEntry) : ∀ b, l.foldl dueEarlier (some b) ≠ none := by
    induction l with
    | nil => exact fun _ => nofun
    | cons y ys ih =>
      intro b
      obtain ⟨c, hc⟩ := Option.ne_none_iff_exists'.mp (hstep b y)
      rw [List.foldl_cons, hc]
      exact ih c
  induction list generalizing best with
  | nil => exact absurd hx List.not_mem_nil
  | cons y ys ih =>
    rcases List.mem_cons.mp hx with rfl | hx
    · have hsome : dueEarlier best x ≠ none := by
        cases best with
        | none =>
          rw [dueEarlier_none, if_pos hdue]
          nofun
        | some b => exact hstep b x
      obtain ⟨c, hc⟩ := Option.ne_none_iff_exists'.mp hsome
      rw [List.foldl_cons, hc]
      exact hkept ys c
    · exact ih hx _

/-- Of the due entries the one due longest is taken, the first of them at equal instants. -/
theorem foldl_dueEarlier_split {before behind : List ProxyEntry} {e : ProxyEntry} (hdue : e.timer.isDue = true)
    (hbefore : ∀ x ∈ before, x.timer.isDue = true → x.timer.age < e.timer.age)
    (hbehind : ∀ x ∈ behind, x.timer.isDue = true → x.timer.age ≤ e.timer.age) :
    (before ++ e :: behind).foldl dueEarlier none = some e := by
  have hrest (l : List ProxyEntry) (hl : ∀ x ∈ l, x.timer.isDue = true → x.timer.age ≤ e.timer.age) :
      l.foldl dueEarlier (some e) = some e := by
    induction l with
    | nil => rfl
    | cons y ys ih =>
      rw [List.foldl_cons, dueEarlier_some, if_neg fun ⟨hy, hlt⟩ =>
        absurd (hl y List.mem_cons_self hy) (Nat.not_le.mpr hlt)]
      exact ih fun x hx => hl x (List.mem_cons_of_mem _ hx)
  have hfirst : dueEarlier (before.foldl dueEarlier none) e = some e := by
    cases hb : before.foldl dueEarlier none with
    | none => rw [dueEarlier_none, if_pos hdue]
    | some b =>
      obtain ⟨hmem, hbdue⟩ := (foldl_dueEarlier_mem hb).resolve_left nofun
      rw [dueEarlier_some, if_pos ⟨hdue, hbefore b hmem hbdue⟩]
  rw [List.foldl_append, List.foldl_cons, hfirst, hrest behind hbehind]

/-! ### The proxy answer (R88) -/

/-- R88: what one try takes: `e` with the other due entries of its subject, up to 4. -/
theorem proxyGroup_due {e x : ProxyEntry} {list : List ProxyEntry} (he : e ∈ list) (hdue : e.timer.isDue = true)
    (h : x ∈ proxyGroup e list) : x ∈ list ∧ x.timer.isDue = true := by
  rcases List.mem_cons.mp h with rfl | h
  · exact ⟨he, hdue⟩
  · obtain ⟨hmem, hx⟩ := List.mem_filter.mp (List.mem_of_mem_take h)
    simp only [Bool.and_eq_true] at hx
    exact ⟨hmem, hx.1.1⟩

/-- R88: what stays in the list after one try. -/
def proxyRest (j : Journal) (e : ProxyEntry) (list : List ProxyEntry) : List ProxyEntry :=
  list.filter (fun x => !((proxyGroup e list).contains x && (j.proxyRecord x).isNone))

theorem proxyRest_length {j : Journal} {e : ProxyEntry} {list : List ProxyEntry} (he : e ∈ list)
    (h : (proxyGroup e list).filterMap j.proxyRecord = []) : (proxyRest j e list).length < list.length := by
  refine List.length_filter_lt_length_iff_exists.mpr ⟨e, he, ?_⟩
  have hgroup : e ∈ proxyGroup e list := List.mem_cons_self
  have hgone : j.proxyRecord e = none := List.filterMap_eq_nil_iff.mp h e hgroup
  rw [hgone, List.contains_eq_mem, decide_eq_true hgroup]
  decide

theorem buildProxy_succ (j : Journal) (n : Nat) (list : List ProxyEntry) : j.buildProxy (n + 1) list =
    match list.foldl dueEarlier none with
    | none => (list, none)
    | some e => match (proxyGroup e list).filterMap j.proxyRecord with
      | [] => j.buildProxy n (proxyRest j e list)
      | r :: rs => (proxyRest j e list, some (e.subject, r :: rs)) := by
  rw [Journal.buildProxy]
  rfl

theorem buildProxy_nil (j : Journal) (n : Nat) : j.buildProxy n [] = ([], none) := by
  cases n <;> rfl

section
variable {j : Journal} {n : Nat} {list : List ProxyEntry} {e : ProxyEntry}

theorem buildProxy_found (hn : list.length ≤ n) (he : list.foldl dueEarlier none = some e) {r : Record} {rs : List Record}
    (h : (proxyGroup e list).filterMap j.proxyRecord = r :: rs) :
    j.buildProxy n list = (proxyRest j e list, some (e.subject, r :: rs)) := by
  cases n with
  | zero =>
    rw [List.length_eq_zero_iff.mp (Nat.le_zero.mp hn)] at he
    contradiction
  | succ n => rw [buildProxy_succ, he]; simp only [h]

theorem buildProxy_gone (he : list.foldl dueEarlier none = some e)
    (h : (proxyGroup e list).filterMap j.proxyRecord = []) :
    j.buildProxy (n + 1) list = j.buildProxy n (proxyRest j e list) := by
  rw [buildProxy_succ, he]
  simp only [h]

/-- The number of tries allowed does not matter once it reaches the length of the list. -/
theorem buildProxy_tries {m : Nat} (hn : list.length ≤ n) (hm : list.length ≤ m) :
    j.buildProxy n list = j.buildProxy m list := by
  induction n generalizing m list with
  | zero =>
    rw [List.length_eq_zero_iff.mp (Nat.le_zero.mp hn), buildProxy_nil, buildProxy_nil]
  | succ n ih =>
    cases m with
    | zero => rw [List.length_eq_zero_iff.mp (Nat.le_zero.mp hm), buildProxy_nil, buildProxy_nil]
    | succ m =>
      cases he : list.foldl dueEarlier none with
      | none => rw [buildProxy_succ, buildProxy_succ, he]
      | some e =>
        obtain ⟨hmem, -⟩ := (foldl_dueEarlier_mem he).resolve_left nofun
        cases hg : (proxyGroup e list).filterMap j.proxyRecord with
        | nil =>
          have hlt := proxyRest_length hmem hg
          rw [buildProxy_gone he hg, buildProxy_gone he hg]
          exact ih (by omega) (by omega)
        | cons r rs => rw [buildProxy_found hn he hg, buildProxy_found hm he hg]

theorem mem_proxyRest {x : ProxyEntry} (hx : x ∈ list) (h : j.proxyRecord x ≠ none) : x ∈ proxyRest j e list := by
  refine List.mem_filter.mpr ⟨hx, ?_⟩
  rw [Option.isNone_eq_false_iff.mpr (Option.isSome_iff_ne_none.mpr h), Bool.and_false]
  rfl

theorem proxyRest_sublist : proxyRest j e list ⊆ list := fun _ hx => (List.mem_filter.mp hx).1

/-- With no record left for any due entry, every due entry leaves and no answer is made. -/
theorem buildProxy_empty (hn : list.length ≤ n) (h : ∀ x ∈ list, x.timer.isDue = true → j.proxyRecord x = none) :
    j.buildProxy n list = (list.filter (fun x => !x.timer.isDue), none) := by
  induction n generalizing list with
  | zero => rw [List.length_eq_zero_iff.mp (Nat.le_zero.mp hn)]; rfl
  | succ n ih =>
    cases he : list.foldl dueEarlier none with
    | none =>
      have hnone : ∀ x ∈ list, (!x.timer.isDue) = true := fun x hx => by
        rw [Bool.not_eq_true']
        by_contra hdue
        exact foldl_dueEarlier_isSome hx (by simpa using hdue) none he
      rw [buildProxy_succ, he, List.filter_eq_self.mpr hnone]
    | some e =>
      obtain ⟨hmem, hdue⟩ := (foldl_dueEarlier_mem he).resolve_left nofun
      have hgroup : (proxyGroup e list).filterMap j.proxyRecord = [] := by
        refine List.filterMap_eq_nil_iff.mpr fun x hx => ?_
        obtain ⟨hxl, hxd⟩ := proxyGroup_due hmem hdue hx
        exact h x hxl hxd
      have hlt := proxyRest_length hmem hgroup
      have hsame : (proxyRest j e list).filter (fun x => !x.timer.isDue) = list.filter (fun x => !x.timer.isDue) := by
        rw [proxyRest, List.filter_filter]
        refine List.filter_congr fun x hx => ?_
        by_cases hxd : x.timer.isDue = true
        · rw [hxd]
          rfl
        · have hout : ¬ x ∈ proxyGroup e list := fun hc => hxd (proxyGroup_due hmem hdue hc).2
          rw [List.contains_eq_mem, decide_eq_false hout, Bool.false_and, Bool.not_false, Bool.and_true]
      rw [buildProxy_gone he hgroup, ih (by omega) fun x hx => h x (proxyRest_sublist hx), hsame]

/-- A record held for a due entry makes an answer. -/
theorem buildProxy_answers (hn : list.length ≤ n)
    (h : ∃ x ∈ list, x.timer.isDue = true ∧ j.proxyRecord x ≠ none) :
    ∃ rest a, j.buildProxy n list = (rest, some a) := by
  obtain ⟨x, hx, hdue, hrecord⟩ := h
  induction n generalizing list with
  | zero =>
    rw [List.length_eq_zero_iff.mp (Nat.le_zero.mp hn)] at hx
    contradiction
  | succ n ih =>
    cases he : list.foldl dueEarlier none with
    | none => exact absurd he (foldl_dueEarlier_isSome hx hdue none)
    | some e =>
      obtain ⟨hmem, -⟩ := (foldl_dueEarlier_mem he).resolve_left nofun
      cases hg : (proxyGroup e list).filterMap j.proxyRecord with
      | nil =>
        have hlt := proxyRest_length hmem hg
        rw [buildProxy_gone he hg]
        exact ih (by omega) (mem_proxyRest hx hrecord)
      | cons r rs => exact ⟨_, _, buildProxy_found hn he hg⟩

end

end Sys2Proof.SendRules
end

section
namespace Sys2Proof.SendRules

open Sys2Proof Sys2Proof.Machine Sys2Proof.LineRules

/-! ### The request due longest (R74, log 9) -/

theorem isDue_iff (timer : RepairTimer) : timer.isDue = true ↔ ∃ age, timer = .due age := by
  cases timer <;> simp [RepairTimer.isDue]

theorem requestAge_none_iff (s : State) (p : Station) :
    s.requestAge p = none ↔ ∀ m ∈ s.missing p, m.timer.isDue = false := by
  rw [State.requestAge, Option.map_eq_none_iff, List.head?_eq_none_iff, dueOf, List.filter_eq_nil_iff]
  simp only [Bool.not_eq_true]

theorem requestAge_first {s : State} {p : Station} {before behind : List Missing} {m : Missing} {age : Nat}
    (h : s.missing p = before ++ m :: behind) (hbefore : ∀ x ∈ before, x.timer.isDue = false) (hm : m.timer = .due age) :
    s.requestAge p = some age := by
  have hnone : before.filter (fun x => x.timer.isDue) = [] :=
    List.filter_eq_nil_iff.mpr fun x hx => by rw [hbefore x hx]; exact Bool.false_ne_true
  have hdue : m.timer.isDue = true := by rw [hm]; rfl
  rw [State.requestAge, dueOf, h, List.filter_append, hnone,
    List.filter_cons_of_pos (p := fun x : Missing => x.timer.isDue) hdue, List.nil_append,
    List.head?_cons, Option.map_some, hm]
  rfl

/-- R74: one step over the peers, in address order. -/
def longerRequest (s : State) (best : Option (Station × Nat)) (p : Station) : Option (Station × Nat) :=
  waitedLonger best p (s.requestAge p)

theorem requestPeer_eq (s : State) :
    s.requestPeer = ((List.finRange 24).foldl (longerRequest s) none).map (·.1) := rfl

theorem foldl_longerRequest_none {s : State} {list : List Station} (h : ∀ p ∈ list, s.requestAge p = none)
    (best : Option (Station × Nat)) : list.foldl (longerRequest s) best = best := by
  induction list with
  | nil => rfl
  | cons p ps ih =>
    have hp : longerRequest s best p = best := by
      rw [longerRequest, h p List.mem_cons_self]
      rfl
    rw [List.foldl_cons, hp, ih fun q hq => h q (List.mem_cons_of_mem _ hq)]

theorem foldl_longerRequest_mem {s : State} {list : List Station} {best : Option (Station × Nat)} {a : Station × Nat}
    (h : list.foldl (longerRequest s) best = some a) : best = some a ∨ (a.1 ∈ list ∧ s.requestAge a.1 = some a.2) := by
  induction list generalizing best with
  | nil => exact .inl h
  | cons p ps ih =>
    rcases ih h with hstep | ⟨hmem, hage⟩
    · have htake : best = some a ∨ ∃ age, s.requestAge p = some age ∧ (p, age) = a := by
        unfold longerRequest waitedLonger at hstep
        split at hstep
        · exact .inl hstep
        · rename_i age hage
          exact .inr ⟨age, hage, Option.some.inj hstep⟩
        · rename_i age q b hage
          split at hstep
          · exact .inr ⟨age, hage, Option.some.inj hstep⟩
          · exact .inl hstep
      refine htake.imp id ?_
      rintro ⟨age, hage, rfl⟩
      exact ⟨List.mem_cons_self, hage⟩
    · exact .inr ⟨List.mem_cons_of_mem _ hmem, hage⟩

/-- The peer whose oldest due entry has been due longest, the first in address order at equal instants. -/
theorem requestPeer_of_longest {s : State} {p : Station} {age : Nat} (hp : s.requestAge p = some age)
    (h : ∀ q other, s.requestAge q = some other → other ≤ age ∧ (q < p → other < age)) : s.requestPeer = some p := by
  obtain ⟨before, behind, hsplit⟩ := List.append_of_mem (List.mem_finRange p)
  have hsorted : (before ++ p :: behind).Pairwise (· < ·) := hsplit ▸ List.pairwise_lt_finRange 24
  have hlt : ∀ q ∈ before, q < p := fun q hq => (List.pairwise_append.mp hsorted).2.2 q hq p List.mem_cons_self
  have hrest (l : List Station) : l.foldl (longerRequest s) (some (p, age)) = some (p, age) := by
    induction l with
    | nil => rfl
    | cons q qs ih =>
      have hq : longerRequest s (some (p, age)) q = some (p, age) := by
        unfold longerRequest waitedLonger
        split
        · rfl
        · contradiction
        · rename_i other r b hother hbest
          obtain ⟨rfl, rfl⟩ := Prod.mk.inj (Option.some.inj hbest)
          rw [if_neg (Nat.not_lt.mpr (h q other hother).1)]
      rw [List.foldl_cons, hq, ih]
  have hfirst : longerRequest s (before.foldl (longerRequest s) none) p = some (p, age) := by
    rw [longerRequest, hp]
    cases hb : before.foldl (longerRequest s) none with
    | none => rfl
    | some a =>
      obtain ⟨hmem, hage⟩ := (foldl_longerRequest_mem hb).resolve_left nofun
      exact if_pos ((h a.1 a.2 hage).2 (hlt _ hmem))
  rw [requestPeer_eq, hsplit, List.foldl_append, List.foldl_cons, hfirst, hrest]
  rfl

theorem requestPeer_none {s : State} (h : ∀ p, ∀ m ∈ s.missing p, m.timer.isDue = false) : s.requestPeer = none := by
  rw [requestPeer_eq, foldl_longerRequest_none fun p _ => (requestAge_none_iff s p).mpr (h p)]
  rfl

theorem requestFlag_iff (s : State) (p : Station) : s.requestFlag p = true ↔ (s.peer p).state = .silent ∨
    ∃ m ∈ s.missing p, m.timer.isDue = true ∧ m.tries + 1 = s.control.config.retries := by
  simp only [State.requestFlag, dueOf, Bool.or_eq_true, beq_iff_eq, List.any_eq_true, List.mem_filter, and_assoc]

/-! ### The lower places (R148) -/

theorem lookup_some {j : Journal} {origin : Fin 25} {q : Seq} {r : Record} (h : j.lookup origin q = some r) :
    (∃ h ∈ j.settling ++ j.released, h.record = r) ∧ r.isNetwork = true ∧ r.origin = origin ∧ r.seq = q := by
  obtain ⟨held, hfind, rfl⟩ := Option.map_eq_some_iff.mp h
  exact ⟨⟨held, List.mem_of_find?_eq_some hfind, rfl⟩,
    (OfferLaws.held_names_iff origin q held).mp (List.find?_some hfind)⟩

theorem selectProxy_found {s : State} {proxy : List ProxyEntry} {p : Station} {rs : List Record}
    (h : s.journal.buildProxy s.repair.proxy.length s.repair.proxy = (proxy, some (p, rs))) :
    s.selectProxy = some ⟨.proxyAnswer p (rs.map (·.seq)), .repairData p rs, proxy⟩ := by
  rw [State.selectProxy, h]

theorem selectProxy_low {s : State} {proxy : List ProxyEntry}
    (h : s.journal.buildProxy s.repair.proxy.length s.repair.proxy = (proxy, none)) :
    s.selectProxy = s.selectLow proxy := by
  rw [State.selectProxy, h]

theorem selectLow_request {s : State} {p : Station} (h : s.requestPeer = some p) (proxy : List ProxyEntry) :
    s.selectLow proxy = some ⟨.repairReq p ((dueOf (s.missing p)).map (·.seq)), s.requestFrame p, proxy⟩ := by
  rw [State.selectLow, h]

theorem selectLow_event {s : State} (h : s.requestPeer = none) (hrecords : s.outbound.records ≠ [])
    (hhold : s.line.holdBack = false) (proxy : List ProxyEntry) :
    s.selectLow proxy = some ⟨.event s.eventRecords.length, .event s.eventRecords, proxy⟩ := by
  have hsome : s.eventRecords.isEmpty = false := by
    rw [State.eventRecords]
    cases hr : s.outbound.records with
    | nil => exact absurd hr hrecords
    | cons r rs => rfl
  rw [State.selectLow, h]
  simp only [hsome, hhold, Bool.or_self, Bool.false_eq_true, if_false]

theorem selectLow_none {s : State} (h : s.requestPeer = none) (hidle : s.outbound.records = [] ∨ s.line.holdBack = true)
    (proxy : List ProxyEntry) : s.selectLow proxy = none := by
  have hnone : (s.eventRecords.isEmpty || s.line.holdBack) = true := by
    rcases hidle with hr | hh
    · rw [State.eventRecords, hr]
      rfl
    · rw [hh, Bool.or_true]
  rw [State.selectLow, h]
  simp only [hnone, if_true]

/-- What is selected below the proxy list does not depend on it. -/
theorem selectProxy_congr {s : State} {list : List ProxyEntry}
    (h : s.journal.buildProxy s.repair.proxy.length s.repair.proxy = s.journal.buildProxy list.length list) :
    ({ s with repair := { s.repair with proxy := list } } : State).selectProxy = s.selectProxy := by
  unfold State.selectProxy
  show (match s.journal.buildProxy list.length list with
    | (proxy, some (p, rs)) => _
    | (proxy, none) => _) = _
  rw [h]
  rfl

end Sys2Proof.SendRules
end

section
namespace Sys2Proof.SendRules

open Sys2Proof Sys2Proof.Machine Sys2Proof.LineRules

section
variable {s : State} (hs : s.IrqKept) (hmay : s.mayBegin = true) (hlower : s.select = s.selectProxy)

include hs hmay hlower

/-- R88: the due entry that has waited longest has a record to answer with, or one of its group has. -/
theorem proxy_answered {before behind group : List ProxyEntry} {e : ProxyEntry} {r : Record} {rs : List Record}
    (hsplit : s.repair.proxy = before ++ e :: behind) (hdue : e.timer.isDue = true)
    (hbefore : ∀ x ∈ before, x.timer.isDue = true → x.timer.age < e.timer.age)
    (hbehind : ∀ x ∈ behind, x.timer.isDue = true → x.timer.age ≤ e.timer.age)
    (hgroup : group = proxyGroup e s.repair.proxy) (hheld : group.filterMap s.journal.proxyRecord = r :: rs) :
    exec .frameBegin s = .next (s.sends
      (s.repair.proxy.filter (fun x => !(decide (x ∈ group) && (s.journal.proxyRecord x).isNone)))
      (.proxyAnswer e.subject ((r :: rs).map (·.seq))) (.repairData e.subject (r :: rs))) := by
  have hfirst : s.repair.proxy.foldl dueEarlier none = some e := by
    rw [hsplit]
    exact foldl_dueEarlier_split hdue hbefore hbehind
  subst hgroup
  have hbuilt := buildProxy_found (Nat.le_refl _) hfirst hheld
  rw [exec_frameBegin hs hmay (hlower.trans (selectProxy_found hbuilt))]
  simp only [proxyRest, List.contains_eq_mem]

/-- R88: with no record left for the first group, the next due entry is tried. -/
theorem proxy_retried {before behind group : List ProxyEntry} {e : ProxyEntry}
    (hlower' : ({ s with repair := { s.repair with proxy := s.repair.proxy.filter (fun x => !decide (x ∈ group)) } } : State).select =
      ({ s with repair := { s.repair with proxy := s.repair.proxy.filter (fun x => !decide (x ∈ group)) } } : State).selectProxy)
    (hsplit : s.repair.proxy = before ++ e :: behind) (hdue : e.timer.isDue = true)
    (hbefore : ∀ x ∈ before, x.timer.isDue = true → x.timer.age < e.timer.age)
    (hbehind : ∀ x ∈ behind, x.timer.isDue = true → x.timer.age ≤ e.timer.age)
    (hgroup : group = proxyGroup e s.repair.proxy) (hgone : ∀ x ∈ group, s.journal.proxyRecord x = none)
    (hheld : ∃ x ∈ s.repair.proxy, x.timer.isDue = true ∧ s.journal.proxyRecord x ≠ none) :
    exec .frameBegin s = exec .frameBegin { s with repair := { s.repair with
      proxy := s.repair.proxy.filter (fun x => !decide (x ∈ group)) } } := by
  have hfirst : s.repair.proxy.foldl dueEarlier none = some e := by
    rw [hsplit]
    exact foldl_dueEarlier_split hdue hbefore hbehind
  have hempty : (proxyGroup e s.repair.proxy).filterMap s.journal.proxyRecord = [] :=
    List.filterMap_eq_nil_iff.mpr (hgroup ▸ hgone)
  have hrest : proxyRest s.journal e s.repair.proxy = s.repair.proxy.filter (fun x => !decide (x ∈ group)) := by
    refine List.filter_congr fun x _ => ?_
    rw [List.contains_eq_mem, ← hgroup]
    by_cases hx : x ∈ group
    · rw [hgone x hx]
      simp only [Option.isNone_none, Bool.and_true]
    · rw [decide_eq_false hx, Bool.false_and]
  have hmem : e ∈ s.repair.proxy := ((foldl_dueEarlier_mem hfirst).resolve_left nofun).1
  have hlt := proxyRest_length hmem hempty
  have hsame : s.journal.buildProxy s.repair.proxy.length s.repair.proxy =
      s.journal.buildProxy (s.repair.proxy.filter (fun x => !decide (x ∈ group))).length
        (s.repair.proxy.filter (fun x => !decide (x ∈ group))) := by
    rw [← hrest]
    obtain ⟨k, hk⟩ : ∃ k, s.repair.proxy.length = k + 1 :=
      ⟨_, (Nat.succ_pred_eq_of_pos (List.length_pos_of_mem hmem)).symm⟩
    rw [hk, buildProxy_gone hfirst hempty]
    exact buildProxy_tries (by omega) (Nat.le_refl _)
  have hselect := (hlower'.trans (selectProxy_congr hsame)).trans hlower.symm
  obtain ⟨rest, ⟨p, rs⟩, hbuilt⟩ := buildProxy_answers (Nat.le_refl _) hheld
  have hsel := hlower.trans (selectProxy_found hbuilt)
  have hkept : ({ s with repair := { s.repair with
      proxy := s.repair.proxy.filter (fun x => !decide (x ∈ group)) } } : State).IrqKept := hs
  rw [exec_frameBegin hs hmay hsel, exec_frameBegin hkept hmay (hselect.trans hsel)]
  rfl

variable (hgone : ∀ x ∈ s.repair.proxy, x.timer.isDue = true → s.journal.proxyRecord x = none)

include hgone

/-- R74, R75: the request due longest. -/
theorem request_sent {p : Station} {age : Nat} (hage : s.requestAge p = some age)
    (hlongest : ∀ q other, s.requestAge q = some other → other ≤ age ∧ (q < p → other < age)) :
    exec .frameBegin s = .next (s.sends (s.repair.proxy.filter (fun x => !x.timer.isDue))
      (.repairReq p (((s.missing p).filter (·.timer.isDue)).map (·.seq)))
      (.repairReq p (s.requestFlag p) (((s.missing p).filter (·.timer.isDue)).map (·.seq)))) := by
  have hbuilt := buildProxy_empty (Nat.le_refl _) hgone
  exact exec_frameBegin hs hmay (hlower.trans ((selectProxy_low hbuilt).trans
    (selectLow_request (requestPeer_of_longest hage hlongest) _)))

/-- R134, R153: the first records of the queue, without hold-back. -/
theorem event_sent (hnone : ∀ p, ∀ m ∈ s.missing p, m.timer.isDue = false) :
    (s.outbound.records ≠ [] → s.line.holdBack = false →
      exec .frameBegin s = .next (s.sends (s.repair.proxy.filter (fun x => !x.timer.isDue))
        (.event (min 4 s.outbound.records.length)) (.event (s.outbound.records.take 4)))) ∧
    (s.outbound.records = [] ∨ s.line.holdBack = true → exec .frameBegin s = .next s) := by
  have hbuilt := buildProxy_empty (Nat.le_refl _) hgone
  refine ⟨fun hrecords hhold => ?_, fun hidle => exec_frameBegin_none (.inl (hlower.trans ((selectProxy_low hbuilt).trans
    (selectLow_none (requestPeer_none hnone) hidle _))))⟩
  rw [exec_frameBegin hs hmay (hlower.trans ((selectProxy_low hbuilt).trans
    (selectLow_event (requestPeer_none hnone) hrecords hhold _)))]
  rw [show s.eventRecords = s.outbound.records.take 4 from rfl, List.length_take]

end

/-- Settles O58: the lower places in turn. -/
theorem frameBeginSendsTheLowerPlaces : Obligations.FrameBeginSendsTheLowerPlaces := by
  refine ⟨fun timer => ⟨isDue_iff timer, fun age h => by rw [h]; rfl⟩,
    fun s p => ⟨requestAge_none_iff s p, fun before m behind age h hbefore hm => requestAge_first h hbefore hm⟩,
    fun j origin q => ⟨fun r h => lookup_some h, JournalInvariants.lookup_eq_none_iff j origin q⟩,
    fun s hs hout hfree hrun hidle hstuck hhello htime hanswers => ?_⟩
  have hmay := (mayBegin_iff s).mpr ⟨hout, hfree, hrun, hidle, hstuck⟩
  have hlower := select_lower hhello htime hanswers
  refine ⟨fun before e behind group r rs hsplit hdue hbefore hbehind hgroup hheld =>
      proxy_answered hs hmay hlower hsplit hdue hbefore hbehind hgroup hheld,
    fun before e behind group hsplit hdue hbefore hbehind hgroup hgone hheld =>
      proxy_retried hs hmay hlower (select_lower hhello htime hanswers) hsplit hdue hbefore hbehind hgroup hgone hheld,
    fun hgone => ⟨fun p age hage hlongest => ⟨s.requestFlag p, requestFlag_iff s p,
      request_sent hs hmay hlower hgone hage hlongest⟩, fun hnone => event_sent hs hmay hlower hgone hnone⟩⟩

end Sys2Proof.SendRules
end

section
namespace Sys2Proof.SendRules

open Sys2Proof Sys2Proof.Machine Sys2Proof.LineRules

/-! ### A frame told as read back (R149, R152, log 6) -/

/-- What the receiver takes of a bit depends on what it has of the byte alone. -/
theorem takeBit_congr {l a : LineControl} (h : l.rx = a.rx ∧ l.bits = a.bits ∧ l.bytes = a.bytes) (b : Bool) :
    (l.takeBit b).rx = (a.takeBit b).rx ∧ (l.takeBit b).bits = (a.takeBit b).bits ∧
      (l.takeBit b).bytes = (a.takeBit b).bytes := by
  obtain ⟨hrx, hbits, hbytes⟩ := h
  unfold LineControl.takeBit
  rw [hrx, hbits, hbytes]
  split_ifs <;> simp [hrx, hbits, hbytes]

theorem countRun_congr {l a : LineControl} (h : l.releasedRun = a.releasedRun ∧ l.drivenRun = a.drivenRun) (b : Bool) :
    (l.countRun b).releasedRun = (a.countRun b).releasedRun ∧ (l.countRun b).drivenRun = (a.countRun b).drivenRun := by
  obtain ⟨hr, hd⟩ := countRun_runs l b
  obtain ⟨hr', hd'⟩ := countRun_runs a b
  rw [hr, hd, hr', hd', h.1, h.2]
  exact ⟨rfl, rfl⟩

theorem takeBit_runs (l : LineControl) (b : Bool) :
    (l.takeBit b).releasedRun = l.releasedRun ∧ (l.takeBit b).drivenRun = l.drivenRun := by
  unfold LineControl.takeBit
  split_ifs <;> exact ⟨rfl, rfl⟩

theorem countRun_bits (l : LineControl) (b : Bool) :
    (l.countRun b).rx = l.rx ∧ (l.countRun b).bits = l.bits ∧ (l.countRun b).bytes = l.bytes := by
  unfold LineControl.countRun
  split_ifs <;> exact ⟨rfl, rfl, rfl⟩

theorem compareBit_parts (l : LineControl) (sent b : Bool) :
    ((l.compareBit sent b).rx = l.rx ∧ (l.compareBit sent b).bits = l.bits ∧ (l.compareBit sent b).bytes = l.bytes) ∧
      (l.compareBit sent b).releasedRun = l.releasedRun ∧ (l.compareBit sent b).drivenRun = l.drivenRun := by
  unfold LineControl.compareBit
  split_ifs <;> exact ⟨⟨rfl, rfl, rfl⟩, rfl, rfl⟩

/-- Reading one bit: the byte by `takeBit`, the runs by `countRun`. -/
theorem readBit_parts (l : LineControl) (sent b : Bool) :
    ((l.readBit sent b).rx = (l.takeBit b).rx ∧ (l.readBit sent b).bits = (l.takeBit b).bits ∧
      (l.readBit sent b).bytes = (l.takeBit b).bytes) ∧
    (l.readBit sent b).releasedRun = (l.countRun b).releasedRun ∧
      (l.readBit sent b).drivenRun = (l.countRun b).drivenRun := by
  obtain ⟨⟨hrx, hbits, hbytes⟩, hr, hd⟩ := compareBit_parts ((l.countRun b).takeBit b) sent b
  obtain ⟨hr', hd'⟩ := takeBit_runs (l.countRun b) b
  obtain ⟨hrx', hbits', hbytes'⟩ := takeBit_congr (countRun_bits l b) b
  exact ⟨⟨hrx.trans hrx', hbits.trans hbits', hbytes.trans hbytes'⟩, hr.trans hr', hd.trans hd'⟩

/-- Reading bits back: the bytes by `takeBit`, the runs by `countRun`. -/
theorem readBits_parts (bits : List Bool) {l a c : LineControl} (ha : l.rx = a.rx ∧ l.bits = a.bits ∧ l.bytes = a.bytes)
    (hc : l.releasedRun = c.releasedRun ∧ l.drivenRun = c.drivenRun) :
    ((bits.foldl (fun l b => l.readBit b b) l).bits = (bits.foldl LineControl.takeBit a).bits ∧
      (bits.foldl (fun l b => l.readBit b b) l).bytes = (bits.foldl LineControl.takeBit a).bytes) ∧
    (bits.foldl (fun l b => l.readBit b b) l).releasedRun = (bits.foldl LineControl.countRun c).releasedRun ∧
      (bits.foldl (fun l b => l.readBit b b) l).drivenRun = (bits.foldl LineControl.countRun c).drivenRun := by
  induction bits generalizing l a c with
  | nil => exact ⟨ha.2, hc⟩
  | cons b bits ih =>
    obtain ⟨⟨hrx, hbits, hbytes⟩, hr, hd⟩ := readBit_parts l b b
    obtain ⟨hrx', hbits', hbytes'⟩ := takeBit_congr ha b
    obtain ⟨hr', hd'⟩ := countRun_congr hc b
    exact ih ⟨hrx.trans hrx', hbits.trans hbits', hbytes.trans hbytes'⟩ ⟨hr.trans hr', hd.trans hd'⟩

/-- The line after `n` bits told as read back. -/
theorem sentUpTo_line {s : State} {n : Nat} (hn : s.line.sent ≠ n) (hlength : n ≤ s.sendingBits.length)
    (htx : s.line.tx ≠ .free) : (s.sentUpTo n).line = { s.line with
      sent := n, bitPhase := s.justRead
      bits := ((s.sendingBits.take n).foldl LineControl.takeBit s.line.fromSof).bits
      bytes := ((s.sendingBits.take n).foldl LineControl.takeBit s.line.fromSof).bytes
      releasedRun := ((s.sendingBits.take n).foldl LineControl.countRun s.line.fromSof).releasedRun
      drivenRun := ((s.sendingBits.take n).foldl LineControl.countRun s.line.fromSof).drivenRun } := by
  obtain ⟨⟨hbits, hbytes⟩, hr, hd⟩ := readBits_parts (s.sendingBits.take n) (l := s.line.fromSof) (a := s.line.fromSof)
    (c := s.line.fromSof) ⟨rfl, rfl, rfl⟩ ⟨rfl, rfl⟩
  obtain ⟨hsent, hmis⟩ := s.line.fromSof.readBits_sent (s.sendingBits.take n) htx
  have hreads := LineControl.readBits_readsTo s.line.fromSof (s.sendingBits.take n)
  rw [State.sentUpTo, if_neg hn]
  generalize (s.sendingBits.take n).foldl (fun l b => l.readBit b b) s.line.fromSof = l at *
  have hcount : l.sent = n := by
    rw [hsent, List.length_take, Nat.min_eq_left hlength]
    exact Nat.zero_add n
  rw [LineControl.readsTo, hbits, hbytes, hr, hd, hcount, hmis] at hreads
  show ({ l with bitPhase := s.justRead } : LineControl) = _
  rw [hreads]
  rfl

theorem encodeFrame_cons (o : Fin 25) (f : Frame) : ∃ a rest, encodeFrame o f = a :: rest := ⟨_, _, rfl⟩

theorem sendingBits_of_prepared {s : State} {f : Prepared} (h : s.line.prepared = some f) :
    s.sendingBits = lineBits (encodeFrame s.ownOrigin f.frame) := by
  rw [State.sendingBits, State.lineBytes, h]
  rfl

/-! ### Arbitration and bit errors (R149 to R151) -/

theorem exec_arbitrationWon {s : State} (hs : s.IrqKept) (htx : s.line.tx = .arbitrating) (hread : s.line.misread = false) :
    exec .arbitrationWon s = .next s.winArbitration := by
  have hexec : exec .arbitrationWon s = commit s.winArbitration := if_pos (by rw [htx, hread]; rfl)
  rw [hexec, commit_of_frame hs s.winArbitration_frame (by decide)]

theorem winArbitration_told {s : State} (htx : s.line.tx = .arbitrating) (hsent : s.line.sent ≠ 10)
    (hrx : s.line.rx = .receiving) {f : Prepared} (hf : s.line.prepared = some f) :
    s.winArbitration.line = { s.line with
      tx := .sending, sent := 10, bits := [], bytes := (encodeFrame s.ownOrigin f.frame).take 1, bitPhase := s.justRead,
      releasedRun := s.winArbitration.line.releasedRun, drivenRun := 0 } ∧
    1 ≤ s.winArbitration.line.releasedRun ∧ s.winArbitration.line.releasedRun ≤ 9 := by
  obtain ⟨a, rest, hframe⟩ := encodeFrame_cons s.ownOrigin f.frame
  have hbits : s.sendingBits = byteBits a ++ lineBits rest := by
    rw [sendingBits_of_prepared hf, hframe]
    rfl
  have htake : s.sendingBits.take 10 = byteBits a := by
    rw [hbits, List.take_append_of_le_length (by rw [byteBits_length]), List.take_of_length_le (by rw [byteBits_length])]
  have hline := sentUpTo_line hsent (by rw [hbits, List.length_append, byteBits_length]; omega)
    (by rw [htx]; nofun)
  have hbyte := FormatRules.takeBits_byte s.line.fromSof a hrx rfl
  obtain ⟨hlow, hhigh, hdriven⟩ := countByte_runs a s.line.fromSof
  rw [htake, hbyte, hdriven] at hline
  have hwin : s.winArbitration.line = { (s.sentUpTo 10).line with tx := .sending } := rfl
  rw [hwin, hline, hframe]
  exact ⟨rfl, hlow, hhigh⟩

theorem exec_arbitrationLoss {s : State} (hs : s.IrqKept) (htx : s.line.tx = .arbitrating) :
    exec .arbitrationLoss s = .next s.loseArbitration := by
  have hexec : exec .arbitrationLoss s = commit s.loseArbitration := if_pos (by rw [htx]; rfl)
  rw [hexec, commit_of_frame hs s.loseArbitration_frame (by decide)]

theorem loseArbitration_eq (s : State) : s.loseArbitration = { s with
    line := { s.line with
      tx := .free, prepared := none, sent := 0, misread := false, echo := false,
      bits := if s.line.misread then s.line.bits else [], bytes := if s.line.misread then s.line.bytes else [] }
    medium := if s.line.misread then s.medium else ⟨false, [], true⟩
    counters := { s.counters with arbitrationLosses := satInc s.counters.arbitrationLosses } } := by
  unfold State.loseArbitration
  cases s.line.misread <;> rfl

/-- R150: a bit read otherwise than sent aborts the frame, but in the arbitration byte it is a loss. -/
theorem aborts_iff (s : State) : (s.line.tx != .free && !(s.line.tx == .arbitrating && s.line.misread)) = true ↔
    s.line.tx = .sending ∨ (s.line.tx = .arbitrating ∧ s.line.misread = false) := by
  cases s.line.tx <;> cases s.line.misread <;> decide

theorem exec_bitError {s : State} (h : s.line.tx = .sending ∨ (s.line.tx = .arbitrating ∧ s.line.misread = false)) :
    exec .bitError s = commit s.abortFrame :=
  if_pos ((aborts_iff s).mpr h)

theorem abortFrame_counted {s : State} (h : s.line.failures < 15) : s.abortFrame = { s with
    line := { s.line with
      tx := .free, prepared := none, sent := 0, misread := false, failures := s.line.failures + 1 }
    counters := { s.counters with bitErrors := satInc s.counters.bitErrors } } := by
  have hfew : min (s.line.failures + 1) Config.failureLimit = s.line.failures + 1 :=
    Nat.min_eq_left (by show s.line.failures + 1 ≤ 16; omega)
  have hne : s.line.failures + 1 ≠ Config.failureLimit := by
    show s.line.failures + 1 ≠ 16
    omega
  unfold State.abortFrame
  simp only
  rw [show ((s.giveUp s.line.echo).countBitError).line.failures = s.line.failures from rfl, hfew, if_neg hne]
  rfl

/-- R151: the frame aborted for the sixteenth time in a row, before QUIET. -/
def abortedLast (s : State) : State :=
  { (s.giveUp s.line.echo).countBitError with line := { (s.giveUp s.line.echo).line with failures := 16 } }

theorem abortFrame_last {s : State} (h : s.line.failures = 15) : s.abortFrame = (abortedLast s).enterQuiet .lineFault := by
  unfold State.abortFrame
  simp only
  rw [show ((s.giveUp s.line.echo).countBitError).line.failures = 15 from h]
  rfl

/-- Settles O59: the arbitration byte told as read back, and the failures counted up to the sixteenth. -/
theorem transmitterEvents : Obligations.TransmitterEvents := by
  intro s
  refine ⟨fun hs => ⟨fun htx hread => ?_, fun htx => ?_, fun h => ?_, fun htx => ?_, fun h hfew => ?_, fun h => ?_⟩,
    fun h hlast => ?_⟩
  · refine ⟨_, exec_arbitrationWon hs htx hread, rfl, s.winArbitration_frame, fun hsent => ?_, fun hsent hrx f hf => ?_⟩
    · show ({ (s.sentUpTo 10).line with tx := .sending } : LineControl) = _
      rw [State.sentUpTo, if_pos hsent]
    · obtain ⟨hline, hlow, hhigh⟩ := winArbitration_told htx hsent hrx hf
      exact ⟨hline, hlow, hhigh⟩
  · rw [exec_arbitrationLoss hs htx, loseArbitration_eq]
  · refine if_neg ?_
    rw [Bool.and_eq_true, beq_iff_eq, Bool.not_eq_true']
    rintro ⟨htx, hread⟩
    rcases h with h | h
    · exact h htx
    · exact Bool.false_ne_true (hread.symm.trans h)
  · exact if_neg (by rw [beq_iff_eq]; exact htx)
  · have hframe : s.changesOnly s.abortFrame [.line, .counters] := by
      rw [abortFrame_counted hfew]
      intro b hb
      cases b <;> first | exact absurd (by decide) hb | rfl
    rw [exec_bitError h, commit_of_frame hs hframe (by decide), abortFrame_counted hfew]
  · refine if_neg ?_
    rw [aborts_iff]
    rcases h with h | ⟨h, hread⟩
    · rw [h]
      rintro (hc | ⟨hc, -⟩) <;> contradiction
    · rw [h, hread]
      rintro (hc | ⟨-, hc⟩) <;> contradiction
  · have hframe : s.changesOnly (abortedLast s) [.line, .medium, .counters] := by
      intro b hb
      cases b <;> first | exact absurd (by decide) hb | rfl
    have hquiet := enterQuiet_quietened .lineFault hframe rfl rfl
    have hline := LineInvariants.enterQuiet_line (abortedLast s) .lineFault
    have hcounters : ((abortedLast s).enterQuiet .lineFault).counters = (abortedLast s).counters :=
      (abortedLast s).enterQuiet_frame .lineFault .counters (by decide)
    have hblocks := State.changesOnly_trans s.abortFrame_frame
      (State.changesOnly_mono s.abortFrame.settleIrq_frame (by decide))
    rw [abortFrame_last hlast] at hblocks
    refine ⟨((abortedLast s).enterQuiet .lineFault).settleIrq, ?_, hquiet, ?_, ?_, ?_, ?_, hblocks⟩
    · rw [exec_bitError h, abortFrame_last hlast]
      rfl
    · rw [State.settleIrq_line, hline]
      rfl
    · rw [State.settleIrq_line, hline]
      rfl
    · rw [State.settleIrq_line, hline]
      rfl
    · exact hcounters

end Sys2Proof.SendRules
end

section
namespace Sys2Proof.SendRules

open Sys2Proof Sys2Proof.Machine Sys2Proof.LineRules

/-! ### The bits of a whole frame (R142, R152) -/

/-- All bits of a frame but its last stop bit: its other bytes, and the start and data bits of the last. -/
theorem lineBits_compared {bytes : List Byte} (h : bytes ≠ []) : (lineBits bytes).take (10 * bytes.length - 1) =
    lineBits bytes.dropLast ++ false :: dataBits (bytes.getLastD 0) := by
  obtain ⟨front, b, rfl⟩ : ∃ front b, bytes = front ++ [b] := ⟨_, _, (List.dropLast_append_getLast h).symm⟩
  have hlast : lineBits [b] = (false :: dataBits b) ++ [true] := by simp [lineBits, byteBits]
  have hlength : (lineBits front ++ false :: dataBits b).length = 10 * (front ++ [b]).length - 1 := by
    rw [List.length_append, lineBits_length, List.length_cons, dataBits_length, List.length_append,
      List.length_singleton]
    omega
  rw [lineBits_append, hlast, ← List.append_assoc, List.take_append_of_le_length (Nat.le_of_eq hlength.symm),
    List.take_of_length_le (Nat.le_of_eq hlength)]
  simp

/-- The last CRC bit, before the last stop bit. -/
theorem lineBits_lastCrc {bytes : List Byte} (h : bytes ≠ []) :
    (lineBits bytes).getD (10 * bytes.length - 2) true = (bytes.getLastD 0).getLsbD 0 := by
  obtain ⟨front, b, rfl⟩ : ∃ front b, bytes = front ++ [b] := ⟨_, _, (List.dropLast_append_getLast h).symm⟩
  have hindex : 10 * (front ++ [b]).length - 2 = (lineBits front).length + 8 := by
    rw [lineBits_length, List.length_append, List.length_singleton]
    omega
  rw [lineBits_append, hindex, List.getD_eq_getElem?_getD, List.getElem?_append_right (by omega),
    Nat.add_sub_cancel_left]
  simp [lineBits, byteBits, dataBits]

/-- The receiver after all bits of a frame but its last stop bit. -/
theorem takeBits_compared (l : LineControl) {bytes : List Byte} (h : bytes ≠ []) (hrx : l.rx = .receiving)
    (hbits : l.bits = []) (hbytes : l.bytes = []) :
    ((lineBits bytes).take (10 * bytes.length - 1)).foldl LineControl.takeBit l =
      { l with bytes := bytes.dropLast, bits := false :: dataBits (bytes.getLastD 0) } := by
  have hnine (l : LineControl) (b : Byte) (hrx : l.rx = .receiving) (hbits : l.bits = []) :
      (false :: dataBits b).foldl LineControl.takeBit l = { l with bits := false :: dataBits b } := by
    simp [dataBits, LineControl.takeBit, hrx, hbits]
  rw [lineBits_compared h, List.foldl_append, FormatRules.takeBits_lineBits _ _ hrx hbits, hbytes]
  exact hnine { l with bytes := bytes.dropLast } _ hrx hbits

/-! ### The frame completed (R142, R152) -/

/-- `s` once its frame has been sent and read back, before the supplying block takes the completion. -/
def completed (s : State) : State :=
  (s.sentUpTo s.comparedBits).endSending

theorem completed_frame (s : State) : s.changesOnly (completed s) [.line] :=
  State.changesOnly_trans (s.sentUpTo_frame _) (State.setLine_frame _ _)

theorem exec_frameComplete {s : State} {src : Source} {f : Frame} (htx : s.line.tx = .sending)
    (hread : s.line.misread = false) (hf : s.line.prepared = some ⟨src, f⟩) :
    exec .frameComplete s = .next ((completed s).takeCompletion src).settleIrq := by
  have hexec : exec .frameComplete s = commit s.completeFrame := if_pos (by rw [htx, hread]; rfl)
  have hdone : s.completeFrame = (completed s).takeCompletion src := by
    unfold State.completeFrame
    rw [hf]
    rfl
  rw [hexec, hdone]
  rfl

section
variable {s : State} {src : Source} {f : Frame} (hf : s.line.prepared = some ⟨src, f⟩)

include hf

theorem comparedBits_eq : s.comparedBits = 10 * (encodeFrame s.ownOrigin f).length - 1 := by
  rw [State.comparedBits, sendingBits_of_prepared hf, lineBits_length]

/-- The line of a completed frame, read back bit by bit or told as read back. -/
theorem completed_line (htx : s.line.tx = .sending) (hread : s.line.misread = false) : (completed s).line = { s.line with
      tx := .free, prepared := none, sent := 0, failures := 0
      bits := (completed s).line.bits, bytes := (completed s).line.bytes
      releasedRun := (completed s).line.releasedRun, drivenRun := (completed s).line.drivenRun
      bitPhase := (completed s).line.bitPhase, driving := (completed s).line.driving } ∧
    ((completed s).line.driving = true ↔ s.control.bitRate.middle ≤ (completed s).line.bitPhase ∧
      ((encodeFrame s.ownOrigin f).getLastD 0).getLsbD 0 = false) := by
  have hne : encodeFrame s.ownOrigin f ≠ [] := by
    obtain ⟨a, rest, hcons⟩ := encodeFrame_cons s.ownOrigin f
    rw [hcons]
    nofun
  have hsending := sendingBits_of_prepared hf
  have hcompared := comparedBits_eq hf
  have hstop := s.sendingBits_stop
  have hreads := s.sentUpTo_readsTo s.comparedBits
  have hcontrol : (s.sentUpTo s.comparedBits).control = s.control := s.sentUpTo_frame _ .control (by decide)
  have hsent := s.sentUpTo_sent (n := s.comparedBits) (Nat.sub_le _ _) (by rw [htx]; nofun)
  have hprepared : (s.sentUpTo s.comparedBits).line.prepared = s.line.prepared := by rw [hreads]
  have hbits := LineInvariants.sendingBits_congr hprepared hcontrol
  have hbusy : (s.sentUpTo s.comparedBits).line.tx = .sending := by rw [hreads]; exact htx
  have hdone : (completed s).line = { (s.sentUpTo s.comparedBits).line with
      tx := .free, prepared := none, sent := 0, misread := false, failures := 0
      driving := !(s.sentUpTo s.comparedBits).ltx } := rfl
  generalize s.sentUpTo s.comparedBits = u at *
  have hltx : u.ltx = if s.control.bitRate.middle ≤ u.line.bitPhase
      then ((encodeFrame s.ownOrigin f).getLastD 0).getLsbD 0 else true := by
    have hover : u.bitsOver = s.comparedBits - (if s.control.bitRate.middle ≤ u.line.bitPhase then 1 else 0) := by
      rw [State.bitsOver, State.bitRead, hsent.1, hsent.2, hread, hcontrol]
      simp only [decide_eq_true_eq, Bool.false_eq_true, if_false, Nat.add_zero]
    rw [State.ltx, hbusy, if_neg (by decide), hover, hbits]
    split
    · rw [hcompared, hsending, Nat.sub_sub]
      exact lineBits_lastCrc hne
    · exact hstop
  rw [LineControl.readsTo] at hreads
  refine ⟨?_, ?_⟩
  · rw [hdone, hreads]
    simp only [hread]
  · rw [hdone]
    show (!u.ltx) = true ↔ s.control.bitRate.middle ≤ u.line.bitPhase ∧ _
    rw [hltx]
    split
    · rename_i hmiddle
      rw [Bool.not_eq_true', and_iff_right hmiddle]
    · rename_i hmiddle
      exact iff_of_false Bool.false_ne_true fun hc => hmiddle hc.1

/-- Where the station has read its frame back itself. -/
theorem completed_read (h : s.line.sent + 1 = 10 * (encodeFrame s.ownOrigin f).length) :
    (completed s).line.bits = s.line.bits ∧ (completed s).line.bytes = s.line.bytes ∧
      (completed s).line.releasedRun = s.line.releasedRun ∧ (completed s).line.drivenRun = s.line.drivenRun ∧
      (completed s).line.bitPhase = s.line.bitPhase := by
  have hsent : s.line.sent = s.comparedBits := by
    rw [comparedBits_eq hf]
    omega
  rw [completed, State.sentUpTo, if_pos hsent]
  exact ⟨rfl, rfl, rfl, rfl, rfl⟩

/-- Where its row tells that the frame has been read back. -/
theorem completed_told (htx : s.line.tx = .sending) (h : s.line.sent + 1 ≠ 10 * (encodeFrame s.ownOrigin f).length)
    (hrx : s.line.rx = .receiving) : (completed s).line.bytes = (encodeFrame s.ownOrigin f).dropLast ∧
      (completed s).line.bits = false :: dataBits ((encodeFrame s.ownOrigin f).getLastD 0) ∧
      (completed s).line.bitPhase = s.justRead := by
  have hne : encodeFrame s.ownOrigin f ≠ [] := by
    obtain ⟨a, rest, hcons⟩ := encodeFrame_cons s.ownOrigin f
    rw [hcons]
    nofun
  have hpos := List.length_pos_of_ne_nil hne
  have hcompared := comparedBits_eq hf
  have hline := sentUpTo_line (s := s) (n := s.comparedBits) (by rw [hcompared]; omega) (Nat.sub_le _ _)
    (by rw [htx]; nofun)
  have hbits := takeBits_compared s.line.fromSof hne hrx rfl rfl
  have hsending := sendingBits_of_prepared hf
  rw [hsending, hcompared] at hline
  have hdone : (completed s).line.bytes = (s.sentUpTo s.comparedBits).line.bytes ∧
      (completed s).line.bits = (s.sentUpTo s.comparedBits).line.bits ∧
      (completed s).line.bitPhase = (s.sentUpTo s.comparedBits).line.bitPhase := ⟨rfl, rfl, rfl⟩
  obtain ⟨hbytes', hbits', hphase'⟩ := hdone
  rw [hbytes', hbits', hphase', hcompared, hline]
  refine ⟨?_, ?_, rfl⟩
  · exact congrArg LineControl.bytes hbits
  · exact congrArg LineControl.bits hbits

end

end Sys2Proof.SendRules
end

section
namespace Sys2Proof.SendRules

open Sys2Proof Sys2Proof.Machine Sys2Proof.LineRules

/-! ### What the supplying block consumes (R55, R76, R84, R88, R112, R133, R136, R138) -/

theorem takeCompletion_line (s : State) (src : Source) : (s.takeCompletion src).line = { s.line with
      helloOwed := (s.takeCompletion src).line.helloOwed, holdBack := (s.takeCompletion src).line.holdBack } ∧
    ((∀ restart, src ≠ .hello restart) → (s.takeCompletion src).line.helloOwed = s.line.helloOwed ∧
      (s.takeCompletion src).control = s.control) ∧
    ((∀ n, src ≠ .event n) → (s.takeCompletion src).line.holdBack = s.line.holdBack) := by
  cases src with
  | hello restart => exact ⟨rfl, fun h => absurd rfl (h restart), fun _ => rfl⟩
  | event n =>
    have hline : (s.eventSent n).line = s.line := s.eventSent_frame n .line (by decide)
    have hcontrol : (s.eventSent n).control = s.control := s.eventSent_frame n .control (by decide)
    have hdone : (s.takeCompletion (.event n)).line = { s.line with holdBack := true } := by
      rw [← hline]
      rfl
    rw [hdone]
    exact ⟨rfl, fun _ => ⟨rfl, hcontrol⟩, fun h => absurd rfl (h n)⟩
  | _ => exact ⟨rfl, fun _ => ⟨rfl, rfl⟩, fun _ => rfl⟩

theorem appendHistory_eq (history sent : List Record) :
    appendHistory history sent = (history ++ sent).drop ((history ++ sent).length - 64) := rfl

/-- R133: `s` with `n` records retired and the lost count taken for its LOSS record. -/
def lossTaken (s : State) (n : Nat) : State :=
  { s.retire n with outbound := { (s.retire n).outbound with lost := 0 } }

/-- R133, R136, R138: an EVENT frame of the first `n` records has completed. -/
theorem eventSent_eq (s : State) (n : Nat) :
    (s.eventSent n).history = appendHistory s.history (s.outbound.records.take n) ∧
    (s.outbound.lost = 0 → (s.eventSent n).outbound = { s.outbound with records := s.outbound.records.drop n } ∧
      s.agrees (s.eventSent n)) ∧
    (s.outbound.lost ≠ 0 → ∃ r : Record,
      r = ⟨s.ownOrigin, s.outbound.nextSeq, s.now, s.timebase.timeState, .loss s.outbound.lost⟩ ∧
      (s.eventSent n).outbound = ⟨s.outbound.records.drop n ++ [r], s.outbound.nextSeq + 1, 0⟩ ∧
      (s.offer r false).agrees (s.eventSent n)) := by
  have hretired : s.agrees (s.retire n) := ⟨rfl, rfl, rfl, rfl, rfl⟩
  refine ⟨(s.retire n).reportLoss_frame .history (by decide), fun hlost => ?_, fun hlost => ⟨_, rfl, ?_⟩⟩
  · rw [State.eventSent, State.reportLoss, if_pos (show (s.retire n).outbound.lost = 0 from hlost)]
    exact ⟨rfl, hretired⟩
  · rw [State.eventSent, State.reportLoss, if_neg (show (s.retire n).outbound.lost ≠ 0 from hlost), State.appendOwn]
    exact ⟨State.offer_frame _ _ _ .outbound (by decide), State.agrees.offer (s := s)
      (t := (lossTaken s n).enqueue ((lossTaken s n).ownRecord s.now s.timebase.timeState (.loss s.outbound.lost)))
      ⟨rfl, rfl, rfl, rfl, rfl⟩ _ _⟩

/-- R76: the covered entries that are still due spend a try. -/
theorem requestSent_missing (s : State) (p q : Station) (seqs : List Seq) : (s.requestSent p seqs).missing q =
    if q = p then (s.missing p).map (fun m => if m.seq ∈ seqs ∧ m.timer.isDue = true then
      { m with tries := m.tries + 1, timer := .timing (s.control.config.ri * 1000), heard := false } else m)
    else s.missing q := by
  rw [State.requestSent, State.missing_setMissing]
  split
  · refine List.map_congr_left fun m _ => ?_
    simp only [List.contains_eq_mem, Bool.and_eq_true, decide_eq_true_eq]
    rfl
  · rfl

/-- The blocks each supplier's completion may change. -/
def suppliedBlocks : Source → List Block
  | .hello _ => [.line, .control]
  | .time => [.timebase]
  | .originAnswer => [.repair]
  | .proxyAnswer _ _ => [.repair]
  | .repairReq _ _ => [.repair]
  | .event _ => [.line, .outbound, .history, .journal, .counters, .host]

theorem takeCompletion_changes (s : State) (src : Source) : s.changesOnly (s.takeCompletion src) (suppliedBlocks src) := by
  cases src with
  | hello restart =>
    show s.changesOnly _ [.line, .control]
    intro b hb
    cases b <;> first | exact absurd (by decide) hb | rfl
  | time =>
    show s.changesOnly _ [.timebase]
    intro b hb
    cases b <;> first | exact absurd (by decide) hb | rfl
  | originAnswer => exact s.setRepair_frame _
  | proxyAnswer p seqs => exact s.setRepair_frame _
  | repairReq p seqs => exact s.setMissing_frame p _
  | event n =>
    show s.changesOnly _ [.line, .outbound, .history, .journal, .counters, .host]
    exact State.changesOnly_trans (State.changesOnly_mono (s.eventSent_frame n) (by decide))
      (State.changesOnly_mono (State.setLine_frame _ _) (by decide))

/-- Settles O60: the line by the frame read back, and each supplier's block by its completion. -/
theorem completionConsumesWhatWasSent : Obligations.CompletionConsumesWhatWasSent := by
  intro s src f htx hread hf
  refine ⟨_, exec_frameComplete htx hread hf, ?_⟩
  have hframe := completed_frame s
  obtain ⟨hline, hdriving⟩ := completed_line hf htx hread
  have hreads := completed_read hf
  have htold := completed_told hf htx
  generalize completed s = u at *
  obtain ⟨hsame, hhello, hhold⟩ := takeCompletion_line u src
  have hcontrol : u.control = s.control := hframe .control (by decide)
  have htimebase : u.timebase = s.timebase := hframe .timebase (by decide)
  have hrepair : u.repair = s.repair := hframe .repair (by decide)
  have hchanges : s.changesOnly (u.takeCompletion src).settleIrq (.line :: .host :: suppliedBlocks src) :=
    State.changesOnly_trans (State.changesOnly_mono hframe (by simp)) (State.changesOnly_trans
      (State.changesOnly_mono (takeCompletion_changes u src) (by simp +contextual))
      (State.changesOnly_mono (State.settleIrq_frame _) (by simp)))
  have hblocks {bs : List Block} (h : ∀ b ∈ Block.line :: .host :: suppliedBlocks src, b ∈ bs) :
      s.changesOnly (u.takeCompletion src).settleIrq bs := State.changesOnly_mono hchanges h
  have hkept : (u.takeCompletion src).settleIrq.line = (u.takeCompletion src).line := State.settleIrq_line _
  obtain ⟨pending, hpending⟩ := u.takeCompletion_control src
  rw [hkept, State.settleIrq_control, State.settleIrq_timebase, State.settleIrq_repair]
  refine ⟨?_, ?_, fun h => ?_, fun h hrx => ?_, ?_, ?_, fun h => ?_, fun h => ?_, ?_, ?_, ?_, ?_, ?_⟩
  · rw [hsame, hline]
  · rw [hsame]
    exact hdriving
  · rw [hsame]
    exact hreads h
  · rw [hsame]
    exact htold h hrx
  · rw [hpending, hcontrol]
  · rintro restart rfl
    refine ⟨rfl, ?_, ?_, hblocks (by simp [suppliedBlocks])⟩
    · show (if restart then false else u.control.restartPending) = _
      rw [hcontrol]
    · rw [hhold nofun, hline]
  · obtain ⟨howed, hsettings⟩ := hhello h
    exact ⟨by rw [howed, hline], by rw [hsettings, hcontrol]⟩
  · rw [hhold h, hline]
  · rintro rfl
    refine ⟨?_, hblocks (by simp [suppliedBlocks])⟩
    rw [← htimebase]
    rfl
  · rintro rfl
    have hdone : (u.takeCompletion .originAnswer).repair = { s.repair with
        originAnswers := answerSent s.repair.originAnswers } := by
      rw [← hrepair]
      rfl
    rw [hdone]
    exact ⟨rfl, fun g more h => by rw [h]; rfl, fun g g' gs more h => by rw [h]; rfl, hblocks (by simp [suppliedBlocks])⟩
  · rintro p seqs rfl
    refine ⟨?_, hblocks (by simp [suppliedBlocks])⟩
    have hdone : (u.takeCompletion (.proxyAnswer p seqs)).repair = { s.repair with
        proxy := s.repair.proxy.filter (fun e => !(e.subject == p && seqs.contains e.seq)) } := by
      rw [← hrepair]
      rfl
    rw [hdone]
    simp only [beq_eq_decide, List.contains_eq_mem]
  · rintro p seqs rfl
    have hset (q : Station) := requestSent_missing u p q seqs
    have hmissing (q : Station) : u.missing q = s.missing q := State.missing_congr hrepair q
    refine ⟨?_, fun q hq => ?_, ?_, ?_, hblocks (by simp [suppliedBlocks])⟩
    · refine (hset p).trans ?_
      rw [if_pos rfl, hmissing, hcontrol]
    · refine (hset q).trans ?_
      rw [if_neg hq, hmissing]
    · rw [← hrepair]
      rfl
    · rw [← hrepair]
      rfl
  · rintro n rfl
    have houtbound : u.outbound = s.outbound := hframe .outbound (by decide)
    have hhistory : u.history = s.history := hframe .history (by decide)
    have hagrees : s.agrees u := State.agrees_of_frame hframe (by decide)
    obtain ⟨hjoined, hnone, hlost⟩ := eventSent_eq u n
    have hown : u.ownOrigin = s.ownOrigin := by
      rw [State.ownOrigin, State.own, hcontrol]
      rfl
    rw [houtbound] at hnone hlost
    refine ⟨rfl, ?_, fun h => ?_, fun h => ?_, hblocks (by simp [suppliedBlocks])⟩
    · refine hjoined.trans ?_
      rw [hhistory, houtbound, appendHistory_eq]
    · obtain ⟨hrecords, hsent⟩ := hnone h
      exact ⟨hrecords, State.agrees.journaledIn (hagrees.trans (hsent.trans ⟨rfl, rfl, rfl, rfl, rfl⟩))⟩
    · obtain ⟨r, hr, hrecords, hsent⟩ := hlost h
      refine ⟨r, ?_, hrecords,
        State.agrees.journaledIn ((hagrees.offer r false).trans (hsent.trans ⟨rfl, rfl, rfl, rfl, rfl⟩))⟩
      rw [hr, hown, hagrees.now, hagrees.timeState]

end Sys2Proof.SendRules
end

section
namespace Sys2Proof.BitRules

open Sys2Proof Sys2Proof.Machine

/-! ### One bit read (R142, R143, R149, R150) -/

/-- Reading a bit: the runs, the byte in reception and what has been read back, each by itself. -/
theorem readBit_eq (l : LineControl) (own level : Bool) : l.readBit own level = { l with
    releasedRun := if level then l.releasedRun + 1 else 0
    drivenRun := if level then 0 else l.drivenRun + 1
    bits := (l.takeBit level).bits
    bytes := (l.takeBit level).bytes
    sent := if l.tx ≠ .free ∧ level = own then l.sent + 1 else l.sent
    misread := if l.tx ≠ .free ∧ level ≠ own then true else l.misread } := by
  obtain ⟨⟨-, hbits, hbytes⟩, hr, hd⟩ := SendRules.readBit_parts l own level
  obtain ⟨hr', hd'⟩ := LineRules.countRun_runs l level
  have hreads := l.readBit_readsTo own level
  have hphase := l.readBit_bitPhase own level
  have hback : (l.readBit own level).sent = (if l.tx ≠ .free ∧ level = own then l.sent + 1 else l.sent) ∧
      (l.readBit own level).misread = (if l.tx ≠ .free ∧ level ≠ own then true else l.misread) := by
    have htake : ((l.countRun level).takeBit level).tx = l.tx ∧ ((l.countRun level).takeBit level).sent = l.sent ∧
        ((l.countRun level).takeBit level).misread = l.misread := by
      unfold LineControl.takeBit LineControl.countRun
      split_ifs <;> exact ⟨rfl, rfl, rfl⟩
    unfold LineControl.readBit LineControl.compareBit
    obtain ⟨htx, hsent, hmis⟩ := htake
    rw [htx]
    by_cases hfree : l.tx = .free
    · simp [hfree, hsent, hmis]
    · cases own <;> cases level <;> simp [hfree, hsent, hmis]
  rw [LineControl.readsTo] at hreads
  rw [hreads, hbits, hbytes, hr, hd, hr', hd', hphase, hback.1, hback.2]

section
variable {l : LineControl} {level : Bool}

theorem takeBit_idle (h : l.rx ≠ .receiving ∨ 10 ≤ l.bits.length ∨ (l.bits = [] ∧ level = true)) :
    l.takeBit level = l := by
  unfold LineControl.takeBit
  by_cases hrx : l.rx = .receiving
  · rcases h with h | h | ⟨h, rfl⟩
    · exact absurd hrx h
    · rw [if_neg (by simp [hrx]), if_neg (by omega), if_neg (by omega), if_neg (by omega)]
    · rw [if_neg (by simp [hrx]), if_pos (by rw [h]; rfl)]
      rfl
  · rw [if_pos (by simp [hrx])]

theorem takeBit_start (hrx : l.rx = .receiving) (hbits : l.bits = []) (hlevel : level = false) :
    l.takeBit level = { l with bits := [false] } := by
  unfold LineControl.takeBit
  rw [if_neg (by simp [hrx]), if_pos (by rw [hbits]; rfl), hlevel]
  rfl

theorem takeBit_more (hrx : l.rx = .receiving) (hone : 1 ≤ l.bits.length) (hnine : l.bits.length ≤ 9)
    (h : l.bits.length < 9 ∨ level = false) : l.takeBit level = { l with bits := l.bits ++ [level] } := by
  unfold LineControl.takeBit
  rw [if_neg (by simp [hrx]), if_neg (by omega)]
  by_cases hlast : l.bits.length < 9
  · rw [if_pos hlast]
  · rw [if_neg hlast, if_pos (by omega), if_neg (by rw [h.resolve_left hlast]; exact Bool.false_ne_true)]

theorem takeBit_stop (hrx : l.rx = .receiving) (hnine : l.bits.length = 9) (hlevel : level = true) :
    l.takeBit level = { l with bits := [], bytes := l.bytes ++ [byteOfBits l.bits.tail] } := by
  unfold LineControl.takeBit
  rw [if_neg (by simp [hrx]), if_neg (by omega), if_neg (by omega), if_pos hnine, if_pos hlevel]

end

/-! ### One microsecond of a bit time (R141) -/

/-- The line after a microsecond: a bit read where it is the middle of its time, and the time that ends. -/
theorem bitClock_line (s : State) : s.bitClock.line =
    { (if s.line.bitPhase + 1 = s.control.bitRate.middle then s.lineRead else s.line) with
      bitPhase := if s.line.bitPhase + 1 < s.control.bitRate.bitTime then s.line.bitPhase + 1 else 0
      driving := s.line.driving && decide (s.line.bitPhase + 1 < s.control.bitRate.bitTime) } := by
  have hdriving : (if s.line.bitPhase + 1 = s.control.bitRate.middle then s.lineRead else s.line).driving =
      s.line.driving := by
    unfold State.lineRead
    split_ifs
    · rw [readBit_eq]
    · rfl
    · rfl
  unfold State.bitClock
  simp only
  split
  · rename_i h
    rw [decide_eq_true h, Bool.and_true, ← hdriving]
  · rename_i h
    rw [decide_eq_false h, Bool.and_false]

theorem bitClock_medium (s : State) : s.bitClock.medium =
    if s.control.bitRate.bitTime ≤ s.line.bitPhase + 1 ∧ s.readsBits = true then s.medium.next else s.medium := by
  unfold State.bitClock
  simp only
  by_cases h : s.line.bitPhase + 1 < s.control.bitRate.bitTime
  · have hnot : ¬ (s.control.bitRate.bitTime ≤ s.line.bitPhase + 1 ∧ s.readsBits = true) := fun hc =>
      absurd hc.1 (Nat.not_le.mpr h)
    rw [if_neg hnot]
    simp only [h, if_true]
  · simp only [h, if_false, Nat.not_lt.mp h, true_and]

theorem ltx_eq (s : State) : s.ltx = if s.line.tx = .free then !s.line.driving
    else (lineBits ((s.line.prepared.map (fun f => encodeFrame s.ownOrigin f.frame)).getD [])).getD
      (s.line.sent + (if s.line.misread then 1 else 0) - (if s.control.bitRate.middle ≤ s.line.bitPhase then 1 else 0))
      true := by
  have hbits : s.sendingBits =
      lineBits ((s.line.prepared.map (fun f => encodeFrame s.ownOrigin f.frame)).getD []) := by
    unfold State.sendingBits State.lineBytes
    cases s.line.prepared <;> rfl
  unfold State.ltx State.bitsOver State.bitRead
  rw [hbits]
  simp only [beq_iff_eq, decide_eq_true_eq]

theorem readsBits_iff (s : State) : s.readsBits = true ↔ s.medium.untold = false ∨ s.line.tx ≠ .free := by
  unfold State.readsBits
  cases s.medium.untold <;> simp

/-- Settles O4: the bit clock by its two halves, and the bit read by its parts. -/
theorem bitTimesReadTheLine : Obligations.BitTimesReadTheLine := by
  intro s t own level time middle hout ht hrate hown hlevel
  have htimes : s.control.bitRate.bitTime = time ∧ s.control.bitRate.middle = middle ∧
      s.justRead = if middle < time then middle else 0 := by
    unfold State.justRead
    rcases hrate with ⟨h, rfl, rfl⟩ | ⟨h, rfl, rfl⟩ | ⟨h, rfl, rfl⟩ | ⟨h, rfl, rfl⟩ <;> rw [h] <;>
      exact ⟨rfl, rfl, rfl⟩
  obtain ⟨htime, hmiddle, hjust⟩ := htimes
  have hltx : s.ltx = own := by rw [ltx_eq, hmiddle, hown]
  have hlrx : s.lrx = level := by rw [State.lrx, lineLevel, hltx, hlevel]
  have htick : t.line = s.bitClock.line ∧ t.medium = s.bitClock.medium := by
    rw [ht, State.microsecond, if_neg (by rw [hout]; exact Bool.false_ne_true)]
    exact ⟨rfl, rfl⟩
  obtain ⟨htline, htmedium⟩ := htick
  have hline := htline.trans (bitClock_line s)
  have hmedium := htmedium.trans (bitClock_medium s)
  rw [htime, hmiddle] at hline
  rw [htime] at hmedium
  have hphase : t.line.bitPhase = if s.line.bitPhase + 1 < time then s.line.bitPhase + 1 else 0 := by rw [hline]
  have hdriving : t.line.driving = (s.line.driving && decide (s.line.bitPhase + 1 < time)) := by rw [hline]
  rw [← hphase, ← hdriving] at hline
  refine ⟨hltx, hlrx, hmiddle, hjust, hphase, hdriving, fun hne => ?_, fun hlt => ?_, fun huntold hfree => ?_,
    fun hreads => ?_⟩
  · rw [if_neg hne] at hline
    exact hline
  · rw [hmedium, if_neg fun hc => absurd hc.1 (Nat.not_le.mpr hlt)]
  · have hnone : ¬ s.readsBits = true := by
      rw [readsBits_iff]
      rintro (h | h)
      · exact Bool.false_ne_true (h.symm.trans huntold)
      · exact h hfree
    have hread : s.lineRead = s.line := if_neg hnone
    rw [hread, ite_self] at hline
    exact ⟨hline, by rw [hmedium, if_neg fun hc => hnone hc.2]⟩
  · have hall := (readsBits_iff s).mpr hreads
    refine ⟨fun hend => ?_, fun hmid => ?_⟩
    · rw [if_pos ⟨hend, hall⟩] at hmedium
      rw [hmedium]
      refine ⟨fun h => ?_, fun b more h => ?_⟩ <;> rw [Medium.next, h]
    · have hread : s.lineRead = s.line.readBit own level := by rw [State.lineRead, if_pos hall, hltx, hlrx]
      rw [if_pos hmid, hread, readBit_eq] at hline
      have hbits : t.line.bits = (s.line.takeBit level).bits ∧ t.line.bytes = (s.line.takeBit level).bytes := by
        rw [hline]
        exact ⟨rfl, rfl⟩
      obtain ⟨hbits, hbytes⟩ := hbits
      refine ⟨?_, fun h => ?_, fun hrx hnil hdriven => ?_, fun hrx hone hnine => ⟨fun h => ?_, fun hlast hreleased => ?_⟩⟩
      · rw [← hbits, ← hbytes] at hline
        exact hline
      · rw [hbits, hbytes, takeBit_idle h]
        exact ⟨rfl, rfl⟩
      · rw [hbits, hbytes, takeBit_start hrx hnil hdriven]
        exact ⟨rfl, rfl⟩
      · rw [hbits, hbytes, takeBit_more hrx hone hnine h]
        exact ⟨rfl, rfl⟩
      · rw [hbits, hbytes, takeBit_stop hrx hlast hreleased]
        exact ⟨rfl, _, rfl, dataBits_byteOfBits (by rw [List.length_tail, hlast])⟩

end Sys2Proof.BitRules
end

section
namespace Sys2Proof.DueRules

open Sys2Proof Sys2Proof.Machine

/-! ### The rows of a whole frame (R145, R156) -/

theorem receivedRow_bytes (raw : List Byte) : frameBytes (receivedRow raw) = some raw := by
  unfold receivedRow
  split
  · rfl
  · rfl
  · split <;> rfl

theorem eq_receivedRow_iff_false {c : Instr} {raw : List Byte} (h : frameBytes c = none) :
    c = receivedRow raw ↔ False :=
  iff_false_intro fun he => by
    rw [he, receivedRow_bytes] at h
    contradiction

/-- The kind byte of a valid frame is that of its content. -/
theorem kind_of_valid {raw : List Byte} {p : Station} {f : Frame} (hwhole : frameWhole raw = true)
    (h : checkFrame raw = .valid p f) : raw[1]? = some f.kind := by
  obtain ⟨arb, kind, body, crc, -, hcrc, rfl⟩ := (FormatRules.frameWhole_iff raw).mp hwhole
  by_cases hown : arb :: kind :: BitVec.ofNat 8 body.length :: body ++ crc = wholeFrame arb kind body
  · rw [hown, FormatRules.checkFrame_wholeFrame] at h
    obtain ⟨hkind, -⟩ := FormatRules.parseBody_some (checkContent_valid h).2.2
    rw [hkind]
    rfl
  · rw [FormatRules.checkFrame_otherCrc hcrc hown] at h
    contradiction

theorem receivedRow_failed {raw : List Byte} (h : ∀ p f, checkFrame raw ≠ .valid p f) :
    receivedRow raw = .crcError raw := by
  unfold receivedRow
  split
  · rfl
  · rfl
  · rename_i p f hcheck
    exact absurd hcheck (h p f)

/-- R203: the row of a valid frame, by its kind. -/
def rowOf (raw : List Byte) : Frame → Instr
  | .hello _ _ _ => .helloReceived raw
  | .time _ _ _ _ _ => .timeReceived raw
  | .repairReq _ _ _ => .repairReqReceived raw
  | .repairData _ _ => .repairDataReceived raw
  | .repairNone _ _ => .repairNoneReceived raw
  | .event _ => .eventReceived raw

theorem receivedRow_valid {raw : List Byte} {p : Station} {f : Frame} (h : checkFrame raw = .valid p f) :
    receivedRow raw = rowOf raw f := by
  unfold receivedRow
  rw [h]
  cases f <;> rfl

/-- Of the rows a whole frame can be, the one it is: of its kind, or CRC_ERROR where a check fails. -/
theorem eq_receivedRow_iff {c : Instr} {raw : List Byte} (hbytes : frameBytes c = some raw)
    (hwhole : frameWhole raw = true) : c = receivedRow raw ↔
      c.wellFormed = true ∧ (c = .crcError raw ↔ ∀ p f, checkFrame raw ≠ .valid p f) := by
  by_cases hvalid : ∀ p f, checkFrame raw ≠ .valid p f
  · rw [receivedRow_failed hvalid]
    refine ⟨?_, fun h => h.2.mpr hvalid⟩
    rintro rfl
    exact ⟨hwhole, iff_of_true rfl hvalid⟩
  · obtain ⟨p, f, hcheck⟩ : ∃ p f, checkFrame raw = .valid p f := by
      simpa only [ne_eq, not_forall, not_not] using hvalid
    have hkind := kind_of_valid hwhole hcheck
    rw [receivedRow_valid hcheck]
    constructor
    · rintro rfl
      cases f with
      | _ =>
        refine ⟨?_, iff_of_false nofun hvalid⟩
        show (frameWhole raw && raw[1]? == some _) = true
        rw [hwhole, hkind]
        rfl
    · rintro ⟨hwell, hrow⟩
      have hne : c ≠ .crcError raw := fun hc => hvalid (hrow.mp hc)
      have hkinds {k : Byte} (hk : frameOfKind k raw = true) : f.kind = k := by
        rw [frameOfKind, Bool.and_eq_true, beq_iff_eq, hkind, Option.some.injEq] at hk
        exact hk.2
      cases c with
      | crcError r =>
        cases Option.some.inj hbytes
        exact absurd rfl hne
      | helloReceived r | timeReceived r | repairReqReceived r | repairDataReceived r | repairNoneReceived r
        | eventReceived r =>
        cases Option.some.inj hbytes
        have hk := hkinds hwell
        cases f <;> first | rfl | exact absurd hk (by simp [Frame.kind])
      | _ => contradiction

/-! ### The events that are due -/

theorem mem_dueWhen (b : Bool) (c d : Instr) : c ∈ dueWhen b d ↔ b = true ∧ c = d := by
  unfold dueWhen
  split
  · rename_i h
    rw [List.mem_singleton, and_iff_right h]
  · rename_i h
    exact iff_of_false List.not_mem_nil fun hc => h hc.1

theorem proxyDue_mem {s : State} {p : Station} {q : Seq} (h : s.proxyDue p q = true) :
    ∃ e ∈ s.repair.proxy, e.subject = p ∧ e.seq = q := by
  obtain ⟨e, he, hnames⟩ := List.any_eq_true.mp (Bool.and_eq_true_iff.mp h).2
  simp only [Bool.and_eq_true, beq_iff_eq] at hnames
  exact ⟨e, he, hnames.1⟩

/-- An event of the station is due: the row of a whole frame where `row` holds, or one by its own condition. -/
def DueAs (s : State) (c : Instr) (row : Prop) : Prop :=
  (s.releaseTickDue = true ∧ c = .releaseTick) ∨ (s.slewTickDue = true ∧ c = .slewTick) ∨
    (s.sampleTickDue = true ∧ c = .sampleTick) ∨ (s.roundEndDue = true ∧ c = .roundEnd) ∨
    (s.joinExpiryDue = true ∧ c = .joinTimerExpiry) ∨
    (∃ i, (s.directReadDue i = true ∧ c = .pinChange i (s.pin i)) ∨ (s.holdoffDue i = true ∧ c = .holdoffExpiry i) ∨
      (s.windowDue i = true ∧ c = .chatterWindowExpiry i) ∨ (s.quietDue i = true ∧ c = .quietTimerExpiry i)) ∨
    (∃ p, (s.silenceDue p = true ∧ c = .silenceExpiry p) ∨ (s.repairDue p = true ∧ c = .repairTimerExpiry p)) ∨
    (∃ e ∈ s.repair.proxy, s.proxyDue e.subject e.seq = true ∧ c = .proxyDelayExpiry e.subject e.seq) ∨
    (s.startDue = true ∧ c = .startOfFrame s.medium.coming) ∨ (s.gapDue = true ∧ c = .idleGap) ∨
    (s.stuckDue = true ∧ c = .lineStuck) ∨ (s.stuckClearDue = true ∧ c = .lineStuckClear) ∨
    (∃ b, s.line.faultByte = some b ∧ s.receiving = true ∧ c = .framingFault b) ∨
    (∃ b ∈ s.line.bytes, s.lengthDue b = true ∧ c = .bodyLengthAbove57 b) ∨ row ∨
    (s.wonDue = true ∧ c = .arbitrationWon) ∨ (s.lossDue = true ∧ c = .arbitrationLoss) ∨
    (s.bitErrorDue = true ∧ c = .bitError) ∨ (s.completionDue = true ∧ c = .frameComplete) ∨
    ((s.holdBackOver && s.line.holdBack) = true ∧ c = .holdBackClear) ∨ (s.frameDue = true ∧ c = .frameBegin)

theorem mem_dueEvents_iff (s : State) (c : Instr) : c ∈ s.dueEvents ↔
    DueAs s c (s.frameEndDue = true ∧ c = receivedRow s.line.bytes) := by
  simp only [State.dueEvents, State.lineEvents, DueAs, List.mem_append, List.mem_flatMap, List.mem_finRange, true_and,
    Option.mem_toList, mem_dueWhen, or_assoc]

/-- A row that is not one of a whole frame, among the events that are due. -/
theorem mem_dueEvents_other (s : State) (c : Instr) (h : frameBytes c = none) : c ∈ s.dueEvents ↔ DueAs s c False := by
  rw [mem_dueEvents_iff, eq_receivedRow_iff_false h, and_false]

/-- The timers and ticks of the station, each by its own condition. -/
theorem timer_mem_dueEvents (s : State) :
    (.releaseTick ∈ s.dueEvents ↔ s.releaseTickDue = true) ∧ (.slewTick ∈ s.dueEvents ↔ s.slewTickDue = true) ∧
    (.sampleTick ∈ s.dueEvents ↔ s.sampleTickDue = true) ∧ (.roundEnd ∈ s.dueEvents ↔ s.roundEndDue = true) ∧
    (.joinTimerExpiry ∈ s.dueEvents ↔ s.joinExpiryDue = true) ∧
    (∀ i b, .pinChange i b ∈ s.dueEvents ↔ s.directReadDue i = true ∧ b = s.pin i) ∧
    (∀ i, .holdoffExpiry i ∈ s.dueEvents ↔ s.holdoffDue i = true) ∧
    (∀ i, .chatterWindowExpiry i ∈ s.dueEvents ↔ s.windowDue i = true) ∧
    (∀ i, .quietTimerExpiry i ∈ s.dueEvents ↔ s.quietDue i = true) ∧
    (∀ p, .silenceExpiry p ∈ s.dueEvents ↔ s.silenceDue p = true) ∧
    (∀ p, .repairTimerExpiry p ∈ s.dueEvents ↔ s.repairDue p = true) ∧
    (∀ p q, .proxyDelayExpiry p q ∈ s.dueEvents ↔ s.proxyDue p q = true) := by
  have hproxy (p : Station) (q : Seq) : (∃ e ∈ s.repair.proxy, s.proxyDue e.subject e.seq = true ∧
      p = e.subject ∧ q = e.seq) ↔ s.proxyDue p q = true := by
    refine ⟨fun ⟨e, _, hdue, hp, hq⟩ => by rw [hp, hq]; exact hdue, fun h => ?_⟩
    obtain ⟨e, he, rfl, rfl⟩ := proxyDue_mem h
    exact ⟨e, he, h, rfl, rfl⟩
  refine ⟨?_, ?_, ?_, ?_, ?_, fun _ _ => ?_, fun _ => ?_, fun _ => ?_, fun _ => ?_, fun _ => ?_, fun _ => ?_,
    fun _ _ => ?_⟩ <;>
    (refine (mem_dueEvents_other s _ rfl).trans ?_; simp [DueAs, hproxy])

/-- The events of the line, each by its own condition. -/
theorem line_mem_dueEvents (s : State) :
    (∀ levels, .startOfFrame levels ∈ s.dueEvents ↔ s.startDue = true ∧ levels = s.medium.coming) ∧
    (.idleGap ∈ s.dueEvents ↔ s.gapDue = true) ∧
    (.holdBackClear ∈ s.dueEvents ↔ s.holdBackOver = true ∧ s.line.holdBack = true) ∧
    (.lineStuck ∈ s.dueEvents ↔ s.stuckDue = true) ∧ (.lineStuckClear ∈ s.dueEvents ↔ s.stuckClearDue = true) ∧
    (∀ b, .framingFault b ∈ s.dueEvents ↔ s.line.faultByte = some b ∧ s.receiving = true) ∧
    (∀ b, .bodyLengthAbove57 b ∈ s.dueEvents ↔ b ∈ s.line.bytes ∧ s.lengthDue b = true) ∧
    (.arbitrationWon ∈ s.dueEvents ↔ s.wonDue = true) ∧ (.arbitrationLoss ∈ s.dueEvents ↔ s.lossDue = true) ∧
    (.bitError ∈ s.dueEvents ↔ s.bitErrorDue = true) ∧ (.frameComplete ∈ s.dueEvents ↔ s.completionDue = true) ∧
    (.frameBegin ∈ s.dueEvents ↔ s.frameDue = true) := by
  refine ⟨fun _ => ?_, ?_, ?_, ?_, ?_, fun _ => ?_, fun _ => ?_, ?_, ?_, ?_, ?_, ?_⟩ <;>
    (refine (mem_dueEvents_other s _ rfl).trans ?_; simp [DueAs])

/-- The rows of a whole frame: the one that the bytes read are. -/
theorem row_mem_dueEvents (s : State) {c : Instr} {raw : List Byte} (h : frameBytes c = some raw) :
    c ∈ s.dueEvents ↔ s.frameEndDue = true ∧ c = receivedRow s.line.bytes := by
  rw [mem_dueEvents_iff]
  cases c <;> first | contradiction | simp [DueAs]

end Sys2Proof.DueRules
end

section
namespace Sys2Proof.DueRules

open Sys2Proof Sys2Proof.Machine

/-! ### When a frame may be sent (R147, R148) -/

theorem foldl_longerRequest_eq_none {s : State} {list : List Station} {best : Option (Station × Nat)}
    (h : list.foldl (SendRules.longerRequest s) best = none) : best = none ∧ ∀ p ∈ list, s.requestAge p = none := by
  induction list generalizing best with
  | nil => exact ⟨h, fun _ hp => absurd hp List.not_mem_nil⟩
  | cons p ps ih =>
    obtain ⟨hstep, hrest⟩ := ih h
    have hboth : best = none ∧ s.requestAge p = none := by
      unfold SendRules.longerRequest waitedLonger at hstep
      split at hstep
      · rename_i hage
        exact ⟨hstep, hage⟩
      · contradiction
      · split at hstep <;> contradiction
    refine ⟨hboth.1, fun q hq => ?_⟩
    rcases List.mem_cons.mp hq with rfl | hq
    · exact hboth.2
    · exact hrest q hq

theorem requestPeer_isSome_iff (s : State) :
    s.requestPeer.isSome = true ↔ ∃ p, ∃ m ∈ s.missing p, m.timer.isDue = true := by
  rw [← Bool.not_eq_false, Option.isSome_eq_false_iff, Option.isNone_iff_eq_none]
  constructor
  · intro h
    by_contra hnone
    refine h (SendRules.requestPeer_none fun p m hm => ?_)
    by_contra hdue
    exact hnone ⟨p, m, hm, by simpa using hdue⟩
  · rintro ⟨p, m, hm, hdue⟩ h
    rw [SendRules.requestPeer_eq, Option.map_eq_none_iff] at h
    have hage := (foldl_longerRequest_eq_none h).2 p (List.mem_finRange p)
    exact Bool.false_ne_true (((SendRules.requestAge_none_iff s p).mp hage m hm).symm.trans hdue)

theorem selectLow_isSome_iff (s : State) (proxy : List ProxyEntry) : (s.selectLow proxy).isSome = true ↔
    (∃ p, ∃ m ∈ s.missing p, m.timer.isDue = true) ∨ (s.outbound.records ≠ [] ∧ s.line.holdBack = false) := by
  rw [← requestPeer_isSome_iff]
  cases hp : s.requestPeer with
  | some p => rw [SendRules.selectLow_request hp]; simp
  | none =>
    by_cases hevent : s.outbound.records ≠ [] ∧ s.line.holdBack = false
    · rw [SendRules.selectLow_event hp hevent.1 hevent.2]
      simp [hevent]
    · have hidle : s.outbound.records = [] ∨ s.line.holdBack = true := by
        by_cases hr : s.outbound.records = []
        · exact .inl hr
        · exact .inr (by simpa using fun hh => hevent ⟨hr, hh⟩)
      rw [SendRules.selectLow_none hp hidle]
      simp [hevent]

theorem selectProxy_isSome_iff (s : State) : s.selectProxy.isSome = true ↔
    (∃ e ∈ s.repair.proxy, e.timer.isDue = true ∧ s.journal.lookup (originOf e.subject) e.seq ≠ none) ∨
      (∃ p, ∃ m ∈ s.missing p, m.timer.isDue = true) ∨ (s.outbound.records ≠ [] ∧ s.line.holdBack = false) := by
  by_cases hproxy : ∃ e ∈ s.repair.proxy, e.timer.isDue = true ∧ s.journal.lookup (originOf e.subject) e.seq ≠ none
  · obtain ⟨rest, ⟨p, rs⟩, hbuilt⟩ := SendRules.buildProxy_answers (Nat.le_refl _) hproxy
    rw [SendRules.selectProxy_found hbuilt]
    exact iff_of_true rfl (.inl hproxy)
  · have hgone : ∀ x ∈ s.repair.proxy, x.timer.isDue = true → s.journal.proxyRecord x = none := fun x hx hdue => by
      by_contra hrecord
      exact hproxy ⟨x, hx, hdue, hrecord⟩
    rw [SendRules.selectProxy_low (SendRules.buildProxy_empty (Nat.le_refl _) hgone), selectLow_isSome_iff,
      or_iff_right hproxy]

theorem select_isSome_iff (s : State) : s.select.isSome = true ↔
    s.line.helloOwed = true ∨ s.timebase.timeOwed = true ∨
    (∃ f frames answers, s.repair.originAnswers = (f :: frames) :: answers) ∨
    (∃ e ∈ s.repair.proxy, e.timer.isDue = true ∧ s.journal.lookup (originOf e.subject) e.seq ≠ none) ∨
    (∃ p, ∃ m ∈ s.missing p, m.timer.isDue = true) ∨ (s.outbound.records ≠ [] ∧ s.line.holdBack = false) := by
  rw [← selectProxy_isSome_iff]
  unfold State.select
  by_cases hhello : s.line.helloOwed = true
  · simp [hhello]
  · by_cases htime : s.timebase.timeOwed = true
    · simp [hhello, htime]
    · rw [if_neg hhello, if_neg htime, or_iff_right hhello, or_iff_right htime]
      match s.repair.originAnswers with
      | [] => simp [nextAnswer]
      | [] :: more => simp [nextAnswer]
      | (f :: frames) :: more => simp [nextAnswer]

/-! ### The conditions of the events -/

theorem ranOut_iff (t : Option Nat) : ranOut t = true ↔ t = some 0 := by
  rw [ranOut, beq_iff_eq]

/-- R31, R50, R78, R86, R96, R110, R118 to R126, R172: the station's own timers, ticks and reads of its pins. -/
theorem timers_due {s : State} (hout : s.inReset = false) :
    (.releaseTick ∈ s.dueEvents ↔ s.ticks.release = 0) ∧
    (.slewTick ∈ s.dueEvents ↔ s.ticks.slew = 0) ∧
    (.sampleTick ∈ s.dueEvents ↔ s.ticks.sample = 0) ∧
    (.roundEnd ∈ s.dueEvents ↔ s.timebase.roundTimer = some 0) ∧
    (.joinTimerExpiry ∈ s.dueEvents ↔
      s.control.lifecycle = .joining ∧ s.control.joinTimer = some 0) ∧
    (∀ i b, .pinChange i b ∈ s.dueEvents ↔ b = s.pin i ∧ (s.input i).state ≠ .disabled ∧
      (s.inputConfig i).qualification = .direct ∧ (s.input i).countTaken = false ∧
      (s.input i).level ≠ b) ∧
    (∀ i, .holdoffExpiry i ∈ s.dueEvents ↔
      (s.input i).state = .holdoff ∧ (s.input i).holdoffTimer = some 0) ∧
    (∀ i, .chatterWindowExpiry i ∈ s.dueEvents ↔ ∃ w, (s.input i).window = some w ∧ w.left = 0) ∧
    (∀ i, .quietTimerExpiry i ∈ s.dueEvents ↔
      (s.input i).state = .suspended ∧ (s.input i).quietTimer = some 0) ∧
    (∀ p, .silenceExpiry p ∈ s.dueEvents ↔
      (s.peer p).state = .active ∧ (s.peer p).silenceTimer = some 0) ∧
    (∀ p, .repairTimerExpiry p ∈ s.dueEvents ↔ ∃ m ∈ s.missing p, m.timer = .timing 0) ∧
    (∀ p q, .proxyDelayExpiry p q ∈ s.dueEvents ↔
      (⟨p, q, .timing 0⟩ : ProxyEntry) ∈ s.repair.proxy) := by
  obtain ⟨hrelease, hslew, hsample, hround, hjoin, hpin, hhold, hwindow, hquiet, hsilence, hrepair, hproxy⟩ :=
    timer_mem_dueEvents s
  have hon : (!s.inReset) = true := by rw [hout]; rfl
  refine ⟨hrelease.trans ?_, hslew.trans ?_, hsample.trans ?_, hround.trans ?_, hjoin.trans ?_,
    fun i b => (hpin i b).trans ?_, fun i => (hhold i).trans ?_, fun i => (hwindow i).trans ?_,
    fun i => (hquiet i).trans ?_, fun p => (hsilence p).trans ?_, fun p => (hrepair p).trans ?_,
    fun p q => (hproxy p q).trans ?_⟩
  · rw [State.releaseTickDue, hon, Bool.true_and, beq_iff_eq]
  · rw [State.slewTickDue, hon, Bool.true_and, beq_iff_eq]
  · rw [State.sampleTickDue, hon, Bool.true_and, beq_iff_eq]
  · rw [State.roundEndDue, hon, Bool.true_and, ranOut_iff]
  · rw [State.joinExpiryDue, hon, Bool.true_and, Bool.and_eq_true, beq_iff_eq, ranOut_iff]
  · simp only [State.directReadDue, hon, Bool.true_and, Bool.and_eq_true, bne_iff_ne, beq_iff_eq, Bool.not_eq_true', and_assoc]
    refine ⟨?_, ?_⟩
    · rintro ⟨hstate, hdirect, htaken, hlevel, rfl⟩
      exact ⟨rfl, hstate, hdirect, htaken, hlevel⟩
    · rintro ⟨rfl, hstate, hdirect, htaken, hlevel⟩
      exact ⟨hstate, hdirect, htaken, hlevel, rfl⟩
  · rw [State.holdoffDue, hon, Bool.true_and, Bool.and_eq_true, beq_iff_eq, ranOut_iff]
  · simp only [State.windowDue, hon, Bool.true_and, Option.any_eq_true, beq_iff_eq]
  · rw [State.quietDue, hon, Bool.true_and, Bool.and_eq_true, beq_iff_eq, ranOut_iff]
  · rw [State.silenceDue, hon, Bool.true_and, Bool.and_eq_true, beq_iff_eq, ranOut_iff]
  · simp only [State.repairDue, hon, Bool.true_and, List.any_eq_true, RepairRules.repairTimer_ranOut_iff]
  · simp only [State.proxyDue, hon, Bool.true_and, List.any_eq_true, Bool.and_eq_true, beq_iff_eq,
      RepairRules.repairTimer_ranOut_iff]
    refine ⟨?_, fun h => ⟨_, h, ⟨rfl, rfl⟩, rfl⟩⟩
    rintro ⟨⟨subject, seq, timer⟩, he, ⟨rfl, rfl⟩, rfl⟩
    exact he

end Sys2Proof.DueRules
end

section
namespace Sys2Proof.DueRules

open Sys2Proof Sys2Proof.Machine

theorem released_twentyFour_iff (s : State) : 24 ≤ s.releasedTimes ↔ 24 < s.line.releasedRun ∨
    (24 = s.line.releasedRun ∧ s.line.bitPhase < s.control.bitRate.middle) := by
  unfold State.releasedTimes State.bitRead
  split
  · rename_i hread
    have := of_decide_eq_true hread
    omega
  · rename_i hread
    have : ¬ s.control.bitRate.middle ≤ s.line.bitPhase := fun h => hread (decide_eq_true h)
    omega

/-- R142, R152: all bits of the frame but its last stop bit have been read back. -/
theorem comparedAll_iff {s : State} {f : Prepared} (hf : s.line.prepared = some f) :
    s.line.sent = s.comparedBits ↔ s.line.sent + 1 = 10 * (encodeFrame s.ownOrigin f.frame).length := by
  obtain ⟨a, rest, hcons⟩ := SendRules.encodeFrame_cons s.ownOrigin f.frame
  have hcompared : s.comparedBits = 10 * (encodeFrame s.ownOrigin f.frame).length - 1 :=
    SendRules.comparedBits_eq hf
  have hpos : 1 ≤ (encodeFrame s.ownOrigin f.frame).length := by
    rw [hcons, List.length_cons]
    omega
  rw [hcompared]
  omega

section
variable {s : State} (hout : s.inReset = false)

include hout

/-- R143, R144, R153: the start of a frame, the runs of the line, the end of hold-back. -/
theorem runs_due :
    (∀ levels, .startOfFrame levels ∈ s.dueEvents ↔
      s.line.rx = .idle ∧ s.medium.level = false ∧ levels = s.medium.coming) ∧
    (.idleGap ∈ s.dueEvents ↔ s.line.rx ≠ .idle ∧ s.line.tx = .free ∧ s.line.stuck = false ∧
      (12 < s.line.releasedRun ∨
        (12 = s.line.releasedRun ∧ s.line.bitPhase < s.control.bitRate.middle))) ∧
    (.holdBackClear ∈ s.dueEvents ↔ s.line.rx = .idle ∧ s.line.holdBack = true ∧
      (24 < s.line.releasedRun ∨
        (24 = s.line.releasedRun ∧ s.line.bitPhase < s.control.bitRate.middle))) ∧
    (.lineStuck ∈ s.dueEvents ↔
      s.line.tx = .free ∧ s.line.stuck = false ∧ 100 < s.line.drivenRun) ∧
    (.lineStuckClear ∈ s.dueEvents ↔ s.line.stuck = true ∧ 1 ≤ s.line.releasedRun) := by
  obtain ⟨hstart, hgap, hhold, hstuck, hclear, -⟩ := line_mem_dueEvents s
  have hon : (!s.inReset) = true := by rw [hout]; rfl
  refine ⟨fun levels => (hstart levels).trans ?_, hgap.trans ?_, hhold.trans ?_, hstuck.trans ?_, hclear.trans ?_⟩
  · rw [State.startDue, hon, Bool.true_and, Bool.and_eq_true, beq_iff_eq, Bool.not_eq_true', and_assoc]
  · rw [← LineRules.gapRead_iff]
    simp only [State.gapDue, hon, Bool.true_and, Bool.and_eq_true, bne_iff_ne, beq_iff_eq, Bool.not_eq_true', and_assoc]
  · rw [← released_twentyFour_iff, State.holdBackOver, hon, Bool.true_and, Bool.and_eq_true, beq_iff_eq,
      decide_eq_true_eq, and_assoc]
    exact and_congr_right fun _ => and_comm
  · simp only [State.stuckDue, hon, Bool.true_and, Bool.and_eq_true, beq_iff_eq, Bool.not_eq_true', and_assoc,
      LineControl.stuckRead, decide_eq_true_eq]
    rfl
  · rw [State.stuckClearDue, hon, Bool.true_and, Bool.and_eq_true, decide_eq_true_eq]

/-- R155, R156, R159: what the bytes of a frame in reception make due. -/
theorem bytes_due :
    (∀ b : Byte, .framingFault b ∈ s.dueEvents ↔ s.line.rx = .receiving ∧ s.line.tx = .free ∧
      s.line.bits.length = 10 ∧ s.line.bits.tail.take 8 = dataBits b) ∧
    (∀ len : Byte, .bodyLengthAbove57 len ∈ s.dueEvents ↔ s.line.rx = .receiving ∧
      s.line.tx = .free ∧ 57 < len.toNat ∧ ∃ a k, s.line.bytes = [a, k, len]) ∧
    (∀ c raw, frameBytes c = some raw → (c ∈ s.dueEvents ↔ s.line.rx = .receiving ∧
      s.line.tx = .free ∧ raw = s.line.bytes ∧ frameWhole raw = true ∧ c.wellFormed = true ∧
      (c = .crcError raw ↔ ∀ p f, checkFrame raw ≠ .valid p f))) := by
  obtain ⟨-, -, -, -, -, hfault, hlength, -⟩ := line_mem_dueEvents s
  have hreceiving : s.receiving = true ↔ s.line.rx = .receiving ∧ s.line.tx = .free := by
    rw [LineRules.receiving_iff, and_iff_right hout]
  refine ⟨fun b => (hfault b).trans ?_, fun len => (hlength len).trans ?_,
    fun c raw hbytes => (row_mem_dueEvents s hbytes).trans ?_⟩
  · rw [hreceiving, ← beq_iff_eq, LineRules.faultByte_iff, and_comm, and_assoc]
  · simp only [State.lengthDue, Bool.and_eq_true, hreceiving, LineRules.lengthRead_iff, decide_eq_true_eq]
    constructor
    · rintro ⟨-, ⟨⟨hrx, htx⟩, hread⟩, habove⟩
      exact ⟨hrx, htx, habove, hread⟩
    · rintro ⟨hrx, htx, habove, a, k, hread⟩
      exact ⟨by rw [hread]; simp, ⟨⟨hrx, htx⟩, a, k, hread⟩, habove⟩
  · rw [State.frameEndDue, Bool.and_eq_true, hreceiving]
    constructor
    · rintro ⟨⟨⟨hrx, htx⟩, hwhole⟩, hrow⟩
      have hraw : raw = s.line.bytes := by
        rw [hrow, receivedRow_bytes] at hbytes
        exact (Option.some.inj hbytes).symm
      subst hraw
      exact ⟨hrx, htx, rfl, hwhole, (eq_receivedRow_iff hbytes hwhole).mp hrow⟩
    · rintro ⟨hrx, htx, rfl, hwhole, hrow⟩
      exact ⟨⟨⟨hrx, htx⟩, hwhole⟩, (eq_receivedRow_iff hbytes hwhole).mpr hrow⟩

/-- R147 to R152: the station's own frame. -/
theorem sending_due :
    (.arbitrationWon ∈ s.dueEvents ↔
      s.line.tx = .arbitrating ∧ s.line.misread = false ∧ s.line.sent = 10) ∧
    (.arbitrationLoss ∈ s.dueEvents ↔ s.line.tx = .arbitrating ∧ s.line.misread = true) ∧
    (.bitError ∈ s.dueEvents ↔ s.line.tx = .sending ∧ s.line.misread = true) ∧
    (∀ f, s.line.prepared = some f → (.frameComplete ∈ s.dueEvents ↔ s.line.tx = .sending ∧
      s.line.misread = false ∧
      s.line.sent + 1 = 10 * (encodeFrame s.ownOrigin f.frame).length)) ∧
    (.frameBegin ∈ s.dueEvents ↔ s.line.tx = .free ∧ s.control.lifecycle = .running ∧
      s.line.rx = .idle ∧ s.line.stuck = false ∧
      (s.line.helloOwed = true ∨ s.timebase.timeOwed = true ∨
        (∃ f frames answers, s.repair.originAnswers = (f :: frames) :: answers) ∨
        (∃ e ∈ s.repair.proxy, e.timer.isDue = true ∧
          s.journal.lookup (originOf e.subject) e.seq ≠ none) ∨
        (∃ p, ∃ m ∈ s.missing p, m.timer.isDue = true) ∨
        (s.outbound.records ≠ [] ∧ s.line.holdBack = false))) := by
  obtain ⟨-, -, -, -, -, -, -, hwon, hloss, herror, hcomplete, hbegin⟩ := line_mem_dueEvents s
  refine ⟨hwon.trans ?_, hloss.trans ?_, herror.trans ?_, fun f hf => hcomplete.trans ?_, hbegin.trans ?_⟩
  · rw [State.wonDue, Bool.and_eq_true, Bool.and_eq_true, beq_iff_eq, beq_iff_eq, Bool.not_eq_true', and_assoc]
    rfl
  · rw [State.lossDue, Bool.and_eq_true, beq_iff_eq]
  · rw [State.bitErrorDue, Bool.and_eq_true, beq_iff_eq]
  · rw [State.completionDue, Bool.and_eq_true, Bool.and_eq_true, beq_iff_eq, beq_iff_eq, Bool.not_eq_true', and_assoc,
      comparedAll_iff hf]
  · rw [State.frameDue, Bool.and_eq_true, SendRules.mayBegin_iff, and_iff_right hout, select_isSome_iff]
    simp only [and_assoc]

end

/-- Settles O3: the station's own events, then those of the line. -/
theorem eventsFallDueAtTheirTimes : Obligations.EventsFallDueAtTheirTimes := by
  refine ⟨fun s hout => timers_due hout, fun s hout => ?_⟩
  obtain ⟨hstart, hgap, hhold, hstuck, hclear⟩ := runs_due hout
  obtain ⟨hfault, hlength, hrow⟩ := bytes_due hout
  exact ⟨hstart, hgap, hhold, hstuck, hclear, hfault, hlength, hrow, sending_due hout⟩

end Sys2Proof.DueRules
end
